-- ==== Sys2Proof/Config.lean ====
section
/-! DEFINITION. Config.lean: the capacities of the unit (00_scope.md, "Capacities at a glance") and the free values,
constants without a body for the values the spec does not state. -/

namespace Sys2Proof

/-- R3: the batch train never holds more than 48 entries. -/
abbrev Config.maxTrain : Nat := 48
/-- R159: the Ticket Store never holds more than 32 tickets. -/
abbrev Config.maxTickets : Nat := 32
/-- R168: the event log never holds more than 256 unread records. -/
abbrev Config.maxEvents : Nat := 256
/-- R112: the cut action list holds up to 16 actions. -/
abbrev Config.maxActions : Nat := 16
/-- R105: the pair table holds up to 96 entries. -/
abbrev Config.maxPairs : Nat := 96
/-- R104: product codes are 1 to 24. -/
abbrev Config.maxProduct : Nat := 24
/-- R62: the body window and the settle buffer hold up to 16 readings. -/
abbrev Config.bodyCap : Nat := 16
/-- R67: four GOOD readings in band acquire the body; R64: the mean counts from four readings on. -/
abbrev Config.acquireCount : Nat := 4
/-- R176: a saturating link count stops at 65,535; R170: so does the lost count. -/
abbrev Config.count16Max : Nat := 65535
/-- The largest unsigned 32-bit value (batch IDs R3, pulse counts R29, ticket litres R162). -/
abbrev Config.u32Max : Nat := 4294967295
/-- The largest signed 32-bit value (R168). -/
abbrev Config.i32Max : Nat := 2147483647

/-- FREE VALUE [11]: what an unsigned 64-bit count (a totaliser R29, a delivery volume R25, the open-order count R128)
holds once the exact sum it was to take no longer fits. The argument is that exact sum. -/
opaque Config.count64PastRange : Nat → BitVec 64

/-- FREE VALUE [12]: what a reply field carries when the value is outside the field's width (R179 states no result). -/
opaque Config.replyFieldPastRange : Int → BitVec 64

/-- FREE VALUE [14]: the nominal density a channel takes for the entry ahead of, or behind, an interface when that entry
is no longer in the train (R64 names the entry's nominal density and nothing else). The argument is the interface's
batch ID. -/
opaque Config.densityOfGoneEntry : Nat → BitVec 16

end Sys2Proof
end

