-- ==== Sys2Proof/Word.lean ====
section
/-! DEFINITION. Word.lean: the byte of the host line and of the instrument link. -/

namespace Sys2Proof

/-- One byte on the host line (R175) or the instrument link (R51). -/
abbrev Byte := BitVec 8

end Sys2Proof
end

