-- ==== Sys2Proof/Machine/Bytes.lean ====
section
/-! DEFINITION. Bytes.lean: byte order, the CRC and the item encodings of the host line (R51, R175, R179). -/

namespace Sys2Proof.Machine

/-- The `k` low bytes of `n`, most significant byte first (R175). -/
def bytesOf : Nat → Nat → List Byte
  | 0, _ => []
  | k + 1, n => BitVec.ofNat 8 (n / 256 ^ k) :: bytesOf k n

/-- The number that bytes sent most significant first stand for (R175). -/
def numberOf (bs : List Byte) : Nat := bs.foldl (fun n b => n * 256 + b.toNat) 0

/-- A two's complement number of four bytes (R175). -/
def signedOf (bs : List Byte) : Int :=
  let n := numberOf bs
  if n < 2147483648 then n else (n : Int) - 4294967296

/-- `len` bytes of a payload from offset `off`. -/
def fieldBytes (bs : List Byte) (off len : Nat) : List Byte := (bs.drop off).take len

/-- An unsigned field of a payload. -/
def field (bs : List Byte) (off len : Nat) : Nat := numberOf (fieldBytes bs off len)

/-- One bit of the CRC with polynomial 0x1021 (R51, R175). -/
def crcBit (c : BitVec 16) : BitVec 16 := if c.msb then (c <<< 1) ^^^ 0x1021#16 else c <<< 1

/-- One byte of the CRC. -/
def crcByte (c : BitVec 16) (b : Byte) : BitVec 16 :=
  crcBit (crcBit (crcBit (crcBit (crcBit (crcBit (crcBit (crcBit (c ^^^ (b.zeroExtend 16 <<< 8)))))))))

/-- R51, R175: CRC-16 with polynomial 0x1021 and initial value 0xFFFF, with no final inversion. -/
def crc16 (bs : List Byte) : BitVec 16 := bs.foldl crcByte 0xFFFF#16

/-- An unsigned item of `k` bytes (R179); outside the width the value is free [12]. -/
def encUnsigned (k n : Nat) : List Byte :=
  if n < 256 ^ k then bytesOf k n else bytesOf k (Config.replyFieldPastRange n).toNat

/-- A signed item of `k` bytes in two's complement (R175, R179); outside the width the value is free [12]. -/
def encSigned (k : Nat) (x : Int) : List Byte :=
  if -(2 ^ (8 * k - 1) : Int) ≤ x ∧ x < (2 ^ (8 * k - 1) : Int) then bytesOf k (x % (256 ^ k : Int)).toNat
  else bytesOf k (Config.replyFieldPastRange x).toNat

/-- The mark "all bits set" of an absent item of `k` bytes (R179). -/
def absentOnes (k : Nat) : List Byte := List.replicate k 0xFF#8

/-- The mark "lowest value" of an absent signed item of `k` bytes (R179). -/
def absentLowest : Nat → List Byte
  | 0 => []
  | k + 1 => 0x80#8 :: List.replicate k 0#8

/-- An item of one byte (R179: state, kind, flag, mark, count below 256). -/
def enc1 (n : Nat) : List Byte := encUnsigned 1 n

/-- A present-or-absent mark, a flag or a mark (R179). -/
def encBool (b : Bool) : List Byte := [if b then 1#8 else 0#8]

/-- An unsigned item, absent as all bits set (R179). -/
def encOpt (k : Nat) : Option Nat → List Byte
  | none => absentOnes k
  | some n => encUnsigned k n

/-- A signed item, absent as the lowest value (R179). -/
def encOptSigned (k : Nat) : Option Int → List Byte
  | none => absentLowest k
  | some x => encSigned k x

/-- A batch ID or subject, absent as 0 (R179). -/
def encBatch (b : Option Nat) : List Byte := encUnsigned 4 (b.getD 0)

/-- R175: the whole frame of a reply or request. -/
def frame (address : Nat) (cls : Nat) (payload : List Byte) : List Byte :=
  let covered := bytesOf 1 address ++ bytesOf 1 payload.length ++ bytesOf 1 cls ++ payload
  0xC3#8 :: covered ++ bytesOf 2 (crc16 covered).toNat

end Sys2Proof.Machine
end

