-- ==== Sys2Proof/Syntax.lean ====
section
/-! DEFINITION. Syntax.lean: the commands of the BT-480, one constructor for each row of spec/opcode_table.json, and the
types of their operands. A host request carries the fields of its payload (R178) as numbers, not yet judged; a hand-off
carries the values its rule says are handed. -/

namespace Sys2Proof

/-- The two signature channels, numbered 1 and 2 (section 4.1). -/
inductive Channel where
  | advance | manifold
  deriving DecidableEq, Repr

/-- The two meters, numbered 1 and 2 (R31). -/
inductive MeterId where
  | inlet | delivery
  deriving DecidableEq, Repr

/-- The four instrument slots (section 3.1). -/
inductive SlotNo where
  | one | two | three | four
  deriving DecidableEq, Repr

/-- The eight route channels (R126). -/
inductive RouteNo where
  | r1 | r2 | r3 | r4 | r5 | r6 | r7 | r8
  deriving DecidableEq, Repr

/-- The quality with which a reading reaches a channel (R56, R63). -/
inductive ReadingQuality where
  | good | suspect
  deriving DecidableEq, Repr

/-- The role in which an interface is handed to a channel (R70). -/
inductive HoldRole where
  | primary | confirming
  deriving DecidableEq, Repr

/-- The three levels of a crossing: f at or above h, 500, t (R73). -/
inductive Level where
  | h | mid | t
  deriving DecidableEq, Repr

/-- The sources of an anchor (section 1.6). -/
inductive AnchorSource where
  | advance | manifold | host
  deriving DecidableEq, Repr

/-- The decision of an excursion record (R62). -/
inductive Decision where
  | none | accept | reject
  deriving DecidableEq, Repr

/-- Where two blocks take the consequence of a due action in either order (R21): which takes it first, the Route
Controller (its comparison and the switch) or the Line Tracker (its completion check). -/
inductive Precedence where
  | routeController | lineTracker
  deriving DecidableEq, Repr

/-- The causes of a SAFE demand (R148). -/
inductive SafeCause where
  | involvedFault | lockedOut | outletLost
  deriving DecidableEq, Repr

/-- The event kinds (the table of R168). -/
inductive EventKind where
  | batchAdded | batchClosed | batchAdjusted | batchWithdrawn | windowOpen | interfaceAnchored | interfaceMissed
  | lowContrast | mfConfirmed | mfDisagree | mfNoConfirm | batchComplete | standstill | flowing | trackingGap
  | detectorLocked | detectorCleared | falseDeparture | bodyExcursion | excursionEnded | longMix
  | actionDue | shortBatch | shortBatchMerged | planInvalid | defaultDisposition | stripComplete | actionOverflow
  | switchBegun | switchDone | switchAbandoned | valveTravelFault | valveSwitchFault | valveUncommanded | valveLockout
  | lockoutCleared | safeLineupFailed
  | slotFailed | slotRecovered | pollOverrun | tempSubstituted | meterOverrange
  | modeChange | safeEntered | startCold | startWarm | saveDone | saveFailed | ticketReady | ticketsFull
  deriving DecidableEq, Repr

/-- The values with which the window handling hands an interface to a channel (R70). -/
structure HandOff where
  batch : Nat
  role : HoldRole
  h : Nat
  t : Nat
  maxMix : Nat
  fd : Nat
  fa : Nat
  deriving DecidableEq, Repr

/-- One volumetric cut point: its level and its position in the advance coordinate (R95). -/
structure CutPoint where
  level : Level
  point : Nat
  deriving DecidableEq, Repr

/-- The commands: one constructor for each row of spec/opcode_table.json, in the table's order. -/
inductive Instr where
  | readStatus (part : Nat)
  | readMeters
  | readInstruments
  | readRoutes
  | readTrain (start : Nat)
  | readBatch (id : Nat)
  | readEvents (max : Nat)
  | readTicket (id : Nat)
  | ackTicket (id : Nat)
  | batchLaunch (id product density launched : Nat)
  | batchClose (id launched : Nat)
  | batchAdjust (id : Nat) (change : Int)
  | batchPlan (id kind route volume : Nat)
  | batchWithdraw (id : Nat)
  | interfaceDecide (channel decision : Nat)
  | setMode (code : Nat)
  | valveCommand (route command : Nat)
  | clearLockout (route : Nat)
  | setTime (seconds : Nat)
  | warmStart
  | coldStart
  | requestedStartTaken
  | setParameter (number : Nat) (value : Int)
  | setProduct (code op : Nat) (name : List Byte) (alpha rank dmin dmax : Nat)
  | setPair (ahead behind op rule h t baseMix growth maxMix : Nat)
  | setRoute (route op kind product travel nominal faultLimit : Nat)
  | setSlot (slot role address enable range rate status rateLimit failThreshold recoveryCount : Nat)
  | saveConfiguration
  | readConfiguration (part start : Nat)
  | saveWriteVerified
  | saveWriteFailed
  | hostFrame (bytes : List Byte)
  | frameGapTimeout
  | replySent
  | meterPulse (m : MeterId)
  | meterPeriodClose
  | standstillCountRaise
  | ltSAdvance (newS : Nat)
  | cpSAdvance (newS : Nat) (first : Precedence)
  | periodIncrementBooking (inlet delivery : Nat)
  | bookingStripCheck
  | pollTick
  | pollRequestSent
  | instrumentResponse (bytes : List Byte)
  | responseTimeout
  | channelReading (ch : Channel) (value : Int) (quality : ReadingQuality) (tag : Nat)
  | channelSAdvance (ch : Channel) (newS : Nat)
  | channelSlotLost (ch : Channel)
  | channelSlotRecovered (ch : Channel)
  | channelInterfaceHanded (ch : Channel) (ho : HandOff)
  | channelWindowExpiry (ch : Channel) (batch : Nat)
  | channelRelease (ch : Channel) (batch : Nat)
  | anchorHanded (batch : Nat) (value : Nat) (source : AnchorSource)
  | crossingToLineTracker (ch : Channel) (batch : Nat) (level : Level) (at_ : Nat)
  | crossingToCutPlanner (ch : Channel) (batch : Nat) (level : Level) (at_ : Nat) (forced : Bool) (first : Precedence)
  | volumetricPointsToCutPlanner (batch : Nat) (points : List CutPoint) (first : Precedence)
  | missReturned (ch : Channel) (batch : Nat)
  | channelLostReport (ch : Channel) (batch : Nat)
  | channelLeftOffReport (ch : Channel)
  | lowContrastReport (ch : Channel) (batch : Nat) (role : HoldRole) (contrast : Nat)
  | confirmDepartureHanded (batch : Nat) (start : Nat)
  | manifoldPrimaryCeased
  | earlyDisagreeAdvance (batch : Nat) (first : Precedence)
  | excursionStartHanded (ch : Channel) (start : Nat) (first : Precedence)
  | excursionEndHanded (ch : Channel) (endS : Nat) (decision : Decision) (first : Precedence)
  | actionLeftList (subject : Nat)
  | switchEndHanded
  | safeDemand (route : RouteNo) (cause : SafeCause)
  | holdDemand
  | valveLimitChange (route : RouteNo) (opened closed : Bool)
  | valveTravelExpiry (route : RouteNo)
  | eventPosted (kind : EventKind) (subject : Nat) (detail : Int)
  | powerOn (backupLost : Bool)
  | powerLoss (midChange : Bool)
  | rstinAsserted
  | rstinReleased
  | startEnd
  | overlongLengthReceived
  deriving DecidableEq, Repr

/-- A command with its order operand put to the canonical value, so that a hand-off is recognised whichever order its
taker chooses [6]. -/
def Instr.canonical : Instr → Instr
  | .cpSAdvance v _ => .cpSAdvance v .routeController
  | .crossingToCutPlanner ch b l v f _ => .crossingToCutPlanner ch b l v f .routeController
  | .volumetricPointsToCutPlanner b ps _ => .volumetricPointsToCutPlanner b ps .routeController
  | .earlyDisagreeAdvance b _ => .earlyDisagreeAdvance b .routeController
  | .excursionStartHanded ch v _ => .excursionStartHanded ch v .routeController
  | .excursionEndHanded ch v d _ => .excursionEndHanded ch v d .routeController
  | i => i

end Sys2Proof
end

