-- ==== Sys2Proof/Decode.lean ====
section
/-! DEFINITION. Decode.lean: the request a class and a payload spell on the host line (the catalogue of R178), its
encoder, and decodeTableWord. No row of spec/opcode_table.json gives bits, so no table word spells a command. -/

namespace Sys2Proof

open Sys2Proof.Machine

/-- R178: the payload length the catalogue gives for a request class; none for a class that is not in it. -/
def requestLength : Nat → Option Nat
  | 0x01 => some 1
  | 0x02 => some 0
  | 0x03 => some 0
  | 0x04 => some 0
  | 0x05 => some 1
  | 0x06 => some 4
  | 0x07 => some 1
  | 0x08 => some 4
  | 0x09 => some 4
  | 0x10 => some 11
  | 0x11 => some 8
  | 0x12 => some 8
  | 0x13 => some 10
  | 0x14 => some 4
  | 0x15 => some 2
  | 0x20 => some 1
  | 0x21 => some 2
  | 0x22 => some 1
  | 0x23 => some 4
  | 0x24 => some 0
  | 0x25 => some 0
  | 0x30 => some 5
  | 0x31 => some 17
  | 0x32 => some 20
  | 0x33 => some 9
  | 0x34 => some 13
  | 0x35 => some 0
  | 0x36 => some 2
  | _ => none

/-- R178: the request of a class from its payload fields, in the catalogue's order and widths. -/
def requestFields (cls : Nat) (p : List Byte) : Option Instr :=
  match cls with
  | 0x01 => some (.readStatus (field p 0 1))
  | 0x02 => some .readMeters
  | 0x03 => some .readInstruments
  | 0x04 => some .readRoutes
  | 0x05 => some (.readTrain (field p 0 1))
  | 0x06 => some (.readBatch (field p 0 4))
  | 0x07 => some (.readEvents (field p 0 1))
  | 0x08 => some (.readTicket (field p 0 4))
  | 0x09 => some (.ackTicket (field p 0 4))
  | 0x10 => some (.batchLaunch (field p 0 4) (field p 4 1) (field p 5 2) (field p 7 4))
  | 0x11 => some (.batchClose (field p 0 4) (field p 4 4))
  | 0x12 => some (.batchAdjust (field p 0 4) (signedOf (fieldBytes p 4 4)))
  | 0x13 => some (.batchPlan (field p 0 4) (field p 4 1) (field p 5 1) (field p 6 4))
  | 0x14 => some (.batchWithdraw (field p 0 4))
  | 0x15 => some (.interfaceDecide (field p 0 1) (field p 1 1))
  | 0x20 => some (.setMode (field p 0 1))
  | 0x21 => some (.valveCommand (field p 0 1) (field p 1 1))
  | 0x22 => some (.clearLockout (field p 0 1))
  | 0x23 => some (.setTime (field p 0 4))
  | 0x24 => some .warmStart
  | 0x25 => some .coldStart
  | 0x30 => some (.setParameter (field p 0 1) (signedOf (fieldBytes p 1 4)))
  | 0x31 => some (.setProduct (field p 0 1) (field p 1 1) (fieldBytes p 2 8) (field p 10 2) (field p 12 1) (field p 13 2)
      (field p 15 2))
  | 0x32 => some (.setPair (field p 0 1) (field p 1 1) (field p 2 1) (field p 3 1) (field p 4 2) (field p 6 2)
      (field p 8 4) (field p 12 4) (field p 16 4))
  | 0x33 => some (.setRoute (field p 0 1) (field p 1 1) (field p 2 1) (field p 3 1) (field p 4 2) (field p 6 2)
      (field p 8 1))
  | 0x34 => some (.setSlot (field p 0 1) (field p 1 1) (field p 2 1) (field p 3 1) (field p 4 1) (field p 5 1)
      (field p 6 1) (field p 7 4) (field p 11 1) (field p 12 1))
  | 0x35 => some .saveConfiguration
  | 0x36 => some (.readConfiguration (field p 0 1) (field p 1 1))
  | _ => none

/-- What the dispatch of R177 finds in a class and a payload. -/
inductive Dispatched where
  | unknownRequest
  | badLength (received : Nat)
  | request (i : Instr)
  deriving DecidableEq, Repr

/-- R177, steps 1 to 3: an unknown class first, then a wrong length, then the request. -/
def decodeRequest (cls : Nat) (p : List Byte) : Dispatched :=
  match requestLength cls with
  | none => .unknownRequest
  | some n =>
    if p.length = n then
      match requestFields cls p with
      | some i => .request i
      | none => .unknownRequest
    else .badLength p.length

/-- The two's complement bytes of a signed request field of four bytes (R175). -/
def signedBytes (x : Int) : List Byte := bytesOf 4 (x % 4294967296).toNat

/-- R178: the class and the payload by which the host sends a request; none for a command that is no request. -/
def encodeRequest : Instr → Option (Nat × List Byte)
  | .readStatus p => some (0x01, bytesOf 1 p)
  | .readMeters => some (0x02, [])
  | .readInstruments => some (0x03, [])
  | .readRoutes => some (0x04, [])
  | .readTrain i => some (0x05, bytesOf 1 i)
  | .readBatch id => some (0x06, bytesOf 4 id)
  | .readEvents n => some (0x07, bytesOf 1 n)
  | .readTicket id => some (0x08, bytesOf 4 id)
  | .ackTicket id => some (0x09, bytesOf 4 id)
  | .batchLaunch id p d l => some (0x10, bytesOf 4 id ++ bytesOf 1 p ++ bytesOf 2 d ++ bytesOf 4 l)
  | .batchClose id l => some (0x11, bytesOf 4 id ++ bytesOf 4 l)
  | .batchAdjust id c => some (0x12, bytesOf 4 id ++ signedBytes c)
  | .batchPlan id k r v => some (0x13, bytesOf 4 id ++ bytesOf 1 k ++ bytesOf 1 r ++ bytesOf 4 v)
  | .batchWithdraw id => some (0x14, bytesOf 4 id)
  | .interfaceDecide c d => some (0x15, bytesOf 1 c ++ bytesOf 1 d)
  | .setMode c => some (0x20, bytesOf 1 c)
  | .valveCommand r c => some (0x21, bytesOf 1 r ++ bytesOf 1 c)
  | .clearLockout r => some (0x22, bytesOf 1 r)
  | .setTime n => some (0x23, bytesOf 4 n)
  | .warmStart => some (0x24, [])
  | .coldStart => some (0x25, [])
  | .setParameter n v => some (0x30, bytesOf 1 n ++ signedBytes v)
  | .setProduct c o name a r lo hi =>
    some (0x31, bytesOf 1 c ++ bytesOf 1 o ++ name ++ bytesOf 2 a ++ bytesOf 1 r ++ bytesOf 2 lo ++ bytesOf 2 hi)
  | .setPair a b o r h t bm g mm =>
    some (0x32, bytesOf 1 a ++ bytesOf 1 b ++ bytesOf 1 o ++ bytesOf 1 r ++ bytesOf 2 h ++ bytesOf 2 t ++ bytesOf 4 bm
      ++ bytesOf 4 g ++ bytesOf 4 mm)
  | .setRoute r o k p tl nt fl =>
    some (0x33, bytesOf 1 r ++ bytesOf 1 o ++ bytesOf 1 k ++ bytesOf 1 p ++ bytesOf 2 tl ++ bytesOf 2 nt ++ bytesOf 1 fl)
  | .setSlot s r a e rg rt st rl ft rc =>
    some (0x34, bytesOf 1 s ++ bytesOf 1 r ++ bytesOf 1 a ++ bytesOf 1 e ++ bytesOf 1 rg ++ bytesOf 1 rt ++ bytesOf 1 st
      ++ bytesOf 4 rl ++ bytesOf 1 ft ++ bytesOf 1 rc)
  | .saveConfiguration => some (0x35, [])
  | .readConfiguration p i => some (0x36, bytesOf 1 p ++ bytesOf 1 i)
  | _ => none

/-- The request class of a command that is a request (R178), 0 for one that is not. -/
def requestClass (i : Instr) : Nat :=
  match encodeRequest i with
  | some (c, _) => c
  | none => 0

/-- The command a table word spells: none, since no row of spec/opcode_table.json gives bits. -/
def decodeTableWord (_nbits _w : Nat) : Option Instr := none

end Sys2Proof
end

