-- ==== Sys2Proof/Machine/Types.lean ====
section
/-! DEFINITION. Types.lean: the plain data the blocks of the BT-480 own (00_scope.md, "Functional blocks"). -/

namespace Sys2Proof.Machine

/-- One item for each of the eight route channels (R126). -/
structure PerRoute (α : Type) where
  r1 : α
  r2 : α
  r3 : α
  r4 : α
  r5 : α
  r6 : α
  r7 : α
  r8 : α
  deriving DecidableEq, Repr

/-- One item for each of the four slots (R47). -/
structure PerSlot (α : Type) where
  one : α
  two : α
  three : α
  four : α
  deriving DecidableEq, Repr

/-- One item for each of the two channels (R62). -/
structure PerChannel (α : Type) where
  advance : α
  manifold : α
  deriving DecidableEq, Repr

/-- One item for each of the three crossing levels (R73). -/
structure Levels (α : Type) where
  h : α
  mid : α
  t : α
  deriving DecidableEq, Repr

/-! ### Working tables (R182) -/

/-- R104: one entry of the product table. -/
structure ProductEntry where
  name : List Byte
  alpha : Nat
  rank : Nat
  dmin : Nat
  dmax : Nat
  deriving DecidableEq, Repr

/-- R105: the rule of a pair. -/
inductive PairRule where
  | toAhead | toBehind | split | transmix
  deriving DecidableEq, Repr

/-- R105: one entry of the pair table, or the default pair. -/
structure PairEntry where
  rule : PairRule
  h : Nat
  t : Nat
  baseMix : Nat
  growth : Nat
  maxMix : Nat
  deriving DecidableEq, Repr

/-- A pair table row: the ordered pair of product codes and its entry (R105). -/
structure PairRow where
  ahead : Nat
  behind : Nat
  entry : PairEntry
  deriving DecidableEq, Repr

/-- A product table row: its code and its entry (R104). -/
structure ProductRow where
  code : Nat
  entry : ProductEntry
  deriving DecidableEq, Repr

/-- R126: the kind of a route. -/
inductive RouteKind where
  | through
  | product (code : Nat)
  | transmix
  deriving DecidableEq, Repr

/-- R126: one entry of the route table. -/
structure RouteEntry where
  kind : RouteKind
  travelLimit : Nat
  nominalTravel : Nat
  faultLimit : Nat
  deriving DecidableEq, Repr

/-- R47: the role of a slot. -/
inductive SlotRole where
  | none | densAdvance | densManifold | tempInlet | tempDelivery
  deriving DecidableEq, Repr

/-- R47: the setting of a check. -/
inductive CheckPolicy where
  | off | drop | flag
  deriving DecidableEq, Repr

/-- R47: the configuration of a slot. -/
structure SlotConfig where
  role : SlotRole
  address : Nat
  enabled : Bool
  range : CheckPolicy
  rate : CheckPolicy
  status : CheckPolicy
  rateLimit : Nat
  failThreshold : Nat
  recoveryCount : Nat
  deriving DecidableEq, Repr

/-- R108: the default disposition. -/
inductive DefaultDisposition where
  | pass | transmixAll
  deriving DecidableEq, Repr

/-- The station parameters, in the number order of R181. -/
structure Params where
  unitAddress : Nat
  leadVolume : Nat
  pulseWeightInlet : Nat
  pulseWeightDelivery : Nat
  pulseLimitInlet : Nat
  pulseLimitDelivery : Nat
  fallbackInlet : Int
  fallbackDelivery : Int
  defaultAlpha : Nat
  standstillFlow : Nat
  standstillTime : Nat
  resumeVolume : Nat
  pollPeriod : Nat
  responseTimeout : Nat
  minContrast : Nat
  bodyBand : Nat
  fd : Nat
  fa : Nat
  hysteresis : Nat
  holdVolume : Nat
  settleVolume : Nat
  minHalfwidth : Nat
  toleranceRate : Nat
  maxHalfwidth : Nat
  gapParameter : Nat
  volumetricFactor : Nat
  confirmTolerance : Nat
  defaultDisposition : DefaultDisposition
  minClean : Nat
  safeRoute : Option RouteNo
  routingMask : Nat
  watermark : Nat
  ticketAttention : Bool
  deriving DecidableEq, Repr

/-- The working tables (R182): what a save stores and a start loads. -/
structure Tables where
  routes : PerRoute (Option RouteEntry)
  products : List ProductRow
  pairs : List PairRow
  defaultPair : PairEntry
  slots : PerSlot SlotConfig
  params : Params
  deriving DecidableEq, Repr

/-! ### Station Clock (R157) -/

structure Clock where
  /-- the free-running millisecond count -/
  ms : Nat
  seconds : Nat
  milli : Nat
  isSet : Bool
  deriving DecidableEq, Repr

/-! ### Meter Unit (R29) -/

/-- R29, R44: the record of the last closed period. -/
structure PeriodRecord where
  n : Nat
  gross : Nat
  temp : Int
  ctl : Nat
  std : Nat
  substituted : Bool
  overrange : Bool
  deriving DecidableEq, Repr

/-- R29: the state of one meter. -/
structure Meter where
  pulses : Nat
  gross : Nat
  std : Nat
  residue : Nat
  last : PeriodRecord
  flow : Nat
  subLatch : Bool
  overLatch : Bool
  deriving DecidableEq, Repr

/-- Section 2.6: the flow state. -/
inductive FlowState where
  | flowing | standstill
  deriving DecidableEq, Repr

structure MeterUnit where
  inlet : Meter
  delivery : Meter
  flowState : FlowState
  lowRun : Nat
  resume : Nat
  /-- the millisecond count at which the open period closes (R30) -/
  periodDue : Nat
  deriving DecidableEq, Repr

/-! ### Instrument Poller (R47) -/

inductive Quality where
  | noValue | good | suspect | held | failed
  deriving DecidableEq, Repr

/-- R55: the check named as the cause of an outcome. -/
inductive CheckCause where
  | status | range | rate
  deriving DecidableEq, Repr

/-- R55: the last result of a slot. -/
inductive LastResult where
  | none | good | suspect (c : CheckCause) | noResponse | frameFault | dropped (c : CheckCause)
  deriving DecidableEq, Repr

/-- A last accepted value with its S tag (R47). -/
structure Accepted where
  value : Int
  tag : Nat
  deriving DecidableEq, Repr

/-- R47: the state of a slot. -/
structure SlotState where
  quality : Quality
  last : Option Accepted
  rateRef : Option Int
  health : Nat
  recovery : Nat
  result : LastResult
  polls : Nat
  failures : Nat
  deriving DecidableEq, Repr

/-- R49, R52: what the poll in flight is doing. -/
inductive PollPhase where
  | sending
  | waiting (deadline : Nat)
  deriving DecidableEq, Repr

/-- R49: a running poll cycle. -/
structure Cycle where
  startMs : Nat
  slot : SlotNo
  phase : PollPhase
  deriving DecidableEq, Repr

structure Poller where
  slots : PerSlot SlotState
  cycle : Option Cycle
  deferred : Bool
  overrunLatch : Bool
  /-- the millisecond count at which the next poll tick falls due (R49) -/
  tickDue : Nat
  /-- the bytes of the response being assembled, from its start byte on (R52) -/
  assembled : List Byte
  deriving DecidableEq, Repr

/-! ### Signature Detector (R62) -/

inductive ChannelMode where
  | off | acquire | clean | watch | locked | departing | mixed | settling | excursion
  deriving DecidableEq, Repr

structure Reading where
  value : Int
  quality : ReadingQuality
  tag : Nat
  deriving DecidableEq, Repr

/-- R64: the reference pair. -/
structure RefPair where
  ahead : Int
  behind : Int
  deriving DecidableEq, Repr

/-- R69: an open excursion measure, with the reading that opened it (R77). -/
structure Measure where
  start : Nat
  first : Int
  deriving DecidableEq, Repr

/-- R62: the excursion record. -/
structure Excursion where
  start : Nat
  deviation : Int
  endS : Option Nat
  decision : Decision
  isOpen : Bool
  deriving DecidableEq, Repr

structure ChannelState where
  mode : ChannelMode
  body : List Int
  acquire : List Int
  current : Option Reading
  /-- the held interface the channel follows -/
  active : Option HandOff
  /-- the held interface marked waiting -/
  waiting : Option HandOff
  /-- a given-up interface whose mixed zone is still followed to CLEAN (R70, R101) -/
  ghost : Option HandOff
  pair : Option RefPair
  depStart : Option Nat
  expiryMark : Bool
  settleStart : Option Nat
  settleBuf : List Int
  measure : Option Measure
  inBand : Option Nat
  excursion : Option Excursion
  /-- the crossings recorded for the interface followed (R73) -/
  crossings : Levels (Option Nat)
  /-- the S of the last event taken (R63) -/
  lastS : Nat
  deriving DecidableEq, Repr

/-! ### Line Tracker (R3) and window handling (R82) -/

inductive TrackState where
  | far | window | anchored | volumetric | cleared
  deriving DecidableEq, Repr

inductive AnchorMethod where
  | advance | manifold | host | volumetric
  deriving DecidableEq, Repr

/-- R107: a governing disposition. -/
inductive Disposition where
  | pass
  | take (r : RouteNo)
  | strip (r : RouteNo) (litres : Nat)
  | transmixAll
  deriving DecidableEq, Repr

/-- R89: the snapshot. -/
structure Snapshot where
  rule : PairRule
  h : Nat
  t : Nat
  mix : Nat
  halfwidth : Nat
  contrast : Option Nat
  lowContrast : Bool
  dispAhead : Disposition
  dispBehind : Disposition
  primary : Option Channel
  maxMix : Nat
  fd : Nat
  fa : Nat
  deriving DecidableEq, Repr

/-- R96, R98: the result of a manifold confirmation. -/
inductive ConfirmResult where
  | confirmed | disagree | noConfirm
  deriving DecidableEq, Repr

/-- R3: a leading interface record. -/
structure Interface where
  pos : Nat
  track : TrackState
  method : Option AnchorMethod
  residual : Option Int
  standstills : Nat
  snapshot : Option Snapshot
  crossings : Levels (Option Nat)
  supplied : Levels Bool
  mfStart : Option Nat
  mfResult : Option ConfirmResult
  deriving DecidableEq, Repr

/-- R163: the ticket flags. -/
structure TicketFlags where
  inherited : Bool
  defaultDisposition : Bool
  merged : Bool
  lateCut : Bool
  forced : Bool
  volumetric : Bool
  protected_ : Bool
  stripShort : Bool
  tempSubstituted : Bool
  safe : Bool
  manual : Bool
  crossDelivery : Bool
  deriving DecidableEq, Repr

/-- R25: a delivery record. -/
structure Delivery where
  routes : PerRoute Nat
  unaccounted : Nat
  startS : Option Nat
  endS : Option Nat
  flags : TicketFlags
  deriving DecidableEq, Repr

/-- R3: a batch entry, with the Cut Planner's marks for it (R119, R122, R123, R124). -/
structure Entry where
  id : Nat
  product : Nat
  density : Nat
  launched : Option Nat
  adjust : Int
  /-- completed and waiting for room in the Ticket Store (R9) -/
  complete : Bool
  disposition : Option Disposition
  inherited : Bool
  base : Option Nat
  leading : Option Interface
  delivery : Delivery
  /-- R123: the trigger of the ENTER scheduled for the leading interface -/
  enterTrigger : Option Int
  /-- R123: the trigger of the first action of the leading interface -/
  firstTrigger : Option Int
  /-- R119: the first action of the leading interface has left the list -/
  firstLeft : Bool
  /-- R123: the clean volume of this batch has been measured -/
  measured : Bool
  /-- R122: a PROTECT stands as the leading interface's DIVERT -/
  protectStands : Bool
  /-- R124: the strip mark -/
  stripMark : Bool
  deriving DecidableEq, Repr

inductive BatchState where
  | upstream | inLead | atManifold | complete
  deriving DecidableEq, Repr

/-- R82: the window record; `lost` is its hand status. -/
structure WindowRecord where
  batch : Nat
  channel : Channel
  lower : Int
  upper : Int
  lost : Bool
  expiryHanded : Bool
  deriving DecidableEq, Repr

/-- R82: the confirmation record; `lost` is its hand status. -/
structure ConfirmRecord where
  batch : Nat
  lower : Int
  upper : Int
  tolerance : Nat
  lost : Bool
  expiryHanded : Bool
  deriving DecidableEq, Repr

structure LineTracker where
  train : List Entry
  sLast : Nat
  gap : Nat
  /-- the S of the S advance last taken (R8) -/
  curS : Nat
  window : Option WindowRecord
  confirm : Option ConfirmRecord
  deriving DecidableEq, Repr

/-! ### Cut Planner (R111, R112) -/

inductive ActionKind where
  | divert | enter | protect | return_
  deriving DecidableEq, Repr

/-- R112: the line-up of an action, before its route set is formed. -/
inductive LineupOf where
  | transmix
  | bodyOf (batch : Nat)
  | bodyOfManifold
  deriving DecidableEq, Repr

structure ActionFlags where
  late : Bool
  forced : Bool
  volumetric : Bool
  advanced : Bool
  merged : Bool
  deriving DecidableEq, Repr

structure Action where
  number : Nat
  kind : ActionKind
  subject : Nat
  trigger : Int
  lineup : LineupOf
  routes : List RouteNo
  flags : ActionFlags
  channel : Option Channel
  deriving DecidableEq, Repr

inductive PlanKind where
  | body | transmix | protect | safe
  deriving DecidableEq, Repr

structure Plan where
  routes : List RouteNo
  owner : Nat
  kind : PlanKind
  deriving DecidableEq, Repr

/-- R120: the mark of a protected excursion: the number and the trigger of its PROTECT. -/
structure Protection where
  number : Nat
  trigger : Int
  deriving DecidableEq, Repr

structure CutPlanner where
  actions : List Action
  nextNum : Nat
  plan : Option Plan
  protectCount : PerChannel Nat
  protectedMark : PerChannel (Option Protection)
  /-- counted protections whose excursion closed without an end (R121) -/
  orphans : PerChannel Nat
  /-- the S of the S advance last taken (R117) -/
  curS : Nat
  deriving DecidableEq, Repr

/-! ### Route Controller (R128, R136) -/

inductive ValveState where
  | closed | opening | opened | closing | unknown | fault | lockedOut
  deriving DecidableEq, Repr

structure Valve where
  state : ValveState
  faults : Nat
  /-- the millisecond count at which the travel timer started; absent while it is stopped -/
  timerStart : Option Nat
  /-- the travel limit in seconds, read when the valve was commanded (R126) -/
  timerLimit : Nat
  stamp : Nat
  deriving DecidableEq, Repr

structure Limits where
  opened : Bool
  closed : Bool
  deriving DecidableEq, Repr

inductive Phase where
  | opening | closing
  deriving DecidableEq, Repr

structure Switch where
  target : List RouteNo
  owner : Nat
  phase : Phase
  commanded : List RouteNo
  /-- those of `commanded` that have entered their end position (R136, R137) -/
  arrived : List RouteNo
  abandon : Bool
  startS : Nat
  deriving DecidableEq, Repr

structure RouteController where
  valves : PerRoute (Option Valve)
  limits : PerRoute Limits
  openOrder : Nat
  switching : Option Switch
  latch : Bool
  deriving DecidableEq, Repr

/-! ### Station Mode (R145) -/

inductive StationMode where
  | unconfigured | hold | tracking | manual | safe
  deriving DecidableEq, Repr

inductive StartKind where
  | cold | warm
  deriving DecidableEq, Repr

inductive StartCause where
  | powerOn | rstin | request
  deriving DecidableEq, Repr

structure ModeState where
  mode : StationMode
  kind : StartKind
  cause : StartCause
  /-- the retained-memory check is valid (R152) -/
  check : Bool
  /-- the outcome of the last power-on test (R152) -/
  powerOnTest : Bool
  /-- a start is under way -/
  starting : Bool
  /-- the start an accepted request has asked for (R153) -/
  requested : Option StartKind
  deriving DecidableEq, Repr

/-! ### Ticket Store (R161) -/

structure RouteLitres where
  route : RouteNo
  litres : Nat
  deriving DecidableEq, Repr

structure Ticket where
  id : Nat
  product : Nat
  flags : TicketFlags
  launched : Nat
  adjust : Int
  measured : Option Nat
  leading : Option AnchorMethod
  trailing : Option AnchorMethod
  startS : Nat
  endS : Nat
  routes : List RouteLitres
  unaccounted : Nat
  deriving DecidableEq, Repr

/-! ### Event Log (R168) -/

structure EventRecord where
  seq : Nat
  seconds : Nat
  milli : Nat
  s : Nat
  kind : EventKind
  subject : Nat
  detail : Int
  deriving DecidableEq, Repr

structure EventLog where
  records : List EventRecord
  seq : Nat
  lost : Nat
  overflow : Bool
  attn : Bool
  deriving DecidableEq, Repr

/-! ### Link Interface and Configuration Store (R176, R182) -/

/-- R176: the frame assembler; while collecting it holds the bytes of the partial frame, from the start byte on. -/
inductive Assembler where
  | hunting
  | collecting (bytes : List Byte)
  | closed
  deriving DecidableEq, Repr

/-- The reply being sent: its class and payload (R177). -/
structure Reply where
  cls : Nat
  payload : List Byte
  deriving DecidableEq, Repr

structure LinkInterface where
  assembler : Assembler
  badCrc : Nat
  dropped : Nat
  refusals : Nat
  /-- the unit address in use (R176) -/
  unitAddr : Nat
  reply : Option Reply
  /-- the edited mark (R182) -/
  edited : Bool
  deriving DecidableEq, Repr

/-- R182: the image, present while the store's check is good, and the image being written while a save is in progress. -/
structure ConfigStore where
  image : Option Tables
  saving : Option Tables
  deriving DecidableEq, Repr

end Sys2Proof.Machine
end

