-- ==== Sys2Proof/Machine/Factory.lean ====
section
/-! DEFINITION. Factory.lean: the factory values of the working tables, and the empty records the blocks begin with. -/

namespace Sys2Proof.Machine

/-- The same item for each route. -/
def PerRoute.all {α : Type} (a : α) : PerRoute α := ⟨a, a, a, a, a, a, a, a⟩

/-- The same item for each slot. -/
def PerSlot.all {α : Type} (a : α) : PerSlot α := ⟨a, a, a, a⟩

/-- The same item for each channel. -/
def PerChannel.all {α : Type} (a : α) : PerChannel α := ⟨a, a⟩

/-- The same item for each level. -/
def Levels.all {α : Type} (a : α) : Levels α := ⟨a, a, a⟩

/-- R181: the factory values of the station parameters. -/
def Params.factory : Params where
  unitAddress := 1
  leadVolume := 0
  pulseWeightInlet := 1000
  pulseWeightDelivery := 1000
  pulseLimitInlet := 10000
  pulseLimitDelivery := 10000
  fallbackInlet := 1500
  fallbackDelivery := 1500
  defaultAlpha := 900
  standstillFlow := 5000
  standstillTime := 60
  resumeVolume := 1000
  pollPeriod := 1000
  responseTimeout := 100
  minContrast := 30
  bodyBand := 20
  fd := 30
  fa := 970
  hysteresis := 15
  holdVolume := 400
  settleVolume := 2000
  minHalfwidth := 2000
  toleranceRate := 2
  maxHalfwidth := 200000
  gapParameter := 0
  volumetricFactor := 1500
  confirmTolerance := 5000
  defaultDisposition := .transmixAll
  minClean := 5000
  safeRoute := none
  routingMask := 63
  watermark := 192
  ticketAttention := true

/-- R47: the factory configuration of the slot with this number. -/
def SlotConfig.factory (number : Nat) : SlotConfig where
  role := .none
  address := number
  enabled := false
  range := .drop
  rate := .flag
  status := .drop
  rateLimit := 200
  failThreshold := 5
  recoveryCount := 10

/-- R105: the factory default pair. -/
def PairEntry.factory : PairEntry where
  rule := .transmix
  h := 100
  t := 900
  baseMix := 20000
  growth := 2000
  maxMix := 50000

/-- R156: the factory values of the working tables. -/
def Tables.factory : Tables where
  routes := .all none
  products := []
  pairs := []
  defaultPair := .factory
  slots := ⟨.factory 1, .factory 2, .factory 3, .factory 4⟩
  params := .factory

/-- R44, R45: a last-period record of zeros. -/
def PeriodRecord.zero : PeriodRecord := ⟨0, 0, 0, 0, 0, false, false⟩

/-- R45: a meter after a cold start. -/
def Meter.zero : Meter := ⟨0, 0, 0, 0, .zero, 0, false, false⟩

/-- R61: a slot's state at the beginning. -/
def SlotState.start : SlotState := ⟨.noValue, none, none, 0, 0, .none, 0, 0⟩

/-- R81: a channel after a start, in the given mode, with the S standing. -/
def ChannelState.start (m : ChannelMode) (s : Nat) : ChannelState where
  mode := m
  body := []
  acquire := []
  current := none
  active := none
  waiting := none
  ghost := none
  pair := none
  depStart := none
  expiryMark := false
  settleStart := none
  settleBuf := []
  measure := none
  inBand := none
  excursion := none
  crossings := .all none
  lastS := s

/-- R25: no ticket flag set. -/
def TicketFlags.none : TicketFlags :=
  ⟨false, false, false, false, false, false, false, false, false, false, false, false⟩

/-- R25: an empty delivery record. -/
def Delivery.empty : Delivery := ⟨.all 0, 0, none, none, .none⟩

/-- R125: the Cut Planner after a cold start. -/
def CutPlanner.cold : CutPlanner := ⟨[], 1, none, .all 0, .all none, .all 0, 0⟩

/-- R27, R102: the Line Tracker after a cold start. -/
def LineTracker.cold : LineTracker := ⟨[], 0, 0, 0, none, none⟩

/-- No action flag. -/
def ActionFlags.none : ActionFlags := ⟨false, false, false, false, false⟩

end Sys2Proof.Machine
end

