-- ==== Sys2Proof/Machine/Operands.lean ====
section
/-! DEFINITION. Operands.lean: numbers of routes, slots and channels, the clamping of tuning numbers (R180), and the
rounding of the spec's arithmetic (00_scope.md, "Rounding"). -/

namespace Sys2Proof.Machine

/-- R126: the number of a route, 1 to 8. -/
def routeNumber : RouteNo → Nat
  | .r1 => 1
  | .r2 => 2
  | .r3 => 3
  | .r4 => 4
  | .r5 => 5
  | .r6 => 6
  | .r7 => 7
  | .r8 => 8

/-- The route with a number; none outside 1 to 8. -/
def routeOfNumber : Nat → Option RouteNo
  | 1 => some .r1
  | 2 => some .r2
  | 3 => some .r3
  | 4 => some .r4
  | 5 => some .r5
  | 6 => some .r6
  | 7 => some .r7
  | 8 => some .r8
  | _ => none

/-- The routes in number order. -/
def allRoutes : List RouteNo := [.r1, .r2, .r3, .r4, .r5, .r6, .r7, .r8]

/-- The slots in number order. -/
def allSlots : List SlotNo := [.one, .two, .three, .four]

/-- R47: the number of a slot. -/
def slotNumber : SlotNo → Nat
  | .one => 1
  | .two => 2
  | .three => 3
  | .four => 4

/-- The slot with a number; none outside 1 to 4. -/
def slotOfNumber : Nat → Option SlotNo
  | 1 => some .one
  | 2 => some .two
  | 3 => some .three
  | 4 => some .four
  | _ => none

/-- Section 4.1: the number of a channel. -/
def channelNumber : Channel → Nat
  | .advance => 1
  | .manifold => 2

/-- The channel with a number (R100). -/
def channelOfNumber : Nat → Option Channel
  | 1 => some .advance
  | 2 => some .manifold
  | _ => none

/-- The other channel. -/
def otherChannel : Channel → Channel
  | .advance => .manifold
  | .manifold => .advance

/-- R31: the number of a meter. -/
def meterNumber : MeterId → Nat
  | .inlet => 1
  | .delivery => 2

/-- R136: the route-set code, the sum over the routes r of a set of 2 to the power r − 1. -/
def routeSetCode (rs : List RouteNo) : Nat := ((rs.dedup).map (fun r => 2 ^ (routeNumber r - 1))).sum

/-- R180: a tuning number outside its range is taken as the nearer end. -/
def clampInt (lo hi x : Int) : Int := max lo (min hi x)

/-- R180: a tuning number of a range that begins at 0 or above. -/
def clampNat (lo hi : Nat) (x : Int) : Nat := (clampInt lo hi x).toNat

/-- 00_scope.md, "Rounding": the quotient rounded to nearest, halves away from zero. -/
def roundDiv (a b : Int) : Int :=
  let q : Int := ((2 * a.natAbs + b.natAbs) / (2 * b.natAbs) : Nat)
  if (0 ≤ a ∧ 0 ≤ b) ∨ (a < 0 ∧ b < 0) then q else -q

/-- R66, R67: the rounded mean of a list of readings; absent for none. -/
def meanOf (xs : List Int) : Option Int :=
  match xs with
  | [] => none
  | _ :: _ => some (roundDiv xs.sum xs.length)

/-- R66: whether a reading differs from a mean by no more than the body band. -/
def within (band : Nat) (x mean : Int) : Bool := decide ((x - mean).natAbs ≤ band)

/-- The last `k` items of a list (R66, R67, R74: the oldest is removed). -/
def keepLast {α : Type} (k : Nat) (xs : List α) : List α := xs.drop (xs.length - k)

/-- A count that stops at `top` (R29, R170, R176). -/
def satInc (top n : Nat) : Nat := if n < top then n + 1 else top

/-- R47: a 32-bit count that wraps. -/
def wrapInc32 (n : Nat) : Nat := (n + 1) % 4294967296

/-- The exact sum while it fits an unsigned 64-bit count; a free value [11] beyond. -/
def add64 (a b : Nat) : Nat := if a + b < 2 ^ 64 then a + b else (Config.count64PastRange (a + b)).toNat

end Sys2Proof.Machine
end

