-- ==== Sys2Proof/Machine/State.lean ====
section
/-! DEFINITION. State.lean: the whole state of the BT-480, the reasons a step can stop, and the state after reset. -/

namespace Sys2Proof.Machine

/-- The spec names no condition that stops the machine: no constructor, so no step answers a fault. -/
inductive Fault where
  deriving DecidableEq, Repr

/-- Why a command has no meaning. -/
inductive Refusal where
  /-- Raised by `exec` alone, for a row of the table without a meaning (none is left). Safe: the model stops where the
  hardware goes on. -/
  | notModelled (mnemonic : String)
  deriving DecidableEq, Repr

/-- The state of the unit: what each functional block owns (00_scope.md), the pins, the queue of commands that wait
and the hand-offs between the blocks. -/
structure State where
  /-- the unit has power (R152) -/
  powered : Bool
  /-- RSTIN is asserted (R153) -/
  rstin : Bool
  clock : Clock
  tables : Tables
  cs : ConfigStore
  mu : MeterUnit
  ip : Poller
  sd : PerChannel ChannelState
  lt : LineTracker
  cp : CutPlanner
  rc : RouteController
  sm : ModeState
  ts : List Ticket
  el : EventLog
  li : LinkInterface
  /-- what one block has handed another and is not yet taken, oldest first -/
  handed : List Instr
  /-- the commands that wait, first in first out -/
  pending : List Instr
  deriving DecidableEq, Repr

/-- The machine right after reset: the end of a cold start from power-on with a bad configuration store (R45, R61, R81,
R102, R125, R144, R155, R156, R167, R174, R185), every value the spec leaves open as notes/assumptions/4.md says. -/
def State.reset : State where
  powered := true
  rstin := false
  clock := ⟨0, 0, 0, false⟩
  tables := .factory
  cs := ⟨none, none⟩
  mu := ⟨.zero, .zero, .standstill, 0, 0, 1000⟩
  ip := ⟨.all .start, none, false, false, 1000, []⟩
  sd := .all (.start .off 0)
  lt := .cold
  cp := .cold
  rc := ⟨.all none, .all ⟨false, false⟩, 0, none, false⟩
  sm := ⟨.unconfigured, .cold, .powerOn, true, false, false, none⟩
  ts := []
  el := ⟨[⟨1, 0, 0, 0, .startCold, 1, 0⟩], 1, 0, false, true⟩
  li := ⟨.hunting, 0, 0, 0, 1, none, true⟩
  handed := []
  pending := []

end Sys2Proof.Machine
end

