-- ==== Sys2Proof/Machine/Ops.lean ====
section
/-! DEFINITION. Ops.lean: the named operations over the state: items by route, slot, channel and level, the hand-offs
between the blocks, the shape of every command, the replies, and the look-ups in the train and the tables. -/

namespace Sys2Proof.Machine

/-! ### Items by number -/

def PerRoute.get {α : Type} (p : PerRoute α) : RouteNo → α
  | .r1 => p.r1
  | .r2 => p.r2
  | .r3 => p.r3
  | .r4 => p.r4
  | .r5 => p.r5
  | .r6 => p.r6
  | .r7 => p.r7
  | .r8 => p.r8

def PerRoute.set {α : Type} (p : PerRoute α) (r : RouteNo) (a : α) : PerRoute α :=
  match r with
  | .r1 => { p with r1 := a }
  | .r2 => { p with r2 := a }
  | .r3 => { p with r3 := a }
  | .r4 => { p with r4 := a }
  | .r5 => { p with r5 := a }
  | .r6 => { p with r6 := a }
  | .r7 => { p with r7 := a }
  | .r8 => { p with r8 := a }

def PerRoute.build {α : Type} (f : RouteNo → α) : PerRoute α :=
  ⟨f .r1, f .r2, f .r3, f .r4, f .r5, f .r6, f .r7, f .r8⟩

def PerSlot.get {α : Type} (p : PerSlot α) : SlotNo → α
  | .one => p.one
  | .two => p.two
  | .three => p.three
  | .four => p.four

def PerSlot.set {α : Type} (p : PerSlot α) (k : SlotNo) (a : α) : PerSlot α :=
  match k with
  | .one => { p with one := a }
  | .two => { p with two := a }
  | .three => { p with three := a }
  | .four => { p with four := a }

def PerChannel.get {α : Type} (p : PerChannel α) : Channel → α
  | .advance => p.advance
  | .manifold => p.manifold

def PerChannel.set {α : Type} (p : PerChannel α) (c : Channel) (a : α) : PerChannel α :=
  match c with
  | .advance => { p with advance := a }
  | .manifold => { p with manifold := a }

def Levels.get {α : Type} (p : Levels α) : Level → α
  | .h => p.h
  | .mid => p.mid
  | .t => p.t

def Levels.set {α : Type} (p : Levels α) (l : Level) (a : α) : Levels α :=
  match l with
  | .h => { p with h := a }
  | .mid => { p with mid := a }
  | .t => { p with t := a }

/-- The levels in the order in which they are taken (R73, R113). -/
def allLevels : List Level := [.h, .mid, .t]

/-! ### Results and hand-offs -/

/-- What a command answers. -/
abbrev Result := Host.Outcome State Fault Refusal

/-- R153, R154: the unit has power and no start is under way. -/
def State.running (s : State) : Bool := s.powered && !s.sm.starting

/-- R38: S is the INLET standard totaliser divided by 1000 with the remainder discarded. -/
def State.stationS (s : State) : Nat := s.mu.inlet.std / 1000

/-- A block hands an event on; it is taken by its own command [1]. -/
def State.hand (i : Instr) (s : State) : State := { s with handed := s.handed ++ [i] }

/-- A hand-off is taken: the first such one leaves the list of those in flight [1]. -/
def State.take (i : Instr) (s : State) : State := { s with handed := s.handed.erase i.canonical }

/-- A block posts an event (R169). -/
def State.post (k : EventKind) (subject : Nat) (detail : Int) (s : State) : State :=
  s.hand (.eventPosted k subject detail)

/-- The shape of an event's command: the hand-off is taken, and it has its effect while the unit runs (R153, R154). -/
def event (i : Instr) (k : State → State) (s : State) : Result :=
  .next (if (s.take i).running then k (s.take i) else s.take i)

/-- R52, R130, R132: an expiry counts when its timer has run out, or when a sender brings it. One on its way inside the
unit whose timer has been stopped, or started afresh, no longer counts [46]. -/
def expiryStands (i : Instr) (out : Bool) (s : State) : Bool := out || !s.handed.contains i

/-- The shape of a host request: it is not received while the unit has no power or a start is under way (R154). -/
def request (k : State → State) (s : State) : Result := .next (if s.running then k s else s)

/-! ### Replies (R177) -/

/-- R177: the refusal codes. -/
inductive RefusalCode where
  | unknownRequest | badLength | badValue | wrongMode | notFound | duplicateId | trainFull | tailOpen | notOpen
  | unknownProduct | frozen | productMismatch | noOutlet | locked | notLocked | busy | inUse | incomplete | routeFault
  deriving DecidableEq, Repr

def refusalNumber : RefusalCode → Nat
  | .unknownRequest => 1
  | .badLength => 2
  | .badValue => 3
  | .wrongMode => 4
  | .notFound => 5
  | .duplicateId => 6
  | .trainFull => 7
  | .tailOpen => 8
  | .notOpen => 9
  | .unknownProduct => 10
  | .frozen => 11
  | .productMismatch => 12
  | .noOutlet => 13
  | .locked => 14
  | .notLocked => 15
  | .busy => 16
  | .inUse => 17
  | .incomplete => 18
  | .routeFault => 19

/-- R177: a reply is formed; the assembler stays closed until it has been sent (R176). -/
def State.reply (cls : Nat) (payload : List Byte) (s : State) : State :=
  { s with li := { s.li with reply := some ⟨cls, payload⟩, assembler := .closed } }

/-- R177: an acceptance has the request's class plus 0x80. -/
def State.accept (cls : Nat) (payload : List Byte) (s : State) : State := s.reply (cls + 0x80) payload

/-- R177: a refusal carries the refused class, the code and a signed detail, and raises the refusal count. -/
def State.refuse (cls : Nat) (code : RefusalCode) (detail : Int) (s : State) : State :=
  ({ s with li := { s.li with refusals := satInc Config.count16Max s.li.refusals } }).reply 0x7F
    (bytesOf 1 cls ++ bytesOf 1 (refusalNumber code) ++ encSigned 4 detail)

/-! ### Updates of the blocks -/

def State.setTrain (t : List Entry) (s : State) : State := { s with lt := { s.lt with train := t } }
def State.setWindow (w : Option WindowRecord) (s : State) : State := { s with lt := { s.lt with window := w } }
def State.setConfirm (c : Option ConfirmRecord) (s : State) : State := { s with lt := { s.lt with confirm := c } }
def State.setPlan (p : Option Plan) (s : State) : State := { s with cp := { s.cp with plan := p } }
def State.setActions (a : List Action) (s : State) : State := { s with cp := { s.cp with actions := a } }
def State.setChannel (c : Channel) (x : ChannelState) (s : State) : State := { s with sd := s.sd.set c x }
def State.setValve (r : RouteNo) (v : Option Valve) (s : State) : State :=
  { s with rc := { s.rc with valves := s.rc.valves.set r v } }
def State.setSwitch (w : Option Switch) (s : State) : State := { s with rc := { s.rc with switching := w } }
def State.setLatch (b : Bool) (s : State) : State := { s with rc := { s.rc with latch := b } }
def State.setSlot (k : SlotNo) (x : SlotState) (s : State) : State := { s with ip := { s.ip with slots := s.ip.slots.set k x } }
def State.setTables (t : Tables) (s : State) : State := { s with tables := t }
def State.setMode (m : StationMode) (s : State) : State := { s with sm := { s.sm with mode := m } }

/-! ### The train (R3, R5, R9) -/

/-- R3: the expected volume V, launched volume plus adjustment total; absent while the entry is open. -/
def Entry.volume (e : Entry) : Option Nat := e.launched.map (fun l => (l + e.adjust).toNat)

/-- R5: the reference position: the base position of an inherited entry, else its leading interface's position. -/
def Entry.reference (e : Entry) : Nat :=
  match e.leading with
  | some i => i.pos
  | none => e.base.getD 0

/-- The entry with a batch ID. -/
def findEntry (id : Nat) (t : List Entry) : Option Entry := t.find? (fun e => e.id == id)

/-- The entry ahead of the one with a batch ID. -/
def aheadOf (id : Nat) : List Entry → Option Entry
  | [] => none
  | [_] => none
  | a :: b :: rest => if b.id == id then some a else aheadOf id (b :: rest)

/-- The entry behind the one with a batch ID. -/
def behindOf (id : Nat) : List Entry → Option Entry
  | [] => none
  | e :: rest => if e.id == id then rest.head? else behindOf id rest

/-- R9: the manifold batch, the front-most entry that is not COMPLETE. -/
def manifoldOf (t : List Entry) : Option Entry := t.find? (fun e => !e.complete)

/-- The leading interface of the batch with an ID. -/
def interfaceOf (id : Nat) (t : List Entry) : Option Interface := (findEntry id t).bind (·.leading)

/-- The index of an entry, counted from 1 at the front; 0 where there is none. -/
def indexOf (id : Nat) (t : List Entry) : Nat :=
  match t.findIdx? (fun e => e.id == id) with
  | some k => k + 1
  | none => 0

/-- Change the entry with a batch ID. -/
def modEntry (id : Nat) (f : Entry → Entry) (t : List Entry) : List Entry :=
  t.map (fun e => if e.id == id then f e else e)

/-- Change the leading interface of the batch with an ID. -/
def modInterface (id : Nat) (f : Interface → Interface) (t : List Entry) : List Entry :=
  modEntry id (fun e => { e with leading := e.leading.map f }) t

/-- R6: derive a FAR position afresh from the entry ahead. -/
def derivePosition (ahead e : Entry) : Entry :=
  match e.leading, ahead.volume with
  | some i, some v =>
    if i.track = .far then { e with leading := some { i with pos := ahead.reference + v } } else e
  | _, _ => e

/-- R6: derive every FAR position behind an entry afresh, front to back. -/
def rederiveBehind (ahead : Entry) : List Entry → List Entry
  | [] => []
  | e :: rest => derivePosition ahead e :: rederiveBehind (derivePosition ahead e) rest

/-- R6: derive every FAR position of the train afresh. -/
def rederive : List Entry → List Entry
  | [] => []
  | e :: rest => e :: rederiveBehind e rest

/-- R9: the state of an entry. -/
def batchState (t : List Entry) (e : Entry) : BatchState :=
  if e.complete then .complete
  else if (manifoldOf t).map (·.id) = some e.id then .atManifold
  else
    match e.leading with
    | some i => if i.track = .far ∨ i.track = .window then .upstream else .inLead
    | none => .upstream

/-- The batch ID of the manifold batch, 0 where there is none. -/
def manifoldId (t : List Entry) : Nat := ((manifoldOf t).map (·.id)).getD 0

/-! ### The tables (R104, R105, R126) -/

/-- R104: the entry of a defined product. -/
def productOf (t : Tables) (code : Nat) : Option ProductEntry := (t.products.find? (fun p => p.code == code)).map (·.entry)

/-- R105: the entry of a pair, the default pair where there is none. -/
def pairOf (t : Tables) (ahead behind : Nat) : PairEntry :=
  match t.pairs.find? (fun p => p.ahead == ahead && p.behind == behind) with
  | some p => p.entry
  | none => t.defaultPair

/-- The kind of a route; none where it is not defined. -/
def routeKind (t : Tables) (r : RouteNo) : Option RouteKind := (t.routes.get r).map (·.kind)

/-- R126: the THROUGH route. -/
def throughRoute (t : Tables) : Option RouteNo := allRoutes.find? (fun r => routeKind t r == some .through)

/-- R107: the first TRANSMIX route, the lowest-numbered route of that kind. -/
def firstTransmix (t : Tables) : Option RouteNo := allRoutes.find? (fun r => routeKind t r == some .transmix)

/-- Whether a route is of kind PRODUCT, and its product code. -/
def productRoute (t : Tables) (r : RouteNo) : Option Nat :=
  match routeKind t r with
  | some (.product c) => some c
  | _ => none

/-- R47: a slot is configured when it holds a role other than NONE and is enabled. -/
def configured (c : SlotConfig) : Bool := c.enabled && c.role != .none

/-- The configured slot that holds a role. -/
def slotOfRole (t : Tables) (role : SlotRole) : Option SlotNo :=
  allSlots.find? (fun k => configured (t.slots.get k) && (t.slots.get k).role == role)

/-- Section 3.1: the channel a density role serves. -/
def channelOfRole : SlotRole → Option Channel
  | .densAdvance => some .advance
  | .densManifold => some .manifold
  | _ => none

/-- Section 3.1: the role a channel reads. -/
def roleOfChannel : Channel → SlotRole
  | .advance => .densAdvance
  | .manifold => .densManifold

/-- R108: the default disposition as it stands. -/
def defaultDisposition (t : Tables) : Disposition :=
  match t.params.defaultDisposition with
  | .pass => .pass
  | .transmixAll => .transmixAll

/-- Whether a route is of kind TRANSMIX. -/
def isTransmix (t : Tables) (r : RouteNo) : Bool := routeKind t r == some .transmix

/-- R147: the missing-item mask of working tables. -/
def missingMask (t : Tables) : Nat :=
  (if allRoutes.any (fun r => (t.routes.get r).isSome) then 0 else 1)
  + (if allSlots.any (fun k => configured (t.slots.get k) && (channelOfRole (t.slots.get k).role).isSome) then 0 else 2)
  + (if t.products.isEmpty then 4 else 0)
  + (if t.params.safeRoute.isSome then 0 else 8)

end Sys2Proof.Machine
end

