-- ==== Sys2Proof/Machine/Flags.lean ====
section
/-! DEFINITION. Flags.lean: ticket flags (R163), the codes and classes of the events (R168), and the ATTN line (R172). -/

namespace Sys2Proof.Machine

/-- R25, R160: set a ticket flag in the delivery record of a batch; a COMPLETE entry's flags no longer change. -/
def markBatch (id : Nat) (f : TicketFlags → TicketFlags) (t : List Entry) : List Entry :=
  modEntry id (fun e => if e.complete then e else { e with delivery := { e.delivery with flags := f e.delivery.flags } }) t

/-- Set a ticket flag for the manifold batch, and for no batch while there is none. -/
def markManifold (f : TicketFlags → TicketFlags) (t : List Entry) : List Entry :=
  match manifoldOf t with
  | some m => markBatch m.id f t
  | none => t

/-- R168: the kind codes. -/
def eventCode : EventKind → Nat
  | .batchAdded => 16
  | .batchClosed => 17
  | .batchAdjusted => 18
  | .batchWithdrawn => 19
  | .windowOpen => 20
  | .interfaceAnchored => 21
  | .interfaceMissed => 22
  | .lowContrast => 23
  | .mfConfirmed => 24
  | .mfDisagree => 25
  | .mfNoConfirm => 26
  | .batchComplete => 27
  | .standstill => 28
  | .flowing => 29
  | .trackingGap => 30
  | .detectorLocked => 32
  | .detectorCleared => 33
  | .falseDeparture => 34
  | .bodyExcursion => 35
  | .excursionEnded => 36
  | .longMix => 37
  | .actionDue => 48
  | .shortBatch => 49
  | .shortBatchMerged => 50
  | .planInvalid => 51
  | .defaultDisposition => 52
  | .stripComplete => 53
  | .actionOverflow => 54
  | .switchBegun => 64
  | .switchDone => 65
  | .switchAbandoned => 66
  | .valveTravelFault => 67
  | .valveSwitchFault => 68
  | .valveUncommanded => 69
  | .valveLockout => 70
  | .lockoutCleared => 71
  | .safeLineupFailed => 72
  | .slotFailed => 80
  | .slotRecovered => 81
  | .pollOverrun => 82
  | .tempSubstituted => 83
  | .meterOverrange => 84
  | .modeChange => 96
  | .safeEntered => 97
  | .startCold => 98
  | .startWarm => 99
  | .saveDone => 100
  | .saveFailed => 101
  | .ticketReady => 102
  | .ticketsFull => 103

/-- R168: the class of a kind: the code of each kind is 16 times its class plus its place in the class. -/
def eventClass (k : EventKind) : Nat := eventCode k / 16

/-- The classes, TRACK to STATION (R168). -/
def allClasses : List Nat := [1, 2, 3, 4, 5, 6]

/-- R169: the count of unread records of a class. -/
def classCount (el : EventLog) (c : Nat) : Nat := (el.records.filter (fun r => eventClass r.kind == c)).length

/-- R173: the bit of a class is set in the routing mask. -/
def routed (mask c : Nat) : Bool := (mask / 2 ^ (c - 1)) % 2 == 1

/-- R172: whether ATTN is to be asserted. -/
def attnWanted (s : State) : Bool :=
  allClasses.any (fun c => routed s.tables.params.routingMask c && decide (0 < classCount s.el c))
  || decide (s.tables.params.watermark ≤ s.el.records.length)
  || (!s.ts.isEmpty && s.tables.params.ticketAttention)

/-- R172: judge ATTN afresh; while a start is under way ATTN is released. -/
def judgeAttn (s : State) : State :=
  { s with el := { s.el with attn := if s.running then attnWanted s else false } }

end Sys2Proof.Machine
end

