-- ==== Sys2Proof/Machine/Tickets.lean ====
section
/-! DEFINITION. Tickets.lean: the Ticket Store (chapter 9). -/

namespace Sys2Proof.Machine

/-- R162: a count of millilitres as whole litres of a ticket, at most the largest unsigned 32-bit value. -/
def ticketLitres (ml : Nat) : Nat := min (ml / 1000) Config.u32Max

/-- R162: the route list: one entry for each route that took a whole litre, in route-number order; a route number no longer
defined is left out. -/
def ticketRoutes (tb : Tables) (d : Delivery) : List RouteLitres :=
  (allRoutes.map (fun r => RouteLitres.mk r (ticketLitres (d.routes.get r)))).filter
    (fun x => (tb.routes.get x.route).isSome && decide (0 < x.litres))

/-- R162: whether a method is one of a source that saw the interface. -/
def seenMethod : Option AnchorMethod → Bool
  | some .advance => true
  | some .manifold => true
  | some .host => true
  | _ => false

/-- R162: the measured line volume, present when both interfaces were anchored by a source that saw them. -/
def measuredVolume (leading trailing : Option Interface) : Option Nat :=
  match leading, trailing with
  | some l, some t =>
    if seenMethod l.method && seenMethod t.method then some (min (t.pos - l.pos) Config.u32Max) else none
  | _, _ => none

/-- R161: the ticket of an entry, with the leading interface of the entry behind it. -/
def formTicket (tb : Tables) (e : Entry) (trailing : Option Interface) : Ticket where
  id := e.id
  product := e.product
  flags := e.delivery.flags
  launched := e.launched.getD 0
  adjust := e.adjust
  measured := measuredVolume e.leading trailing
  leading := e.leading.bind (·.method)
  trailing := trailing.bind (·.method)
  startS := e.delivery.startS.getD 0
  endS := e.delivery.endS.getD 0
  routes := ticketRoutes tb e.delivery
  unaccounted := ticketLitres e.delivery.unaccounted

/-- R172: ATTN is judged when the Ticket Store changes between empty and not empty. -/
def judgeIfChanged (wasEmpty : Bool) (s : State) : State :=
  if s.ts.isEmpty == wasEmpty then s else judgeAttn s

/-- R160: issue the ticket of an entry, which leaves the train. -/
def issueTicket (e : Entry) (s : State) : State :=
  let trailing := (behindOf e.id s.lt.train).bind (·.leading)
  let s' := { (s.setTrain (s.lt.train.eraseP (fun x => x.id == e.id))) with ts := s.ts ++ [formTicket s.tables e trailing] }
  (judgeIfChanged s.ts.isEmpty s').post .ticketReady e.id (s.ts.length + 1)

/-- R164: a COMPLETE entry at the front of the train is released. -/
def releaseFront (s : State) : State :=
  match s.lt.train with
  | e :: _ => if e.complete then issueTicket e s else s
  | [] => s

/-- R163, R184: the flags by the bit values of the ticket layout. -/
def ticketFlagBits (f : TicketFlags) : Nat :=
  (if f.inherited then 1 else 0) + (if f.volumetric then 2 else 0) + (if f.merged then 4 else 0)
  + (if f.protected_ then 8 else 0) + (if f.lateCut then 16 else 0) + (if f.forced then 32 else 0)
  + (if f.safe then 64 else 0) + (if f.manual then 128 else 0) + (if f.crossDelivery then 256 else 0)
  + (if f.stripShort then 512 else 0) + (if f.tempSubstituted then 1024 else 0)
  + (if f.defaultDisposition then 2048 else 0)

/-- R184: an anchor method in the train summary and the ticket. -/
def methodCode : Option AnchorMethod → Nat
  | none => 0
  | some .advance => 1
  | some .manifold => 2
  | some .host => 3
  | some .volumetric => 4

/-- R184: the ticket, 38 bytes plus 5 for each route entry. -/
def encTicket (t : Ticket) : List Byte :=
  encBatch (some t.id) ++ enc1 t.product ++ encUnsigned 2 (ticketFlagBits t.flags) ++ encUnsigned 4 t.launched
  ++ encSigned 4 (clampInt (-2147483648) 2147483647 t.adjust) ++ encUnsigned 4 (t.measured.getD 0)
  ++ enc1 (methodCode t.leading) ++ enc1 (methodCode t.trailing) ++ encUnsigned 8 t.startS
  ++ encUnsigned 4 (min (t.endS - t.startS) Config.u32Max) ++ encUnsigned 4 t.unaccounted ++ enc1 t.routes.length
  ++ t.routes.flatMap (fun x => enc1 (routeNumber x.route) ++ encUnsigned 4 x.litres)

/-- READ_TICKET (R165). -/
def execReadTicket (id : Nat) (s : State) : Result :=
  request (fun s =>
    if id = 0 then
      match s.ts with
      | [] => s.accept 0x08 (enc1 0)
      | t :: _ => s.accept 0x08 (enc1 s.ts.length ++ encTicket t)
    else
      match s.ts.find? (fun t => t.id == id) with
      | none => s.refuse 0x08 .notFound 0
      | some t => s.accept 0x08 (enc1 s.ts.length ++ encTicket t)) s

/-- R166: the ticket leaves the store, and a waiting entry is released into the freed place. -/
def acknowledge (id : Nat) (s : State) : State :=
  releaseFront (judgeIfChanged s.ts.isEmpty { s with ts := s.ts.eraseP (fun t => t.id == id) })

/-- ACK_TICKET (R166). -/
def execAckTicket (id : Nat) (s : State) : Result :=
  request (fun s =>
    if id = 0 then s.refuse 0x09 .badValue 0
    else
      match s.ts.find? (fun t => t.id == id) with
      | none => s.refuse 0x09 .notFound 0
      | some _ => (acknowledge id s).accept 0x09 (enc1 (acknowledge id s).ts.length)) s

end Sys2Proof.Machine
end

