-- ==== Sys2Proof/Machine/Train.lean ====
section
/-! DEFINITION. Train.lean: clear points, completion, standstill counts (chapter 1, sections 1.7 and 2.6). -/

namespace Sys2Proof.Machine

/-- R2: the manifold point of a position is the position plus the current lead volume. -/
def manifoldPoint (t : Tables) (pos : Nat) : Nat := pos + t.params.leadVolume

/-- R19: the clear point, once the interface is ANCHORED or VOLUMETRIC with a snapshot. -/
def clearPoint (t : Tables) (i : Interface) : Option Nat :=
  match i.track, i.snapshot with
  | .anchored, some sn => some (manifoldPoint t i.pos + sn.mix / 2)
  | .volumetric, some sn => some (manifoldPoint t i.pos + sn.mix / 2)
  | _, _ => none

/-- R112: an action that belongs to the interface of a batch: its DIVERT and ENTER actions. -/
def belongs (id : Nat) (a : Action) : Bool :=
  a.subject == id && (a.kind == .divert || a.kind == .enter)

/-- R107: the governing disposition of a batch. -/
def governing (tb : Tables) (train : List Entry) (e : Entry) : Disposition :=
  match e.leading with
  | some i =>
    match i.snapshot with
    | some sn => sn.dispBehind
    | none => e.disposition.getD (defaultDisposition tb)
  | none =>
    match ((behindOf e.id train).bind (·.leading)).bind (·.snapshot) with
    | some sn => sn.dispAhead
    | none => e.disposition.getD (defaultDisposition tb)

/-- R124: whether a batch completes under STRIP with its strip mark clear. -/
def stripShort (tb : Tables) (train : List Entry) (e : Entry) : Bool :=
  match governing tb train e with
  | .strip _ _ => !e.stripMark
  | _ => false

/-- R20: the three conditions of completion, for the manifold batch with the entry behind it. -/
def completes (s : State) (behind : Entry) : Bool :=
  match behind.leading.bind (clearPoint s.tables) with
  | some y =>
    decide (y ≤ s.lt.curS) && !s.cp.actions.any (belongs behind.id) && s.rc.switching.isNone
  | none => false

/-- R23, steps 1, 2 and 4, on the train. -/
def completedTrain (s : State) (m behind : Entry) : List Entry :=
  let short := stripShort s.tables s.lt.train m
  let t := modInterface behind.id (fun i => { i with track := .cleared }) s.lt.train
  let t := modEntry m.id (fun e => { e with delivery := { e.delivery with
      endS := some s.lt.curS
      flags := if short then { e.delivery.flags with stripShort := true } else e.delivery.flags } }) t
  modEntry behind.id (fun e => { e with delivery := { e.delivery with startS := some s.lt.curS } }) t

/-- R23: the manifold batch completes, with room in the Ticket Store or without. -/
def completeBatch (m behind : Entry) (s : State) : State :=
  let s1 := (s.setTrain (completedTrain s m behind)).post .batchComplete m.id (indexOf m.id s.lt.train)
  if s.ts.length < Config.maxTickets then
    match findEntry m.id s1.lt.train with
    | some e => issueTicket e s1
    | none => s1
  else
    let s2 := s1.setTrain (modEntry m.id (fun e => { e with complete := true }) s1.lt.train)
    s2.post .ticketsFull m.id (s2.lt.train.filter (·.complete)).length

/-- R20: one completion check of the manifold batch; none where it does not complete. -/
def completeOnce (s : State) : Option State :=
  match manifoldOf s.lt.train with
  | none => none
  | some m =>
    match behindOf m.id s.lt.train with
    | none => none
    | some behind => if completes s behind then some (completeBatch m behind s) else none

/-- R21: the check, made again after every completion for the new manifold batch. -/
def completionLoop : Nat → State → State
  | 0, s => s
  | n + 1, s =>
    match completeOnce s with
    | some s' => completionLoop n s'
    | none => s

/-- R20, R21: the completion check. -/
def completionCheck (s : State) : State := completionLoop s.lt.train.length s

/-- R42: a standstill declaration raises the standstill count of every FAR interface, up to 255. -/
def raiseStandstill (e : Entry) : Entry :=
  { e with leading := e.leading.map (fun i =>
      if i.track = .far then { i with standstills := satInc 255 i.standstills } else i) }

/-- STANDSTILL_COUNT_RAISE (R42). -/
def execStandstillCountRaise (s : State) : Result :=
  event .standstillCountRaise (fun s => s.setTrain (s.lt.train.map raiseStandstill)) s

/-- ACTION_LEFT_LIST (R21): the Line Tracker makes its completion check. -/
def execActionLeftList (subject : Nat) (s : State) : Result :=
  event (.actionLeftList subject) completionCheck s

/-- SWITCH_END_HANDED (R21, R137): the completion check at the end of a switch. -/
def execSwitchEndHanded (s : State) : Result := event .switchEndHanded completionCheck s

end Sys2Proof.Machine
end

