-- ==== Sys2Proof/Machine/Routes.lean ====
section
/-! DEFINITION. Routes.lean: the Route Controller: valves, faults and lockouts, RC's target, the comparison and the
switch, MANUAL commands and the booking of volume (chapter 7). -/

namespace Sys2Proof.Machine

/-! ### Valve states (R128) -/

/-- The valve state of a route; none where it is not defined. -/
def valveState (s : State) (r : RouteNo) : Option ValveState := (s.rc.valves.get r).map (·.state)

/-- Whether the valve of a route is in a given state. -/
def valveIs (s : State) (r : RouteNo) (v : ValveState) : Bool := valveState s r == some v

/-- The actual line-up: the routes whose valves are OPEN. -/
def openRoutes (s : State) : List RouteNo := allRoutes.filter (fun r => valveIs s r .opened)

/-- A route is travelling while it is OPENING or CLOSING. -/
def travelling (s : State) (r : RouteNo) : Bool := valveIs s r .opening || valveIs s r .closing

/-- R128: the outputs driven for a route: OPEN while OPENING, CLOSE while CLOSING; all outputs are off without power and
through a start (R153). -/
def openOutput (s : State) (r : RouteNo) : Bool := s.running && valveIs s r .opening

def closeOutput (s : State) (r : RouteNo) : Bool := s.running && valveIs s r .closing

/-- A change of the valve record of a defined route. -/
def modValve (r : RouteNo) (f : Valve → Valve) (s : State) : State := s.setValve r ((s.rc.valves.get r).map f)

/-- R128: a route enters OPEN: the timer stops, the open-order count steps and the route takes it as its stamp. `drop` is
what the fault count falls by, with a floor at 0 (R129, R130). -/
def enterOpen (drop : Nat) (r : RouteNo) (s : State) : State :=
  let n := add64 s.rc.openOrder 1
  modValve r (fun v => { v with state := .opened, faults := v.faults - drop, timerStart := none, stamp := n })
    { s with rc := { s.rc with openOrder := n } }

/-- A route enters CLOSED. -/
def enterClosed (drop : Nat) (r : RouteNo) (s : State) : State :=
  modValve r (fun v => { v with state := .closed, faults := v.faults - drop, timerStart := none }) s

/-- R129: a route begins to travel, with the travel timer from 0 and the travel limit read now. -/
def enterTravel (st : ValveState) (r : RouteNo) (s : State) : State :=
  modValve r (fun v => { v with
    state := st
    timerStart := some s.clock.ms
    timerLimit := ((s.tables.routes.get r).map (·.travelLimit)).getD 0 }) s

/-- R129: a command to open, taken by a route in CLOSED, UNKNOWN or FAULT. A retry of a FAULT route whose limits are both
active already enters OPENING, as R129 says, and R132's limit fault waits for a limit change or the travel expiry [58]. -/
def commandOpen (r : RouteNo) (s : State) : State :=
  if valveIs s r .closed || valveIs s r .unknown || valveIs s r .fault then
    if (s.rc.limits.get r).opened && !(s.rc.limits.get r).closed then enterOpen 1 r s else enterTravel .opening r s
  else s

/-- R129: a command to close, taken by a route in OPEN, UNKNOWN or FAULT; both limits active already as for a command to
open [58]. -/
def commandClose (r : RouteNo) (s : State) : State :=
  if valveIs s r .opened || valveIs s r .unknown || valveIs s r .fault then
    if (s.rc.limits.get r).closed && !(s.rc.limits.get r).opened then enterClosed 1 r s else enterTravel .closing r s
  else s

/-! ### Faults and lockouts (R132, R133) -/

/-- The fault count of a route after a fault, at most 7 (R128, R133). -/
def faultCount (s : State) (r : RouteNo) : Nat := min 7 (((s.rc.valves.get r).map (·.faults)).getD 0 + 1)

/-- The fault limit of a route, read at each fault (R126). -/
def faultLimitOf (s : State) (r : RouteNo) : Nat := ((s.tables.routes.get r).map (·.faultLimit)).getD 7

/-- R132, R133: a route enters FAULT with its event, whose detail may be the fault count, and LOCKED_OUT when the count
reaches the fault limit. -/
def faultRoute (k : EventKind) (detail : Option Int) (r : RouteNo) (s : State) : State :=
  let n := faultCount s r
  let locked := decide (faultLimitOf s r ≤ n)
  let s1 := (modValve r (fun v => { v with
      state := if locked then .lockedOut else .fault, faults := n, timerStart := none }) s).post k (routeNumber r)
    (detail.getD n)
  if locked then s1.post .valveLockout (routeNumber r) n else s1

/-- R133, R144: the state of a valve from its limits as they stand: OPEN with a stamp, CLOSED, UNKNOWN, or FAULT. -/
def positionFromLimits (r : RouteNo) (s : State) : State :=
  match (s.rc.limits.get r).opened, (s.rc.limits.get r).closed with
  | true, false => enterOpen 0 r s
  | false, true => enterClosed 0 r s
  | false, false => modValve r (fun v => { v with state := .unknown, timerStart := none }) s
  | true, true => faultRoute .valveSwitchFault none r s

/-! ### RC's target (R134) -/

/-- Whether a route of the plan line-up stays in the target: defined, and, for a PRODUCT route, carrying the product of
the owner batch, which must still be a train entry. -/
def targetKeeps (s : State) (owner : Nat) (r : RouteNo) : Bool :=
  match routeKind s.tables r with
  | none => false
  | some (.product c) => ((findEntry owner s.lt.train).map (·.product)) == some c
  | some _ => true

/-- R134: RC's target with its owner, by mode. -/
def target (s : State) : Option (List RouteNo × Nat) :=
  match s.sm.mode with
  | .tracking =>
    match s.cp.plan with
    | none => none
    | some p =>
      match p.routes.filter (targetKeeps s p.owner) with
      | [] => none
      | r :: rest => some (r :: rest, p.owner)
  | .safe => s.tables.params.safeRoute.map (fun r => ([r], manifoldId s.lt.train))
  | .hold => none
  | .manual => none
  | .unconfigured => none

/-- R135: the actual line-up agrees with a target. -/
def agrees (s : State) (rs : List RouteNo) : Bool :=
  rs.all (fun r => valveIs s r .opened)
  && allRoutes.all (fun r => rs.contains r || !(valveIs s r .opened || valveIs s r .unknown))

/-! ### The switch (R136 to R138) -/

/-- The routes outside a target that are OPEN or UNKNOWN: those phase 2 closes (R137). -/
def closingRoutes (s : State) (rs : List RouteNo) : List RouteNo :=
  allRoutes.filter (fun r => !rs.contains r && (valveIs s r .opened || valveIs s r .unknown))

/-- R136: a switch begins: the record is filled, SWITCH_BEGUN is posted and the routes of the target that are not OPEN
are commanded open, in the order in which the line-up lists them [54]. -/
def beginSwitch (rs : List RouteNo) (owner : Nat) (s : State) : State :=
  let cmd := rs.filter (fun r => !valveIs s r .opened)
  let s1 := (s.setSwitch (some ⟨rs, owner, .opening, cmd, [], false, s.stationS⟩)).post .switchBegun owner
    (routeSetCode rs)
  cmd.foldl (fun s r => commandOpen r s) s1

/-- The end of a switch: the record is emptied and the end is handed to the Line Tracker (R137). -/
def endSwitch (k : EventKind) (owner : Nat) (detail : Int) (s : State) : State :=
  ((s.post k owner detail).setSwitch none).hand .switchEndHanded

/-- R137: phase 2 begins: the routes outside the target are commanded closed. -/
def beginPhase2 (w : Switch) (s : State) : State :=
  let cmd := closingRoutes s w.target
  cmd.foldl (fun s r => commandClose r s)
    (s.setSwitch (some { w with phase := .closing, commanded := cmd, arrived := [] }))

/-- The end position a phase waits for. -/
def phaseEnd : Phase → ValveState
  | .opening => .opened
  | .closing => .closed

/-- The routes commanded in the phase that stand at its end position are noted as arrived. -/
def noteArrivals (w : Switch) (s : State) : Switch :=
  { w with arrived := w.commanded.filter (fun r => w.arrived.contains r || valveIs s r (phaseEnd w.phase)) }

/-- R136, R137: the phase ends when every route commanded in it has entered its end position. -/
def phaseOver (w : Switch) : Bool := w.commanded.all (fun r => w.arrived.contains r)

/-- R137, R138: a phase that is over: the switch ends ABANDONED, goes on to phase 2, or is DONE. -/
def advancePhase (s : State) : State :=
  match s.rc.switching with
  | none => s
  | some w0 =>
    let w := noteArrivals w0 s
    if phaseOver w then
      if w.abandon then endSwitch .switchAbandoned w.owner 1 s
      else
        match w.phase with
        | .opening => beginPhase2 w s
        | .closing => endSwitch .switchDone w.owner (routeSetCode w.target) s
    else s.setSwitch (some w)

/-- A switch goes as far as its routes have come: phase 1 may end, and phase 2 then end at once (R136, R137). -/
def settleSwitch (s : State) : State := advancePhase (advancePhase s)

/-! ### The comparison (R135) -/

/-- R135: the Route Controller compares its line-up with its target. A switch begun here may complete at once (R129);
the line-up then agrees, so no further comparison is needed. Of several LOCKED_OUT routes in the target the event or the
demand names the lowest-numbered [55]. -/
def compare (s : State) : State :=
  match target s with
  | none => s
  | some (rs, owner) =>
    if s.rc.switching.isSome || agrees s rs || allRoutes.any (travelling s) || s.rc.latch then s
    else
      match allRoutes.find? (fun r => rs.contains r && valveIs s r .lockedOut) with
      | some r =>
        if s.sm.mode = .safe then (s.post .safeLineupFailed (routeNumber r) 1).setLatch true
        else s.hand (.safeDemand r .lockedOut)
      | none => settleSwitch (beginSwitch rs owner s)

/-- A change of a valve state without a fault: the switch goes on, and the line-up is compared (R135). At a switch's end the
comparison is made in this same step, and the completion check of SWITCH_END_HANDED comes after it [49]. -/
def afterMove (s : State) : State := compare (settleSwitch s)

/-- R139: the fault of an involved route of a switch: the switch is ended. -/
def involved (s : State) (r : RouteNo) : Option Switch :=
  match s.rc.switching with
  | some w => if w.target.contains r || w.commanded.contains r then some w else none
  | none => none

/-- R139: SAFE whose safe route has failed: the event and the latch. -/
def safeFailed (r : RouteNo) (s : State) : State := (s.post .safeLineupFailed (routeNumber r) 2).setLatch true

/-- R139: what a fault leads to, after the route has entered FAULT or LOCKED_OUT. `outletLost` marks an uncommanded
movement that has left the actual line-up empty. In TRACKING the comparison after a demand for SAFE is left to the
demand's own step (section 7.8) [7]. -/
def afterFault (r : RouteNo) (outletLost : Bool) (s : State) : State :=
  match involved s r with
  | some w =>
    let s1 := endSwitch .switchAbandoned w.owner 2 s
    match s1.sm.mode with
    | .tracking => s1.hand (.safeDemand r .involvedFault)
    | .safe =>
      if s1.tables.params.safeRoute = some r then compare (safeFailed r s1)
      else compare (s1.hand (.safeDemand r .involvedFault))
    | .hold => compare s1
    | .manual => compare s1
    | .unconfigured => compare s1
  | none =>
    if s.sm.mode = .tracking ∧ outletLost then s.hand (.safeDemand r .outletLost)
    else if s.sm.mode = .safe ∧ s.tables.params.safeRoute = some r then compare (safeFailed r s)
    else compare s

/-- A route stands in FAULT or LOCKED_OUT. -/
def faulted (s : State) (r : RouteNo) : Bool := valveIs s r .fault || valveIs s r .lockedOut

/-! ### Limits and timers (R130 to R132) -/

/-- R130, R131: the state of a route takes a change of its limits, `old` as they stood before. -/
def takeLimits (r : RouteNo) (old new : Limits) (s : State) : State :=
  match valveState s r with
  | some .opening =>
    if new.opened && new.closed then afterFault r false (faultRoute .valveSwitchFault none r s)
    else if new.opened then afterMove (enterOpen 1 r s)
    else s
  | some .closing =>
    if new.opened && new.closed then afterFault r false (faultRoute .valveSwitchFault none r s)
    else if new.closed then afterMove (enterClosed 1 r s)
    else s
  | some .opened =>
    if old.opened && !new.opened then
      let s1 := faultRoute .valveUncommanded (some 1) r s
      afterFault r (openRoutes s1).isEmpty s1
    else if new.closed && !old.closed then afterFault r false (faultRoute .valveSwitchFault none r s)
    else s
  | some .closed =>
    if old.closed && !new.closed then afterFault r false (faultRoute .valveUncommanded (some 2) r s)
    else if new.opened && !old.opened then afterFault r false (faultRoute .valveSwitchFault none r s)
    else s
  | some .unknown =>
    if new.opened && new.closed then afterFault r false (faultRoute .valveSwitchFault none r s)
    else if new.opened then afterMove (enterOpen 0 r s)
    else if new.closed then afterMove (enterClosed 0 r s)
    else s
  | some .fault => s
  | some .lockedOut => s
  | none => s

/-- VALVE_LIMIT_CHANGE (R130, R131): the limits are recorded; a change of a running unit is taken by the route [35]. -/
def execValveLimitChange (r : RouteNo) (opened closed : Bool) (s : State) : Result :=
  let s1 := { s with rc := { s.rc with limits := s.rc.limits.set r ⟨opened, closed⟩ } }
  .next (if s.running ∧ s.rc.limits.get r ≠ ⟨opened, closed⟩ then takeLimits r (s.rc.limits.get r) ⟨opened, closed⟩ s1
    else s1)

/-- R132: the travel timer of a route has reached its travel limit. -/
def timerOut (ms : Nat) (v : Option Valve) : Bool :=
  match v with
  | some v =>
    match v.timerStart with
    | some t => decide (v.timerLimit * 1000 ≤ ms - t)
    | none => false
  | none => false

/-- R132: the travel timer of an OPENING or CLOSING route reaches its travel limit. -/
def travelExpiry (r : RouteNo) (s : State) : State :=
  if travelling s r then afterFault r false (faultRoute .valveTravelFault none r s) else s

/-- VALVE_TRAVEL_EXPIRY (R130, R132): one left over from a timer that an arrival has stopped does nothing. -/
def execValveTravelExpiry (r : RouteNo) (s : State) : Result :=
  event (.valveTravelExpiry r)
    (if expiryStands (.valveTravelExpiry r) (timerOut s.clock.ms (s.rc.valves.get r)) s then travelExpiry r else id) s

/-! ### Host commands (R133, R140) -/

/-- R133: the outcome of an accepted CLEAR LOCKOUT. -/
def clearLockout (r : RouteNo) (s : State) : State :=
  let s1 := positionFromLimits r (modValve r (fun v => { v with faults := 0 }) s)
  let s2 := s1.post .lockoutCleared (routeNumber r) 0
  if faulted s2 r then afterFault r false s2 else afterMove s2

/-- CLEAR_LOCKOUT (R133). -/
def execClearLockout (route : Nat) (s : State) : Result :=
  request (fun s =>
    match routeOfNumber route with
    | none => s.refuse 0x22 .badValue 0
    | some r =>
      match valveState s r with
      | none => s.refuse 0x22 .badValue 0
      | some .lockedOut => (clearLockout r s).accept 0x22 []
      | some _ => s.refuse 0x22 .notLocked 0) s

/-- R140, order 6: a PRODUCT route is opened only for the manifold batch's product. -/
def productMatches (s : State) (r : RouteNo) : Bool :=
  match productRoute s.tables r with
  | none => true
  | some c => ((manifoldOf s.lt.train).map (·.product)) == some c

/-- R140: some other route is OPEN. -/
def otherOpen (s : State) (r : RouteNo) : Bool := (openRoutes s).any (fun x => x != r)

/-- The effect of an accepted VALVE COMMAND (R129, R140). -/
def valveCommand (r : RouteNo) (open_ : Bool) (s : State) : State :=
  afterMove (if open_ then commandOpen r s else commandClose r s)

/-- VALVE_COMMAND (R140): the six checks in order, then the command. -/
def execValveCommand (route command : Nat) (s : State) : Result :=
  request (fun s =>
    if s.sm.mode ≠ .manual then s.refuse 0x21 .wrongMode 0
    else
      match routeOfNumber route with
      | none => s.refuse 0x21 .badValue 0
      | some r =>
        if valveState s r = none ∨ ¬(command = 1 ∨ command = 2) then s.refuse 0x21 .badValue 0
        else if valveIs s r .lockedOut then s.refuse 0x21 .locked 0
        else if travelling s r then s.refuse 0x21 .busy 0
        else if command = 2 ∧ otherOpen s r = false then s.refuse 0x21 .noOutlet 0
        else if command = 1 ∧ productMatches s r = false then s.refuse 0x21 .productMismatch 0
        else (valveCommand r (command == 1) s).accept 0x21 []) s

/-! ### Volume attribution (R141, R142) -/

/-- The open stamp of a route. -/
def stampOf (s : State) (r : RouteNo) : Nat := ((s.rc.valves.get r).map (·.stamp)).getD 0

/-- R141: a tank route is one of kind PRODUCT or TRANSMIX. -/
def tankRoute (t : Tables) (r : RouteNo) : Bool := (productRoute t r).isSome || isTransmix t r

/-- R141: the later of the route found so far and another, by the open stamp. -/
def laterTank (s : State) (best : Option RouteNo) (r : RouteNo) : Option RouteNo :=
  match best with
  | none => some r
  | some b => if stampOf s b < stampOf s r then some r else some b

/-- R141: the current tank route, the OPEN tank route with the latest open stamp. -/
def currentTank (s : State) : Option RouteNo :=
  ((openRoutes s).filter (tankRoute s.tables)).foldl (laterTank s) none

/-- R141: the route the through volume goes to. -/
def throughOpen (s : State) : Option RouteNo :=
  match throughRoute s.tables with
  | some r => if valveIs s r .opened then some r else none
  | none => none

/-- A volume goes to a route of a delivery record, or to its unaccounted volume (R25, R141). -/
def bookTo (r : Option RouteNo) (v : Nat) (d : Delivery) : Delivery :=
  match r with
  | some r => { d with routes := d.routes.set r (add64 (d.routes.get r) v) }
  | none => { d with unaccounted := add64 d.unaccounted v }

/-- R142: a booking puts volume on a PRODUCT route whose product is not the manifold batch's. -/
def crossDelivery (s : State) (product delivery : Nat) : Bool :=
  match currentTank s with
  | some r =>
    match productRoute s.tables r with
    | some c => decide (0 < delivery) && c != product
    | none => false
  | none => false

/-- R142: the flags a booking sets. -/
def bookingFlags (s : State) (product delivery : Nat) (f : TicketFlags) : TicketFlags :=
  { f with
    crossDelivery := f.crossDelivery || crossDelivery s product delivery
    safe := f.safe || s.sm.mode == .safe
    manual := f.manual || s.sm.mode == .manual }

/-- R141, R142: the delivery record of the manifold batch after a booking. -/
def bookDelivery (s : State) (product inlet delivery : Nat) (d : Delivery) : Delivery :=
  let d1 := bookTo (throughOpen s) (inlet - delivery) (bookTo (currentTank s) delivery d)
  { d1 with flags := bookingFlags s product delivery d1.flags }

/-- PERIOD_INCREMENT_BOOKING (R141, R142): booked to the manifold batch and handed to the Cut Planner; nothing where the
train has no manifold batch. -/
def execPeriodIncrementBooking (inlet delivery : Nat) (s : State) : Result :=
  event (.periodIncrementBooking inlet delivery) (fun s =>
    match manifoldOf s.lt.train with
    | none => s
    | some m =>
      (s.setTrain (modEntry m.id (fun e =>
        { e with delivery := bookDelivery s m.product inlet delivery e.delivery }) s.lt.train)).hand .bookingStripCheck) s

end Sys2Proof.Machine
end

