-- ==== Sys2Proof/Machine/Plan.lean ====
section
/-! DEFINITION. Plan.lean: the Cut Planner: body line-ups, the plan line-up, scheduling, actions falling due, protection
and return, short batches and strips (chapter 6). -/

namespace Sys2Proof.Machine

/-! ### Line-ups (R107, R112) -/

/-- R107: the THROUGH route as a set. -/
def throughSet (tb : Tables) : List RouteNo := (throughRoute tb).toList

/-- The set of the first TRANSMIX route. -/
def transmixSet (tb : Tables) : List RouteNo := (firstTransmix tb).toList

/-- R107: a PRODUCT route named by a disposition, left out where it is not a PRODUCT route of the batch's product. -/
def takeSet (tb : Tables) (product : Nat) (r : RouteNo) : List RouteNo :=
  if productRoute tb r = some product then [r] else []

/-- R107: the body line-up of a batch. -/
def bodyLineup (tb : Tables) (train : List Entry) (e : Entry) : List RouteNo :=
  match governing tb train e with
  | .pass => throughSet tb
  | .take r => takeSet tb e.product r
  | .strip r _ => if e.stripMark then throughSet tb else throughSet tb ++ takeSet tb e.product r
  | .transmixAll => transmixSet tb

/-- R112, R117: the route set of an action's line-up, formed from the tables and the train as they stand. That the body
line-up of a batch no longer in the train is the empty set is the model's choice [68]. -/
def formLineup (s : State) : LineupOf → List RouteNo
  | .transmix => transmixSet s.tables
  | .bodyOf b => ((findEntry b s.lt.train).map (bodyLineup s.tables s.lt.train)).getD []
  | .bodyOfManifold => ((manifoldOf s.lt.train).map (bodyLineup s.tables s.lt.train)).getD []

/-- R117, step 3: the set of the safe route, empty where it is not defined. -/
def safeSet (tb : Tables) : List RouteNo :=
  tb.params.safeRoute.toList.filter (fun r => (tb.routes.get r).isSome)

/-- R117, steps 3 and 4: the plan line-up becomes a formed set, or the safe route where the set is empty. -/
def applyPlan (rs : List RouteNo) (kind : PlanKind) (owner : Nat) (s : State) : State :=
  match rs with
  | [] => (s.setPlan (some ⟨safeSet s.tables, owner, .safe⟩)).post .planInvalid owner 0
  | _ :: _ => s.setPlan (some ⟨rs, owner, kind⟩)

/-- R110, R111, R124: the plan line-up becomes the body line-up of a batch, formed as R117 forms one at due; the Route
Controller then compares its line-up (R135). -/
def planBody (id : Nat) (s : State) : State := compare (applyPlan (formLineup s (.bodyOf id)) .body id s)

/-- The plan line-up is the body line-up of a batch: kind BODY, owner the batch (R110, R124). -/
def planIsBodyOf (id : Nat) (s : State) : Bool :=
  match s.cp.plan with
  | some p => p.kind == .body && p.owner == id
  | none => false

/-! ### Falling due (R117, R118) -/

/-- R118: whether an action of this kind changes the plan line-up as it stands. -/
def changesPlan (a : Action) (s : State) : Bool :=
  match a.kind with
  | .divert => true
  | .enter => true
  | .protect =>
    (manifoldOf s.lt.train).isSome
    && (match s.cp.plan with
        | none => true
        | some p => p.kind == .body || p.kind == .safe)
  | .return_ =>
    (manifoldOf s.lt.train).isSome
    && (match s.cp.plan with
        | none => false
        | some p => p.kind == .protect)
    && (s.cp.protectCount.advance + s.cp.protectCount.manifold
        == (match a.channel with
            | none => 0
            | some c => min (s.cp.protectCount.get c) (1 + s.cp.orphans.get c)))

/-- R118: the owner an action gives the plan line-up. -/
def planOwner (a : Action) (s : State) : Nat :=
  match a.kind with
  | .divert => a.subject
  | .enter => a.subject
  | .protect => manifoldId s.lt.train
  | .return_ => manifoldId s.lt.train

/-- R118: the kind an action gives the plan line-up. -/
def planKindOf : ActionKind → PlanKind
  | .divert => .transmix
  | .enter => .body
  | .protect => .protect
  | .return_ => .body

/-- R117, steps 3 and 4. -/
def applyAction (a : Action) (s : State) : State :=
  if changesPlan a s then
    let rs := formLineup s a.lineup
    let s1 := applyPlan rs (planKindOf a.kind) (planOwner a s) s
    if a.kind = .protect ∧ rs ≠ [] then
      s1.setTrain (markManifold (fun f => { f with protected_ := true }) s1.lt.train)
    else s1
  else s

/-- R117, step 6: the ticket flags of an action. -/
def actionTicketFlags (a : Action) (f : TicketFlags) : TicketFlags :=
  { f with
    lateCut := f.lateCut || a.flags.late
    forced := f.forced || a.flags.forced
    volumetric := f.volumetric || a.flags.volumetric }

/-- R117, step 6: the batches the flags go on. -/
def flagAction (a : Action) (t : List Entry) : List Entry :=
  if a.subject = 0 then markManifold (actionTicketFlags a) t
  else
    let t1 := markBatch a.subject (actionTicketFlags a) t
    match aheadOf a.subject t with
    | some e => markBatch e.id (actionTicketFlags a) t1
    | none => t1

/-- R121: a RETURN of a channel that falls due releases its own protection and those without a RETURN. -/
def releaseProtection (a : Action) (s : State) : State :=
  match a.kind, a.channel with
  | .return_, some c =>
    { s with cp := { s.cp with
      protectCount := s.cp.protectCount.set c (s.cp.protectCount.get c - (1 + s.cp.orphans.get c))
      orphans := s.cp.orphans.set c 0 } }
  | _, _ => s

/-- R119: the mark that the first of an interface's actions has left the list. -/
def markLeft (a : Action) (t : List Entry) : List Entry :=
  if a.kind = .divert ∨ a.kind = .enter then modEntry a.subject (fun e => { e with firstLeft := true }) t else t

/-- R117, steps 1 to 6: what an action that falls due does before its leaving is handed on. -/
def dueEffect (a : Action) (s : State) : State :=
  let s1 := s.setTrain (markLeft a s.lt.train)
  let s2 := applyAction a s1
  let s3 := s2.post .actionDue (if a.subject = 0 then manifoldId s2.lt.train else a.subject) a.number
  releaseProtection a (s3.setTrain (flagAction a s3.lt.train))

/-- R117: an action, already out of the list, falls due; its leaving is handed on and the Route Controller compares its
line-up where the plan line-up has changed, in the order the sender chose [6]. -/
def dueAction (first : Precedence) (a : Action) (s : State) : State :=
  let s1 := dueEffect a s
  match first with
  | .routeController =>
    (if changesPlan a (s.setTrain (markLeft a s.lt.train)) then compare s1 else s1).hand (.actionLeftList a.subject)
  | .lineTracker => completionCheck s1

/-- The comparison at the end of a step in which the Line Tracker went first [6]. -/
def settlePlan (first : Precedence) (before after : State) : State :=
  match first with
  | .routeController => after
  | .lineTracker => if after.cp.plan = before.cp.plan then after else compare after

/-- R117: every action whose trigger is not greater than the new S falls due, in list order. -/
def dueLoop (first : Precedence) : Nat → State → State
  | 0, s => s
  | n + 1, s =>
    match s.cp.actions with
    | [] => s
    | a :: rest =>
      if a.trigger ≤ (s.cp.curS : Int) then dueLoop first n (dueAction first a (s.setActions rest)) else s

/-- The Cut Planner takes a new S (R117). -/
def cpAdvance (newS : Nat) (first : Precedence) (s : State) : State :=
  let s1 := { s with cp := { s.cp with curS := newS } }
  settlePlan first s1 (dueLoop first s1.cp.actions.length s1)

/-- CP_S_ADVANCE (R117). -/
def execCpSAdvance (newS : Nat) (first : Precedence) (s : State) : Result :=
  event (.cpSAdvance newS first) (cpAdvance newS first) s

/-! ### Scheduling (R112 to R116) -/

/-- R114, steps 1 and 2: the largest nominal travel among some routes; a route no longer defined counts 0 [53]. -/
def largestTravel (tb : Tables) (rs : List RouteNo) : Nat :=
  rs.foldl (fun m r => max m (((tb.routes.get r).map (·.nominalTravel)).getD 0)) 0

/-- R114, step 1: the reference line-up. -/
def referenceLineup (s : State) : List RouteNo :=
  match s.cp.actions.getLast? with
  | some a => a.routes
  | none => (s.cp.plan.map (·.routes)).getD []

/-- R114, step 2: the compensating travel of a route set. -/
def compensatingTravel (s : State) (rs : List RouteNo) : Nat :=
  let toOpen := rs.filter (fun r => !(referenceLineup s).contains r)
  let toClose := (referenceLineup s).filter (fun r => !rs.contains r)
  if toOpen.isEmpty then largestTravel s.tables toClose else largestTravel s.tables toOpen

/-- R114, step 3: the compensation in litres, from the station flow Q. -/
def compensation (s : State) (rs : List RouteNo) : Nat := s.mu.inlet.flow * compensatingTravel s rs / 3600

/-- R112: the number after one, passing from 65,535 to 1. -/
def nextNumber (n : Nat) : Nat := if n < 65535 then n + 1 else 1

/-- R112: an action number is given. -/
def takeNumber (s : State) : State := { s with cp := { s.cp with nextNum := nextNumber s.cp.nextNum } }

/-- R112: the place of an action by its trigger, after those with the same trigger. -/
def insertAction (a : Action) : List Action → List Action
  | [] => [a]
  | b :: rest => if a.trigger < b.trigger then a :: b :: rest else b :: insertAction a rest

/-- R115: the detail of ACTION_OVERFLOW. -/
def actionKindNumber : ActionKind → Nat
  | .divert => 1
  | .enter => 2
  | .protect => 3
  | .return_ => 4

/-- R115: an action with this trigger is lost: not due at once, with 16 actions held. -/
def lostToFull (trigger : Int) (s : State) : Bool :=
  decide ((s.cp.curS : Int) < trigger) && decide (Config.maxActions ≤ s.cp.actions.length)

/-- R115: a scheduled action falls due at once, is stored, or is lost. `isCurrent` marks a trigger that is the current S
by the table of R114 or R120. -/
def placeAction (first : Precedence) (a : Action) (isCurrent : Bool) (s : State) : State :=
  if a.trigger ≤ (s.cp.curS : Int) then
    dueAction first (if isCurrent then a else { a with flags := { a.flags with late := true } }) s
  else if s.cp.actions.length < Config.maxActions then s.setActions (insertAction a s.cp.actions)
  else (s.post .actionOverflow a.subject (actionKindNumber a.kind)).hand .holdDemand

/-- R116: the route an invalid disposition names, or 0 for a missing THROUGH route; none where it is valid. -/
def invalidDisposition (tb : Tables) (product : Nat) : Disposition → Option Nat
  | .pass => if (throughRoute tb).isSome then none else some 0
  | .take r => if productRoute tb r = some product then none else some (routeNumber r)
  | .strip r _ =>
    if productRoute tb r = some product then (if (throughRoute tb).isSome then none else some 0)
    else some (routeNumber r)
  | .transmixAll => none

/-- R116: the governing disposition of a batch about to be entered, replaced by the default where it is invalid. -/
def checkDisposition (id : Nat) (s : State) : State :=
  match findEntry id s.lt.train with
  | none => s
  | some e =>
    match invalidDisposition s.tables e.product (governing s.tables s.lt.train e) with
    | none => s
    | some detail =>
      (s.setTrain (markBatch id (fun f => { f with defaultDisposition := true })
        (modEntry id (fun e => { e with
          disposition := none
          leading := e.leading.map (fun i =>
            { i with snapshot := i.snapshot.map (fun sn => { sn with dispBehind := defaultDisposition s.tables }) }) })
          s.lt.train))).post .planInvalid id detail

/-! ### Short batches (R123) -/

/-- R123: the ENTER of a batch in the list becomes a DIVERT. -/
def convertEnter (tb : Tables) (k : Nat) (a : Action) : Action :=
  if a.kind = .enter ∧ a.subject = k then
    { a with kind := .divert, lineup := .transmix, routes := transmixSet tb, flags := { a.flags with merged := true } }
  else a

/-- R123, step 2: the DIVERT of the trailing interface, named by its batch, in the list. It is the DIVERT its zone was given:
an ENTER of the trailing interface that an earlier merge made a DIVERT (MERGED) is left in the list [57]. -/
def zoneDivert (b : Nat) (a : Action) : Bool := a.kind == .divert && a.subject == b && !a.flags.merged

/-- R123: whether the ENTER of a batch stands in the list. -/
def enterHeld (k : Nat) (s : State) : Bool := s.cp.actions.any (fun a => a.kind == .enter && a.subject == k)

/-- R123: the clean volume of a batch has been measured; `SHORT_BATCH` where no merge is made. -/
def reportShort (k : Nat) (clean : Int) (s : State) : State := s.post .shortBatch k clean

/-- R123, step 3: the merge is reported and the batch flagged. -/
def reportMerged (k : Nat) (clean : Int) (s : State) : State :=
  (s.setTrain (markBatch k (fun f => { f with merged := true }) s.lt.train)).post .shortBatchMerged k clean

/-- R123, step 2: the DIVERT of the trailing interface is removed from the list and its leaving handed on. -/
def removeZoneDivert (b : Nat) (s : State) : State :=
  if s.cp.actions.any (zoneDivert b) then
    ((s.setActions (s.cp.actions.filter (fun a => !zoneDivert b a))).setTrain
      (modEntry b (fun e => { e with firstLeft := true }) s.lt.train)).hand (.actionLeftList b)
  else s

/-- R123: the clean volume of a batch, known once the ENTER of its leading interface and the first action of its trailing
interface have been scheduled, and measured once. -/
def cleanVolume (k : Nat) (s : State) : Option Int :=
  match findEntry k s.lt.train, behindOf k s.lt.train with
  | some e, some b =>
    if e.inherited || e.measured then none
    else
      match e.enterTrigger, b.firstTrigger with
      | some x, some y => some (y - x)
      | _, _ => none
  | _, _ => none

/-- R123: the mark that the clean volume has been measured. -/
def setMeasured (k : Nat) (s : State) : State := s.setTrain (modEntry k (fun e => { e with measured := true }) s.lt.train)

/-- R123: a clean volume is short and may be merged. -/
def mergeable (clean : Int) (s : State) : Bool := decide (clean < (s.tables.params.minClean : Int))

/-- R123, measured as the first action of the trailing interface of `k` becomes known; its batch is `b`. Answers whether
the trailing DIVERT being scheduled is not to be stored; such a DIVERT has never been in the list, so that no leaving of it
is handed, by the model's choice [22]. -/
def measureTrailing (k b : Nat) (s : State) : State × Bool :=
  match cleanVolume k s with
  | none => (s, false)
  | some clean =>
    let s1 := setMeasured k s
    if mergeable clean s then
      if (firstTransmix s.tables).isSome && enterHeld k s then
        (reportMerged k clean (removeZoneDivert b (s1.setActions (s1.cp.actions.map (convertEnter s.tables k)))), true)
      else (reportShort k clean s1, false)
    else (s1, false)

/-- R123, measured as the ENTER `a` of batch `k` is being scheduled. Answers the action to be placed. -/
def measureEnter (k : Nat) (a : Action) (s : State) : State × Action :=
  match cleanVolume k s with
  | none => (s, a)
  | some clean =>
    let s1 := setMeasured k s
    if mergeable clean s then
      if (firstTransmix s.tables).isSome && !lostToFull a.trigger s then
        (reportMerged k clean (match behindOf k s1.lt.train with
          | some b => removeZoneDivert b.id s1
          | none => s1), convertEnter s.tables k a)
      else (reportShort k clean s1, a)
    else (s1, a)

/-- R119, R123: the triggers the Cut Planner keeps for the entry of an interface whose action is being scheduled. -/
def keepTriggers (a : Action) (s : State) : State :=
  s.setTrain (modEntry a.subject (fun e => { e with
    firstTrigger := if e.firstTrigger.isNone then some a.trigger else e.firstTrigger
    enterTrigger := if a.kind = .enter then some a.trigger else e.enterTrigger }) s.lt.train)

/-- R123: the first action of an interface has not been scheduled yet. -/
def isFirst (b : Nat) (s : State) : Bool :=
  match findEntry b s.lt.train with
  | some e => e.firstTrigger.isNone
  | none => false

/-- R123: the measurement of the batch ahead, at the scheduling of the trailing interface's first action. -/
def measureAhead (a : Action) (s : State) : State × Bool :=
  if isFirst a.subject s then
    match aheadOf a.subject s.lt.train with
    | some k => measureTrailing k.id a.subject (keepTriggers a s)
    | none => (keepTriggers a s, false)
  else (keepTriggers a s, false)

/-- R112 to R115, R123: a DIVERT or ENTER of an interface is scheduled, given its number, line-up and trigger. Where one
ENTER measures both the batch ahead, as its interface's first action, and its own batch, the batch ahead is measured
first, by the model's choice [62]. -/
def scheduleAction (first : Precedence) (a : Action) (isCurrent : Bool) (s : State) : State :=
  let m := measureAhead a s
  match a.kind with
  | .enter =>
    let n := measureEnter a.subject a m.1
    placeAction first n.2 isCurrent n.1
  | _ => if m.2 then m.1 else placeAction first a isCurrent m.1

/-- R114, step 4: the forms in which a level is handed. -/
inductive HandedAs where
  | crossing | volumetric | forced
  deriving DecidableEq, Repr

/-- R114, step 4: the trigger of a level. -/
def levelTrigger (s : State) (sn : Snapshot) (form : HandedAs) (at_ comp : Nat) : Int :=
  match form with
  | .forced => s.cp.curS
  | .volumetric => (at_ : Int) + s.tables.params.leadVolume - comp
  | .crossing =>
    if sn.primary = some .manifold then (at_ : Int) - comp else (at_ : Int) + s.tables.params.leadVolume - comp

/-- R113: the action a rule calls for at a level. -/
def calledFor (rule : PairRule) (l : Level) : Option ActionKind :=
  match rule, l with
  | .transmix, .h => some .divert
  | .transmix, .t => some .enter
  | .toBehind, .h => some .enter
  | .split, .mid => some .enter
  | .toAhead, .t => some .enter
  | _, _ => none

/-- R112, R114: the action scheduled for a level. -/
def formAction (kind : ActionKind) (id : Nat) (sn : Snapshot) (form : HandedAs) (at_ : Nat) (s : State) : Action :=
  let lineup : LineupOf := if kind = .divert then .transmix else .bodyOf id
  let rs := formLineup s lineup
  { number := s.cp.nextNum
    kind := kind
    subject := id
    trigger := levelTrigger s sn form at_ (compensation s rs)
    lineup := lineup
    routes := rs
    flags := { ActionFlags.none with forced := form == .forced, volumetric := form == .volumetric }
    channel := none }

/-- R113, R116: one level handed for an interface; a level that calls for no action schedules nothing. -/
def scheduleLevel (first : Precedence) (id : Nat) (form : HandedAs) (l : Level) (at_ : Nat) (s : State) : State :=
  match (interfaceOf id s.lt.train).bind (·.snapshot) with
  | none => s
  | some sn =>
    match calledFor sn.rule l with
    | none => s
    | some .divert =>
      if ((findEntry id s.lt.train).map (·.protectStands)).getD false then s
      else scheduleAction first (formAction .divert id sn form at_ s) (form == .forced) (takeNumber s)
    | some k =>
      let s1 := checkDisposition id s
      scheduleAction first (formAction k id sn form at_ s1) (form == .forced) (takeNumber s1)

/-- R115: in UNCONFIGURED whatever reaches the Cut Planner is discarded. -/
def planning (k : State → State) (s : State) : State := if s.sm.mode = .unconfigured then s else k s

/-- R113: a crossing or forced crossing, taken from the channel that is the interface's primary. -/
def crossingToPlanner (ch : Channel) (id : Nat) (l : Level) (at_ : Nat) (forced : Bool) (first : Precedence)
    (s : State) : State :=
  match (interfaceOf id s.lt.train).bind (·.snapshot) with
  | none => s
  | some sn =>
    if sn.primary = some ch then
      settlePlan first s (scheduleLevel first id (if forced then .forced else .crossing) l at_ s)
    else s

/-- CROSSING_TO_CUT_PLANNER (R113 to R117, R123). -/
def execCrossingToCutPlanner (ch : Channel) (batch : Nat) (level : Level) (at_ : Nat) (forced : Bool)
    (first : Precedence) (s : State) : Result :=
  event (.crossingToCutPlanner ch batch level at_ forced first)
    (planning (crossingToPlanner ch batch level at_ forced first)) s

/-- R95, R113: volumetric points, in the order handed. -/
def pointsToPlanner (id : Nat) (first : Precedence) : List CutPoint → State → State
  | [], s => s
  | p :: rest, s => pointsToPlanner id first rest (scheduleLevel first id .volumetric p.level p.point s)

/-- VOLUMETRIC_POINTS_TO_CUT_PLANNER (R95, R76, R113). -/
def execVolumetricPointsToCutPlanner (batch : Nat) (points : List CutPoint) (first : Precedence) (s : State) : Result :=
  event (.volumetricPointsToCutPlanner batch points first)
    (planning (fun s => settlePlan first s (pointsToPlanner batch first points s))) s

/-! ### Early disagreement (R119) -/

/-- R119: the first action of an interface is brought forward to the current S and falls due. The triggers kept for the
clean volume (R123) stay those given at scheduling, by the model's choice [61]. -/
def advanceFirst (id : Nat) (first : Precedence) (s : State) : State :=
  if ((findEntry id s.lt.train).map (·.firstLeft)).getD true then s
  else
    match s.cp.actions.find? (belongs id) with
    | none => s
    | some a =>
      settlePlan first s (dueAction first
        { a with trigger := s.cp.curS, flags := { a.flags with advanced := true } }
        (s.setActions (s.cp.actions.eraseP (belongs id))))

/-- EARLY_DISAGREE_ADVANCE (R98, R119). -/
def execEarlyDisagreeAdvance (batch : Nat) (first : Precedence) (s : State) : Result :=
  event (.earlyDisagreeAdvance batch first) (advanceFirst batch first) s

/-! ### Protection and return (R120, R121) -/

/-- R120, R121: the trigger of a PROTECT or RETURN. -/
def excursionTrigger (ch : Channel) (at_ : Nat) (rs : List RouteNo) (s : State) : Int :=
  match ch with
  | .advance => (at_ : Int) + s.tables.params.leadVolume - compensation s rs
  | .manifold => s.cp.curS

/-- The PROTECT or RETURN of an excursion. -/
def excursionAction (kind : ActionKind) (ch : Channel) (at_ : Nat) (s : State) : Action :=
  let lineup : LineupOf := if kind = .protect then .transmix else .bodyOfManifold
  let rs := formLineup s lineup
  { number := s.cp.nextNum
    kind := kind
    subject := 0
    trigger := excursionTrigger ch at_ rs s
    lineup := lineup
    routes := rs
    flags := .none
    channel := some ch }

/-- R120: the excursion is marked as protected and the protect count rises; a protection still marked has lost its
excursion without an end and waits for the next RETURN [24]. -/
def markProtected (ch : Channel) (a : Action) (gone : Bool) (s : State) : State :=
  let earlier := (s.cp.protectedMark.get ch).isSome
  { s with cp := { s.cp with
    protectCount := s.cp.protectCount.set ch (s.cp.protectCount.get ch + 1)
    protectedMark := s.cp.protectedMark.set ch (if gone then s.cp.protectedMark.get ch else some ⟨a.number, a.trigger⟩)
    orphans := s.cp.orphans.set ch (s.cp.orphans.get ch + (if gone || earlier then 1 else 0)) } }

/-- R120: an excursion's start; `gone` where its record has already closed without an end [25]. -/
def excursionStart (ch : Channel) (start : Nat) (gone : Bool) (first : Precedence) (s : State) : State :=
  if (firstTransmix s.tables).isSome then
    let a := excursionAction .protect ch start s
    let lost := lostToFull a.trigger s
    let s1 := placeAction first a (ch == .manifold) (takeNumber s)
    settlePlan first s (if lost then s1 else markProtected ch a gone s1)
  else s

/-- Whether a hand-off is a channel's next excursion start or end. -/
def excursionNews (ch : Channel) (i : Instr) : Bool :=
  match i with
  | .excursionStartHanded c _ _ => c == ch
  | .excursionEndHanded c _ _ _ => c == ch
  | _ => false

/-- Whether a hand-off is an excursion's end. -/
def isEnd (i : Instr) : Bool :=
  match i with
  | .excursionEndHanded _ _ _ _ => true
  | _ => false

/-- What is on its way behind a hand-off; all of it where that hand-off is not on its way. -/
def handedAfter (i : Instr) (s : State) : List Instr :=
  if s.handed.contains i then (s.handed.dropWhile (fun x => x != i)).drop 1 else s.handed

/-- [25]: a start whose record has closed, or has been replaced, with no end of it handed on. -/
def excursionGone (ch : Channel) (start : Nat) (s : State) : Bool :=
  let i := Instr.excursionStartHanded ch start .routeController
  !((handedAfter i s).find? (excursionNews ch)).any isEnd
  && (match (s.sd.get ch).excursion with
      | some x => if x.start = start then !x.isOpen else s.handed.contains i
      | none => s.handed.contains i)

/-- EXCURSION_START_HANDED (R120). -/
def execExcursionStartHanded (ch : Channel) (start : Nat) (first : Precedence) (s : State) : Result :=
  event (.excursionStartHanded ch start first) (planning (excursionStart ch start (excursionGone ch start s) first)) s

/-- R121: an excursion's end: a RETURN for a protected excursion; one lost to a full list releases its protection. -/
def excursionEnd (ch : Channel) (endS : Nat) (first : Precedence) (s : State) : State :=
  if (s.cp.protectedMark.get ch).isSome then
    let a := excursionAction .return_ ch endS s
    let lost := lostToFull a.trigger s
    let s1 := { s with cp := { s.cp with protectedMark := s.cp.protectedMark.set ch none } }
    let s2 := placeAction first a (ch == .manifold) (takeNumber s1)
    settlePlan first s (if lost then
      { s2 with cp := { s2.cp with protectCount := s2.cp.protectCount.set ch (s2.cp.protectCount.get ch - 1) } }
      else s2)
  else s

/-- EXCURSION_END_HANDED (R121): NONE and REJECT give the same RETURN. -/
def execExcursionEndHanded (ch : Channel) (endS : Nat) (decision : Decision) (first : Precedence) (s : State) : Result :=
  event (.excursionEndHanded ch endS decision first) (planning (excursionEnd ch endS first)) s

/-- R68, R121: the open record of a protected excursion closes without an end. -/
def orphanProtection (ch : Channel) (s : State) : State :=
  if (s.cp.protectedMark.get ch).isSome then
    { s with cp := { s.cp with
      protectedMark := s.cp.protectedMark.set ch none
      orphans := s.cp.orphans.set ch (s.cp.orphans.get ch + 1) } }
  else s

/-- R122: the PROTECT of an excursion that still stands in the list becomes the interface's DIVERT. -/
def takeOverAction (n id : Nat) (a : Action) : Action :=
  if a.kind = .protect ∧ a.number = n then { a with kind := .divert, subject := id, channel := none } else a

/-- R122: the PROTECT stands as the interface's DIVERT, its first action where it has none yet (R123). -/
def standAsDivert (id : Nat) (trigger : Int) (left : Bool) (s : State) : State :=
  let fresh := isFirst id s
  let s1 := s.setTrain (modEntry id (fun e => { e with
    protectStands := true
    firstLeft := e.firstLeft || left
    firstTrigger := if e.firstTrigger.isNone then some trigger else e.firstTrigger }) s.lt.train)
  if fresh then
    match aheadOf id s1.lt.train with
    | some k => (measureTrailing k.id id s1).1
    | none => s1
  else s1

/-- R122: a host ACCEPT takes over the channel's protection for the interface of a batch. -/
def protectTakeover (ch : Channel) (id : Nat) (s : State) : State :=
  match s.cp.protectedMark.get ch with
  | none => s
  | some p =>
    let s1 := { s with cp := { s.cp with
      protectedMark := s.cp.protectedMark.set ch none
      protectCount := s.cp.protectCount.set ch (s.cp.protectCount.get ch - 1) } }
    if s1.cp.actions.any (fun a => a.kind == .protect && a.number == p.number) then
      standAsDivert id p.trigger false (s1.setActions (s1.cp.actions.map (takeOverAction p.number id)))
    else
      match s1.cp.plan with
      | some pl =>
        if pl.kind = .protect then
          standAsDivert id p.trigger true (compare (s1.setPlan (some { pl with kind := .transmix, owner := id })))
        else s1
      | none => s1

/-! ### Strips (R124) -/

/-- R124: the strip of the manifold batch has come to its volume. -/
def stripDone (tb : Tables) (train : List Entry) (m : Entry) : Option Nat :=
  match governing tb train m with
  | .strip r v => if !m.stripMark && decide (v * 1000 ≤ m.delivery.routes.get r) then some (m.delivery.routes.get r / 1000)
    else none
  | _ => none

/-- R124: the Cut Planner examines strip delivery after a booking. -/
def stripCheck (s : State) : State :=
  match manifoldOf s.lt.train with
  | none => s
  | some m =>
    match stripDone s.tables s.lt.train m with
    | none => s
    | some litres =>
      let s1 := (s.setTrain (modEntry m.id (fun e => { e with stripMark := true }) s.lt.train)).post .stripComplete m.id
        litres
      if planIsBodyOf m.id s1 then planBody m.id s1 else s1

/-- BOOKING_STRIP_CHECK (R124). -/
def execBookingStripCheck (s : State) : Result := event .bookingStripCheck stripCheck s

end Sys2Proof.Machine
end

