-- ==== Sys2Proof/Machine/Modes.lean ====
section
/-! DEFINITION. Modes.lean: the Station Mode's changes of mode, the demands on it, and the station clock's SET TIME
(chapter 8). -/

namespace Sys2Proof.Machine

/-- R145: the mode codes. -/
def modeCode : StationMode → Nat
  | .unconfigured => 0
  | .hold => 1
  | .tracking => 2
  | .manual => 3
  | .safe => 4

/-- R145: the causes of MODE_CHANGE. -/
inductive ModeCause where
  | setMode | safeDemand | overflow
  deriving DecidableEq, Repr

def modeCauseCode : ModeCause → Nat
  | .setMode => 1
  | .safeDemand => 2
  | .overflow => 3

/-- R145, steps 1 and 2: the new mode is recorded and MODE_CHANGE posted. -/
def recordMode (new : StationMode) (cause : ModeCause) (s : State) : State :=
  (s.setMode new).post .modeChange (modeCauseCode cause) (10 * modeCode s.sm.mode + modeCode new)

/-- R138: a change to HOLD or MANUAL sets the abandon mark of a switch in progress. -/
def markAbandon (new : StationMode) (s : State) : State :=
  if new = .hold ∨ new = .manual then s.setSwitch (s.rc.switching.map (fun w => { w with abandon := true })) else s

/-- R135: a change from SAFE clears the safe-line-up latch. -/
def clearLatchFrom (old : StationMode) (s : State) : State := if old = .safe then s.setLatch false else s

/-- R145, step 3: the Route Controller takes the new mode and compares its line-up. -/
def takeMode (old new : StationMode) (s : State) : State := compare (markAbandon new (clearLatchFrom old s))

/-- R145: a change of mode other than a start. -/
def changeMode (new : StationMode) (cause : ModeCause) (s : State) : State :=
  takeMode s.sm.mode new (recordMode new cause s)

/-- R151: the lowest-numbered route in FAULT. -/
def firstFault (s : State) : Option RouteNo := allRoutes.find? (fun r => valveIs s r .fault)

/-- R146: what SET MODE may ask for. -/
def requestedMode : Nat → Option StationMode
  | 1 => some .hold
  | 2 => some .tracking
  | 3 => some .manual
  | _ => none

/-- R146: the outcome of a valid SET MODE. -/
inductive ModeVerdict where
  | accept
  | keep
  | refuse (code : RefusalCode) (detail : Nat)
  deriving DecidableEq, Repr

/-- R146, R147, R151: the judgement of a valid SET MODE from the mode standing. -/
def judgeMode (new : StationMode) (s : State) : ModeVerdict :=
  match s.sm.mode with
  | .unconfigured =>
    if new = .hold then
      if missingMask s.tables = 0 then .accept else .refuse .incomplete (missingMask s.tables)
    else .refuse .wrongMode 0
  | .safe =>
    match new with
    | .hold => .accept
    | .tracking =>
      if s.rc.switching.isSome then .refuse .busy 0
      else
        match firstFault s with
        | some r => .refuse .routeFault (routeNumber r)
        | none => .accept
    | _ => .refuse .wrongMode 0
  | old => if new = old then .keep else .accept

/-- SET_MODE (R146). -/
def execSetMode (code : Nat) (s : State) : Result :=
  request (fun s =>
    match requestedMode code with
    | none => s.refuse 0x20 .badValue 0
    | some new =>
      match judgeMode new s with
      | .refuse c d => s.refuse 0x20 c d
      | .keep => s.accept 0x20 (enc1 (modeCode s.sm.mode))
      | .accept => (changeMode new .setMode s).accept 0x20 (enc1 (modeCode (changeMode new .setMode s).sm.mode))) s

/-- R148: the detail of SAFE_ENTERED. -/
def safeCauseCode : SafeCause → Nat
  | .involvedFault => 1
  | .lockedOut => 2
  | .outletLost => 3

/-- R149: a SAFE demand is taken in TRACKING alone; SAFE_ENTERED follows MODE_CHANGE. -/
def takeSafeDemand (r : RouteNo) (c : SafeCause) (s : State) : State :=
  if s.sm.mode = .tracking then
    takeMode .tracking .safe ((recordMode .safe .safeDemand s).post .safeEntered (routeNumber r) (safeCauseCode c))
  else s

/-- SAFE_DEMAND (R148, R149). -/
def execSafeDemand (r : RouteNo) (c : SafeCause) (s : State) : Result :=
  event (.safeDemand r c) (takeSafeDemand r c) s

/-- R150: a HOLD demand takes effect in TRACKING, MANUAL and SAFE. -/
def takeHoldDemand (s : State) : State :=
  match s.sm.mode with
  | .tracking => changeMode .hold .overflow s
  | .manual => changeMode .hold .overflow s
  | .safe => changeMode .hold .overflow s
  | .hold => s
  | .unconfigured => s

/-- HOLD_DEMAND (R150). -/
def execHoldDemand (s : State) : Result := event .holdDemand takeHoldDemand s

/-- R157: the time of day after SET TIME. -/
def setTime (seconds : Nat) (s : State) : State :=
  { s with clock := { s.clock with seconds := seconds, milli := 0, isSet := true } }

/-- SET_TIME (R157): the acceptance carries the time of day taken. -/
def execSetTime (seconds : Nat) (s : State) : Result :=
  request (fun s => (setTime seconds s).accept 0x23 (encUnsigned 4 seconds ++ encUnsigned 2 0)) s

end Sys2Proof.Machine
end

