-- ==== Sys2Proof/Machine/Windows.lean ====
section
/-! DEFINITION. Windows.lean: anchoring (chapter 1, section 1.6) and the window handling: halfwidths, considerations,
snapshots, expiries, volumetric placement and manifold confirmation (chapter 5). -/

namespace Sys2Proof.Machine

/-! ### Forming a window (R84 to R90) -/

/-- R84: the predicted mix of an interface: base mix plus the standstill count times the growth, at most the max mix. -/
def predictedMix (p : PairEntry) (standstills : Nat) : Nat := min p.maxMix (p.baseMix + standstills * p.growth)

/-- R85: the halfwidth of an interface at a position with a predicted mix. -/
def halfwidth (s : State) (pos mix : Nat) : Nat :=
  min s.tables.params.maxHalfwidth
    (s.tables.params.minHalfwidth + s.tables.params.toleranceRate * (pos - s.lt.sLast) / 1000 + mix / 2 + s.lt.gap)

/-- The state of a channel. -/
def channelMode (s : State) (c : Channel) : ChannelMode := (s.sd.get c).mode

/-- R87: the primary channel of a candidate. -/
def primaryChannel (s : State) : Option Channel :=
  if channelMode s .advance ≠ .off then some .advance
  else if channelMode s .manifold ≠ .off then some .manifold
  else none

/-- R87: where the edges of a window stand: one lead volume later for MANIFOLD. -/
def windowCentre (s : State) (primary : Option Channel) (pos : Nat) : Int :=
  if primary = some .manifold then (pos : Int) + s.tables.params.leadVolume else pos

/-- R106: the rank of a product, 9 where it is not defined. -/
def rankOf (tb : Tables) (product : Nat) : Nat := ((productOf tb product).map (·.rank)).getD 9

/-- R106: the pair rule as the Cut Planner resolves it: TRANSMIX is degraded by rank without a TRANSMIX route. -/
def resolveRule (tb : Tables) (ahead behind : Nat) : PairRule :=
  match (pairOf tb ahead behind).rule with
  | .transmix =>
    if (firstTransmix tb).isSome then .transmix
    else if rankOf tb ahead < rankOf tb behind then .toAhead
    else if rankOf tb behind < rankOf tb ahead then .toBehind
    else .split
  | r => r

/-- R89: h clamped between fd and fa. -/
def snapshotH (fd fa h : Nat) : Nat := min fa (max fd h)

/-- R89: t clamped between h and fa. -/
def snapshotT (fa h t : Nat) : Nat := max h (min fa t)

/-- R66: the body mean of a channel. -/
def bodyMean (c : ChannelState) : Option Int := meanOf c.body

/-- R90: the density of the product ahead as the primary channel offers it. -/
def aheadDensity (c : ChannelState) (ahead : Entry) : Int :=
  if c.mode = .clean ∧ Config.acquireCount ≤ c.body.length then (bodyMean c).getD ahead.density else ahead.density

/-- R90: the contrast for a primary channel. -/
def windowContrast (s : State) (c : Channel) (ahead e : Entry) : Nat :=
  ((e.density : Int) - aheadDensity (s.sd.get c) ahead).natAbs

/-- R109: the disposition a snapshot records for a batch. -/
def recordedDisposition (tb : Tables) (e : Entry) : Disposition := e.disposition.getD (defaultDisposition tb)

/-- R89: the snapshot of an interface between two entries. -/
def formSnapshot (s : State) (ahead e : Entry) (i : Interface) (primary : Option Channel) (contrast : Option Nat)
    (low : Bool) : Snapshot :=
  let p := pairOf s.tables ahead.product e.product
  let mix := predictedMix p i.standstills
  let h := snapshotH s.tables.params.fd s.tables.params.fa p.h
  { rule := resolveRule s.tables ahead.product e.product
    h := h
    t := snapshotT s.tables.params.fa h p.t
    mix := mix
    halfwidth := halfwidth s i.pos mix
    contrast := contrast
    lowContrast := low
    dispAhead := recordedDisposition s.tables ahead
    dispBehind := recordedDisposition s.tables e
    primary := primary
    maxMix := p.maxMix
    fd := s.tables.params.fd
    fa := s.tables.params.fa }

/-- R109: a batch without a disposition is supplied with the default: the event and the ticket flag. -/
def supplyDefault (e : Entry) (detail : Int) (s : State) : State :=
  if e.disposition.isSome then s
  else
    (s.setTrain (markBatch e.id (fun f => { f with defaultDisposition := true }) s.lt.train)).post .defaultDisposition
      e.id detail

/-- R89, R109: the snapshot of an interface is taken. -/
def takeSnapshot (ahead e : Entry) (sn : Snapshot) (s : State) : State :=
  supplyDefault e 2 (supplyDefault ahead 1
    (s.setTrain (modInterface e.id (fun i => { i with snapshot := some sn }) s.lt.train)))

/-! ### Volumetric placement (R95, R18) -/

/-- R95: the volumetric cut points of a position and a predicted mix. -/
def volumetricPoints (tb : Tables) (pos mix : Nat) : List CutPoint :=
  let half := mix * tb.params.volumetricFactor / 1000 / 2
  [⟨.h, pos - half⟩, ⟨.mid, pos⟩, ⟨.t, pos + half⟩]

/-- Whether a channel holds the interface of a batch, active or waiting. -/
def channelHolds (s : State) (id : Nat) (c : Channel) : Bool :=
  ((s.sd.get c).active.map (·.batch)) == some id || ((s.sd.get c).waiting.map (·.batch)) == some id

/-- R95: a channel that still holds the interface is handed a release. -/
def releaseFrom (id : Nat) (c : Channel) (s : State) : State :=
  if channelHolds s id c then s.hand (.channelRelease c id) else s

/-- R95: the volumetric points of an interface are handed to the Cut Planner. -/
def handPoints (id : Nat) (s : State) : State :=
  match interfaceOf id s.lt.train with
  | none => s
  | some i =>
    match i.snapshot with
    | none => s
    | some sn => s.hand (.volumetricPointsToCutPlanner id (volumetricPoints s.tables i.pos sn.mix) .routeController)

/-- R18, R95: an interface is placed VOLUMETRIC, its event posted and its points handed; the completion check follows
(R21), before any next candidate is considered [60]. -/
def placeVolumetric (id : Nat) (k : EventKind) (detail : Int) (s : State) : State :=
  let s1 := s.setTrain (modInterface id (fun i => { i with track := .volumetric, method := some .volumetric }) s.lt.train)
  completionCheck (handPoints id ((releaseFrom id .manifold (releaseFrom id .advance s1)).post k id detail))

/-! ### Considering a candidate (R86, R88, R91) -/

/-- R86: the first FAR interface in train order, with the entry ahead of it. -/
def candidate : List Entry → Option (Entry × Entry × Interface)
  | [] => none
  | [_] => none
  | a :: e :: rest =>
    match e.leading with
    | some i => if i.track = .far then some (a, e, i) else candidate (e :: rest)
    | none => candidate (e :: rest)

/-- R70: the values with which an interface is handed to a channel. -/
def handOffOf (id : Nat) (role : HoldRole) (sn : Snapshot) : HandOff := ⟨id, role, sn.h, sn.t, sn.maxMix, sn.fd, sn.fa⟩

/-- R91: a window opens on a channel. -/
def openWindow (e : Entry) (c : Channel) (sn : Snapshot) (centre : Int) (s : State) : State :=
  let s1 := s.setTrain (modInterface e.id (fun i => { i with track := .window }) s.lt.train)
  let s2 := s1.setWindow (some ⟨e.id, c, centre - sn.halfwidth, centre + sn.halfwidth, false, false⟩)
  (s2.post .windowOpen e.id sn.halfwidth).hand (.channelInterfaceHanded c (handOffOf e.id .primary sn))

/-- R88: one consideration of a candidate. The mark answers whether the candidate was placed VOLUMETRIC. -/
def considerCandidate (ahead e : Entry) (i : Interface) (s : State) : State × Bool :=
  let primary := primaryChannel s
  let centre := windowCentre s primary i.pos
  let plain := formSnapshot s ahead e i primary none false
  let now : Int := s.lt.curS
  if now < centre - plain.halfwidth then (s, false)
  else if centre + plain.halfwidth < now then
    (placeVolumetric e.id .interfaceMissed 2 (takeSnapshot ahead e plain s), true)
  else
    match primary with
    | none => (placeVolumetric e.id .interfaceMissed 3 (takeSnapshot ahead e plain s), true)
    | some c =>
      let contrast := windowContrast s c ahead e
      let low := decide (contrast < s.tables.params.minContrast)
      let sn := formSnapshot s ahead e i primary (some contrast) low
      if low then (placeVolumetric e.id .lowContrast contrast (takeSnapshot ahead e sn s), true)
      else (openWindow e c sn centre (takeSnapshot ahead e sn s), false)

/-- R86: the candidates are considered one after another until one opens or stays FAR; where one is placed VOLUMETRIC its
completion check (R21) comes before the next is considered [60]. -/
def considerLoop : Nat → State → State
  | 0, s => s
  | n + 1, s =>
    if s.lt.window.isSome then s
    else
      match candidate s.lt.train with
      | none => s
      | some (a, e, i) =>
        let r := considerCandidate a e i s
        if r.2 then considerLoop n r.1 else r.1

/-- R86: the consideration of the candidate, while the window record is empty. -/
def considerWindow (s : State) : State := considerLoop s.lt.train.length s

/-- Every closing empties the window record, and the next candidate is considered at the same S (R86). -/
def emptyWindow (s : State) : State := s.setWindow none

/-! ### Manifold confirmation (R96 to R99) -/

/-- R96: eligible for confirmation. -/
def eligible (i : Interface) : Bool :=
  match i.snapshot with
  | some sn =>
    sn.primary == some .advance && !sn.lowContrast && i.mfResult.isNone
    && (i.track == .anchored || i.track == .volumetric || i.track == .cleared)
  | none => false

/-- R96: the confirmation candidate: the first eligible interface with its snapshot. -/
def confirmCandidate : List Entry → Option (Nat × Nat × Snapshot)
  | [] => none
  | e :: rest =>
    match e.leading with
    | some i =>
      if eligible i then i.snapshot.map (fun sn => (e.id, i.pos, sn)) else confirmCandidate rest
    | none => confirmCandidate rest

/-- R96: the MANIFOLD channel holds a PRIMARY interface, active or waiting, or one is on its way to it [36]. -/
def manifoldPrimary (s : State) : Bool :=
  (s.sd.manifold.active.map (·.role)) == some .primary || (s.sd.manifold.waiting.map (·.role)) == some .primary
  || s.handed.any (fun i =>
    match i with
    | .channelInterfaceHanded .manifold ho => ho.role == .primary
    | _ => false)

/-- R97, R99: a confirmation ends without a departure. -/
def noConfirm (id : Nat) (detail : Int) (s : State) : State :=
  (s.setTrain (modInterface id (fun i => { i with mfResult := some .noConfirm }) s.lt.train)).post .mfNoConfirm id detail

/-- R96: the confirmation record is filled and the interface handed, or awaited while the channel is OFF. -/
def openConfirm (id : Nat) (lower upper : Int) (sn : Snapshot) (s : State) : State :=
  let lost := channelMode s .manifold == .off
  let s1 := s.setConfirm (some ⟨id, lower, upper, s.tables.params.confirmTolerance, lost, false⟩)
  if lost then s1 else s1.hand (.channelInterfaceHanded .manifold (handOffOf id .confirming sn))

/-- R96: the confirmation candidates are considered until one waits, opens, or none is left. -/
def confirmLoop : Nat → State → State
  | 0, s => s
  | n + 1, s =>
    if s.lt.confirm.isSome then s
    else
      match confirmCandidate s.lt.train with
      | none => s
      | some (id, pos, sn) =>
        let centre : Int := (pos : Int) + s.tables.params.leadVolume
        let reach : Int := (s.tables.params.confirmTolerance : Int) + (sn.mix / 2 : Nat)
        let now : Int := s.lt.curS
        if now < centre - reach then s
        else if centre + reach < now then confirmLoop n (noConfirm id 2 s)
        else if manifoldPrimary s then s
        else openConfirm id (centre - reach) (centre + reach) sn s

/-- R96: the consideration of the confirmation candidate. -/
def considerConfirm (s : State) : State := confirmLoop s.lt.train.length s

/-- R97, R99: the confirmation record is emptied with the result NO_CONFIRM, and the next candidate considered. -/
def endConfirm (id : Nat) (detail : Int) (s : State) : State := considerConfirm (noConfirm id detail (s.setConfirm none))

/-- R97: the MANIFOLD channel gives up the confirming interface for a PRIMARY one. -/
def confirmGivenUp (id : Nat) (s : State) : State :=
  match s.lt.confirm with
  | some c => if c.batch = id then endConfirm id 3 s else s
  | none => s

/-! ### The S advance (R1, R86, R93, R96, R99) -/

/-- A window closes without an anchor: the record is emptied, the interface placed VOLUMETRIC, and the next candidate
considered (R86). The completion check of R21 comes before that consideration, an order the spec does not state and the
model chooses [60]. -/
def closeVolumetric (id : Nat) (k : EventKind) (detail : Int) (s : State) : State :=
  considerWindow (placeVolumetric id k detail (emptyWindow s))

/-- R93: the window's expiry at an S advance. -/
def windowExpiry (s : State) : State :=
  match s.lt.window with
  | none => s
  | some w =>
    if w.expiryHanded = false ∧ w.upper < (s.lt.curS : Int) then
      if w.lost then closeVolumetric w.batch .interfaceMissed 4 s
      else (s.setWindow (some { w with expiryHanded := true })).hand (.channelWindowExpiry w.channel w.batch)
    else s

/-- R99: the confirmation's expiry at an S advance. -/
def confirmExpiry (s : State) : State :=
  match s.lt.confirm with
  | none => s
  | some c =>
    if c.expiryHanded = false ∧ c.upper < (s.lt.curS : Int) then
      if c.lost then endConfirm c.batch 1 s
      else (s.setConfirm (some { c with expiryHanded := true })).hand (.channelWindowExpiry .manifold c.batch)
    else s

/-- R1: the Line Tracker takes a new S. The order is the model's own: the completion check, then the window's expiry and
candidate, then the confirmation's expiry and candidate [47]. -/
def ltAdvance (newS : Nat) (s : State) : State :=
  considerConfirm (confirmExpiry (considerWindow (windowExpiry
    (completionCheck { s with lt := { s.lt with curS := newS } }))))

/-- LT_S_ADVANCE (R1). -/
def execLtSAdvance (newS : Nat) (s : State) : Result := event (.ltSAdvance newS) (ltAdvance newS) s

/-! ### Anchors (R16, R17, R92) -/

/-- R17: the anchored position, from the anchor value, the source and the reference position of the entry ahead. -/
def anchoredPosition (tb : Tables) (source : AnchorSource) (a : Int) (reference : Nat) : Nat :=
  let x : Int := if source = .manifold then a - tb.params.leadVolume else a
  if x ≤ (reference : Int) then reference + 1 else x.toNat

/-- The anchor method a source gives (R16). -/
def methodOf : AnchorSource → AnchorMethod
  | .advance => .advance
  | .manifold => .manifold
  | .host => .host

/-- An anchor is taken for an interface that is FAR or WINDOW (R16). -/
def anchorable (i : Interface) : Bool := i.track == .far || i.track == .window

/-- R16, steps 1 to 5: the anchor on the train and the Line Tracker's counts. -/
def applyAnchor (id : Nat) (source : AnchorSource) (p : Nat) (i : Interface) (s : State) : State :=
  let residual : Int := (p : Int) - i.pos
  let t := modInterface id (fun i => { i with
    residual := some residual, pos := p, track := .anchored, method := some (methodOf source) }) s.lt.train
  ({ s with lt := { s.lt with train := rederive t, sLast := p, gap := 0 } }).post .interfaceAnchored id residual

/-- R16, R17, R92: an anchor is taken by an interface that is FAR or WINDOW; the window record is emptied where it names
the interface. -/
def anchorInterface (id : Nat) (value : Int) (source : AnchorSource) (s : State) : State :=
  match interfaceOf id s.lt.train, aheadOf id s.lt.train with
  | some i, some ahead =>
    if anchorable i then
      let s1 := applyAnchor id source (anchoredPosition s.tables source value ahead.reference) i s
      if (s1.lt.window.map (·.batch)) = some id then emptyWindow s1 else s1
    else s
  | _, _ => s

/-- What follows an anchor: the completion check (R21) and, where the window record has become empty, the next candidate's
consideration (R86). -/
def afterAnchor (before s : State) : State :=
  if before.lt.window.isSome && s.lt.window.isNone then considerWindow (completionCheck s) else completionCheck s

/-- An anchor is handed to the Line Tracker; nothing where it is not taken (R16). -/
def takeAnchor (id : Nat) (value : Int) (source : AnchorSource) (s : State) : State :=
  match interfaceOf id s.lt.train with
  | some i => if anchorable i then afterAnchor s (anchorInterface id value source s) else s
  | none => s

/-- ANCHOR_HANDED (R16, R17, R92). -/
def execAnchorHanded (batch value : Nat) (source : AnchorSource) (s : State) : Result :=
  event (.anchorHanded batch value source) (takeAnchor batch value source) s

/-- R92: a crossing handed by the interface's primary channel is entered in the interface record, once for each
level. -/
def takeCrossing (ch : Channel) (id : Nat) (l : Level) (at_ : Nat) (s : State) : State :=
  s.setTrain (modInterface id (fun i =>
    if (i.snapshot.bind (·.primary)) = some ch ∧ (i.crossings.get l).isNone then
      { i with crossings := i.crossings.set l (some at_) }
    else i) s.lt.train)

/-- CROSSING_TO_LINE_TRACKER (R92, R73). -/
def execCrossingToLineTracker (ch : Channel) (batch : Nat) (level : Level) (at_ : Nat) (s : State) : Result :=
  event (.crossingToLineTracker ch batch level at_) (takeCrossing ch batch level at_) s

/-! ### What the channels report (R90, R93, R94, R97 to R99) -/

/-- R93, R99: an interface returned as missed. -/
def takeMiss (ch : Channel) (id : Nat) (s : State) : State :=
  match s.lt.window with
  | some w =>
    if w.batch = id ∧ w.channel = ch then closeVolumetric id .interfaceMissed 1 s
    else
      match s.lt.confirm with
      | some c => if c.batch = id ∧ ch = .manifold then endConfirm id 1 s else s
      | none => s
  | none =>
    match s.lt.confirm with
    | some c => if c.batch = id ∧ ch = .manifold then endConfirm id 1 s else s
    | none => s

/-- MISS_RETURNED (R93, R99). -/
def execMissReturned (ch : Channel) (batch : Nat) (s : State) : Result :=
  event (.missReturned ch batch) (takeMiss ch batch) s

/-- R94: the window's interface is reported lost by its channel. -/
def windowLost (ch : Channel) (id : Nat) (s : State) : State :=
  match s.lt.window with
  | some w =>
    if w.batch = id ∧ w.channel = ch then
      if w.expiryHanded then closeVolumetric id .interfaceMissed 4 s else s.setWindow (some { w with lost := true })
    else s
  | none => s

/-- R96, R99: the confirming interface is reported lost by the MANIFOLD channel. -/
def confirmLost (ch : Channel) (id : Nat) (s : State) : State :=
  match s.lt.confirm with
  | some c =>
    if c.batch = id ∧ ch = .manifold then
      if c.expiryHanded then endConfirm id 1 s else s.setConfirm (some { c with lost := true })
    else s
  | none => s

/-- CHANNEL_LOST_REPORT (R94, R96). -/
def execChannelLostReport (ch : Channel) (batch : Nat) (s : State) : Result :=
  event (.channelLostReport ch batch) (fun s => confirmLost ch batch (windowLost ch batch s)) s

/-- R94, R96: an interface is handed again with the values of its snapshot, its record HANDED as in `regained`. Where its
entry has left the train there is nothing to hand and the record stays LOST, by the model's choice [26]. -/
def handAgain (ch : Channel) (id : Nat) (role : HoldRole) (regained s : State) : State :=
  match (interfaceOf id s.lt.train).bind (·.snapshot) with
  | some sn => regained.hand (.channelInterfaceHanded ch (handOffOf id role sn))
  | none => s

/-- R94: a channel has left OFF: the window's interface is handed to it again. -/
def windowLeftOff (ch : Channel) (s : State) : State :=
  match s.lt.window with
  | some w =>
    if w.channel = ch ∧ w.lost = true ∧ (s.lt.curS : Int) ≤ w.upper then
      handAgain ch w.batch .primary (s.setWindow (some { w with lost := false })) s
    else s
  | none => s

/-- R96: the confirming interface is handed to the MANIFOLD channel again, unless that channel holds a PRIMARY one [31] or
its entry has left the train [26]; the record then stays LOST and ends at its expiry (R99). -/
def confirmLeftOff (ch : Channel) (s : State) : State :=
  match s.lt.confirm with
  | some c =>
    if ch = .manifold ∧ c.lost = true ∧ (s.lt.curS : Int) ≤ c.upper ∧ manifoldPrimary s = false then
      handAgain .manifold c.batch .confirming (s.setConfirm (some { c with lost := false })) s
    else s
  | none => s

/-- CHANNEL_LEFT_OFF_REPORT (R94, R96). -/
def execChannelLeftOffReport (ch : Channel) (s : State) : Result :=
  event (.channelLeftOffReport ch) (fun s => confirmLeftOff ch (windowLeftOff ch s)) s

/-- R90: the channel's contrast is recorded in the snapshot, with the low-contrast flag. -/
def recordLowContrast (id contrast : Nat) (s : State) : State :=
  s.setTrain (modInterface id (fun i => { i with
    snapshot := i.snapshot.map (fun sn => { sn with contrast := some contrast, lowContrast := true }) }) s.lt.train)

/-- R90, R97: a channel's report of low contrast. -/
def takeLowContrast (ch : Channel) (id : Nat) (role : HoldRole) (contrast : Nat) (s : State) : State :=
  match role with
  | .primary =>
    match s.lt.window with
    | some w =>
      if w.batch = id ∧ w.channel = ch then
        closeVolumetric id .lowContrast contrast (recordLowContrast id contrast s)
      else s
    | none => s
  | .confirming =>
    match s.lt.confirm with
    | some c => if c.batch = id ∧ ch = .manifold then endConfirm id 4 s else s
    | none => s

/-- LOW_CONTRAST_REPORT (R90, R97). -/
def execLowContrastReport (ch : Channel) (batch : Nat) (role : HoldRole) (contrast : Nat) (s : State) : Result :=
  event (.lowContrastReport ch batch role contrast) (takeLowContrast ch batch role contrast) s

/-- R98: the judgement of a confirmed MANIFOLD departure. -/
def judgeDeparture (id start pos tolerance : Nat) (s : State) : State :=
  let r : Int := (start : Int) - ((pos : Int) + s.tables.params.leadVolume)
  let good := decide (r.natAbs ≤ tolerance)
  let s1 := s.setTrain (modInterface id (fun i => { i with
    mfStart := some start, mfResult := some (if good then .confirmed else .disagree) }) s.lt.train)
  let s2 := s1.post (if good then .mfConfirmed else .mfDisagree) id r
  if r < -(tolerance : Int) then s2.hand (.earlyDisagreeAdvance id .routeController) else s2

/-- R98: the departure start of the confirming interface is taken and the record emptied. -/
def takeConfirmDeparture (id start : Nat) (s : State) : State :=
  match s.lt.confirm with
  | some c =>
    if c.batch = id then
      considerConfirm (match interfaceOf id s.lt.train with
        | some i => judgeDeparture id start i.pos c.tolerance (s.setConfirm none)
        | none => s.setConfirm none)
    else s
  | none => s

/-- CONFIRM_DEPARTURE_HANDED (R98). -/
def execConfirmDepartureHanded (batch start : Nat) (s : State) : Result :=
  event (.confirmDepartureHanded batch start) (takeConfirmDeparture batch start) s

/-- MANIFOLD_PRIMARY_CEASED (R96). -/
def execManifoldPrimaryCeased (s : State) : Result := event .manifoldPrimaryCeased considerConfirm s

end Sys2Proof.Machine
end

