-- ==== Sys2Proof/Machine/Channels.lean ====
section
/-! DEFINITION. Channels.lean: the Signature Detector's two channels: readings, S advances, slot changes, window events
and excursions (chapter 4). -/

namespace Sys2Proof.Machine

/-! ### Fractions, bands and the reference pair (R64 to R66) -/

/-- R65: the mix fraction of a reading against a reference pair, 0 to 1000. -/
def mixFraction (p : RefPair) (value : Int) : Nat :=
  (clampInt 0 1000 (roundDiv (1000 * (value - p.ahead)) (p.behind - p.ahead))).toNat

/-- R80: the fraction of the current reading of a channel, where a pair is fixed. -/
def currentFraction (c : ChannelState) : Option Nat :=
  match c.pair, c.current with
  | some p, some r => some (mixFraction p r.value)
  | _, _ => none

/-- R66, R69: the band test against the body mean; none while the body window is empty. -/
def inBodyBand (s : State) (c : ChannelState) (value : Int) : Option Bool :=
  (bodyMean c).map (within s.tables.params.bodyBand value)

/-- The nominal density of an entry, free [14] where the entry is no longer in the train. -/
def densityOf (id : Nat) (e : Option Entry) : Int :=
  match e with
  | some e => e.density
  | none => (Config.densityOfGoneEntry id).toNat

/-- R64: the reference pair of a channel for the interface of a batch. -/
def referencePair (s : State) (c : ChannelState) (id : Nat) : RefPair :=
  let ahead : Int := densityOf id (aheadOf id s.lt.train)
  { ahead := if Config.acquireCount ≤ c.body.length then (bodyMean c).getD ahead else ahead
    behind := densityOf id (findEntry id s.lt.train) }

/-- R64: the contrast of a pair. -/
def pairContrast (p : RefPair) : Nat := (p.behind - p.ahead).natAbs

/-- R70: the detail of DETECTOR_LOCKED and DETECTOR_CLEARED. -/
def fractionDetail (ch : Channel) (f : Nat) : Int := if ch = .manifold then f + 10000 else f

/-- A change of a channel. -/
def modChannel (ch : Channel) (f : ChannelState → ChannelState) (s : State) : State := s.setChannel ch (f (s.sd.get ch))

/-! ### The interface followed -/

/-- A channel with no interface followed: pair, departure, expiry mark, settling and crossings cleared. -/
def unfollow (m : ChannelMode) (c : ChannelState) : ChannelState :=
  { c with
    mode := m, active := none, ghost := none, pair := none, depStart := none, expiryMark := false
    settleStart := none, settleBuf := [], crossings := .all none }

/-- R64, R70: a CLEAN channel takes an interface: WATCH, LOCKED, or low contrast reported. -/
def takeInterface (ch : Channel) (ho : HandOff) (s : State) : State :=
  let c := s.sd.get ch
  let p := referencePair s c ho.batch
  if pairContrast p < s.tables.params.minContrast then
    (s.setChannel ch { unfollow .clean c with measure := none, waiting := none }).hand
      (.lowContrastReport ch ho.batch ho.role (pairContrast p))
  else
    let c1 := { unfollow .watch c with active := some ho, waiting := none, pair := some p, measure := none }
    match currentFraction c1 with
    | none => s.setChannel ch c1
    | some f =>
      if ho.fd ≤ f then
        (s.setChannel ch { c1 with mode := .locked }).post .detectorLocked ho.batch (fractionDetail ch f)
      else s.setChannel ch c1

/-- A channel comes to CLEAN and takes a waiting interface (R67, R70, R74, R78). -/
def toClean (ch : Channel) (c : ChannelState) (s : State) : State :=
  let c1 := unfollow .clean c
  match c.waiting with
  | none => s.setChannel ch c1
  | some ho => takeInterface ch ho (s.setChannel ch c1)

/-! ### Crossings (R72, R73) -/

/-- The levels of a hand-off as fractions (R73). -/
def levelFraction (ho : HandOff) : Level → Nat
  | .h => ho.h
  | .mid => 500
  | .t => ho.t

/-- R73: the levels a fraction reaches that have no crossing recorded, in the order h, 500, t. -/
def newLevels (ho : HandOff) (c : ChannelState) (f : Nat) : List Level :=
  allLevels.filter (fun l => decide (levelFraction ho l ≤ f) && (c.crossings.get l).isNone)

/-- R73, R75: levels are recorded at an S. -/
def recordLevels (ls : List Level) (at_ : Nat) (x : Levels (Option Nat)) : Levels (Option Nat) :=
  ls.foldl (fun x l => x.set l (some at_)) x

/-- R73: recorded levels are handed to the Line Tracker. -/
def handToTracker (ch : Channel) (id at_ : Nat) (ls : List Level) (s : State) : State :=
  ls.foldl (fun s l => s.hand (.crossingToLineTracker ch id l at_)) s

/-- R73, R75: levels are handed to the Cut Planner. -/
def handToPlanner (ch : Channel) (id at_ : Nat) (forced : Bool) (ls : List Level) (s : State) : State :=
  ls.foldl (fun s l => s.hand (.crossingToCutPlanner ch id l at_ forced .routeController)) s

/-- R73: a reading of an active PRIMARY interface is examined; in MIXED its crossings also go to the Cut Planner. -/
def examineLevels (ch : Channel) (f tag : Nat) (mixed : Bool) (s : State) : State :=
  let c := s.sd.get ch
  match c.active with
  | none => s
  | some ho =>
    if ho.role = .primary then
      let ls := newLevels ho c f
      let s1 := handToTracker ch ho.batch tag ls
        (s.setChannel ch { c with crossings := recordLevels ls tag c.crossings })
      if mixed then handToPlanner ch ho.batch tag false ls s1 else s1
    else s

/-- R72: a crossing of the interface record that this channel recorded is discarded. -/
def dropCrossing (mine held : Option Nat) : Option Nat := if mine = held then none else held

/-- Whether a hand-off is a crossing of this channel and batch on its way to the Line Tracker. -/
def crossingOf (ch : Channel) (id : Nat) (i : Instr) : Bool :=
  match i with
  | .crossingToLineTracker c b _ _ => c == ch && b == id
  | _ => false

/-- R72, R101: every crossing this channel recorded for the interface is discarded from the interface record, while the
channel is the interface's primary, and one still on its way is not taken. -/
def discardCrossings (ch : Channel) (s : State) : State :=
  let c := s.sd.get ch
  match c.active with
  | none => s
  | some ho =>
    let s1 := s.setTrain (modInterface ho.batch (fun i =>
      if (i.snapshot.bind (·.primary)) = some ch then { i with
        crossings := ⟨dropCrossing c.crossings.h i.crossings.h, dropCrossing c.crossings.mid i.crossings.mid,
          dropCrossing c.crossings.t i.crossings.t⟩ }
      else i) s.lt.train)
    { (s1.setChannel ch { c with crossings := .all none }) with
      handed := s1.handed.filter (fun i => !crossingOf ch ho.batch i) }

/-! ### Volumetric supply mid-zone (R76) -/

/-- R76: the anchored position of an interface; where its anchor is handed and not yet taken, the position that anchor will
give, by the model's choice [65]. -/
def anchoredAt (s : State) (id : Nat) : Option Nat :=
  match interfaceOf id s.lt.train with
  | none => none
  | some i =>
    if i.track = .anchored then some i.pos
    else
      s.handed.findSome? (fun x =>
        match x with
        | .anchorHanded b v src =>
          if b = id then (aheadOf id s.lt.train).map (fun a => anchoredPosition s.tables src v a.reference) else none
        | _ => none)

/-- R76: the levels of an interface neither recorded nor supplied. -/
def openLevels (own : Levels (Option Nat)) (i : Interface) : List Level :=
  allLevels.filter (fun l => (own.get l).isNone && (i.crossings.get l).isNone && !i.supplied.get l)

/-- Levels are marked supplied (R76). -/
def markSupplied (ls : List Level) (x : Levels Bool) : Levels Bool := ls.foldl (fun x l => x.set l true) x

/-- R76: the volumetric points of some levels of an interface. -/
def pointsOf (tb : Tables) (pos : Nat) (sn : Snapshot) (ls : List Level) : List CutPoint :=
  (volumetricPoints tb pos sn.mix).filter (fun p => ls.contains p.level)

/-- R76: the open levels of an interface are marked supplied, and their points given to `give`, which hands or schedules
them. -/
def supplyWith (give : List CutPoint → State → State) (id pos : Nat) (own : Levels (Option Nat)) (s : State) : State :=
  match interfaceOf id s.lt.train with
  | none => s
  | some i =>
    match i.snapshot with
    | none => s
    | some sn =>
      let ls := openLevels own i
      if ls.isEmpty then s
      else
        give (pointsOf s.tables pos sn ls)
          (s.setTrain (modInterface id (fun i => { i with supplied := markSupplied ls i.supplied }) s.lt.train))

/-- R76: the points of the open levels of an anchored interface are handed to the Cut Planner and marked supplied. -/
def supplyPoints (id pos : Nat) (own : Levels (Option Nat)) (s : State) : State :=
  supplyWith (fun ps s => s.hand (.volumetricPointsToCutPlanner id ps .routeController)) id pos own s

/-- R89, R101: the primary channel of an interface, as its snapshot records it. -/
def primaryOf (s : State) (id : Nat) : Option Channel :=
  ((interfaceOf id s.lt.train).bind (·.snapshot)).bind (·.primary)

/-- R76: an ANCHORED PRIMARY interface loses its channel in MIXED or SETTLING. -/
def supplyMidzone (ch : Channel) (s : State) : State :=
  let c := s.sd.get ch
  match c.active with
  | none => s
  | some ho =>
    if ho.role = .primary ∧ (c.mode = .mixed ∨ c.mode = .settling) ∧ primaryOf s ho.batch = some ch then
      match anchoredAt s ho.batch with
      | some pos => supplyPoints ho.batch pos c.crossings s
      | none => s
    else s

/-! ### Departures (R72) -/

/-- R72: the anchor source of a channel. -/
def sourceOf : Channel → AnchorSource
  | .advance => .advance
  | .manifold => .manifold

/-- R72: a departure is confirmed, and the channel goes to MIXED. The event that confirms it is not taken again there, by
the model's choice [64]. -/
def confirmDeparture (ch : Channel) (s : State) : State :=
  let c := s.sd.get ch
  let s1 := s.setChannel ch { c with mode := .mixed, expiryMark := false }
  match c.active, c.depStart with
  | some ho, some d =>
    match ho.role with
    | .primary =>
      allLevels.foldl (fun s l =>
        match c.crossings.get l with
        | some x => s.hand (.crossingToCutPlanner ch ho.batch l x false .routeController)
        | none => s) (s1.hand (.anchorHanded ho.batch d (sourceOf ch)))
    | .confirming => s1.hand (.confirmDepartureHanded ho.batch d)
  | _, _ => s1

/-- R72: whether an event at this S finds the departure hold volume passed. -/
def holdPassed (s : State) (c : ChannelState) (now : Nat) : Bool :=
  match c.depStart with
  | some d => decide (d + s.tables.params.holdVolume ≤ now)
  | none => false

/-- R72: a departure ends as false. -/
def falseDeparture (ch : Channel) (tag : Nat) (s : State) : State :=
  let c := s.sd.get ch
  match c.active with
  | none => s
  | some ho =>
    let s1 := (discardCrossings ch s).post .falseDeparture ho.batch ((tag : Int) - (c.depStart.getD tag : Nat))
    if c.expiryMark then (toClean ch (s1.sd.get ch) s1).hand (.missReturned ch ho.batch)
    else modChannel ch (fun c => { c with mode := .watch, depStart := none }) s1

/-! ### Long mixed zones and settling (R74, R75) -/

/-- The interface whose mixed zone the channel follows, active or given up. -/
def followed (c : ChannelState) : Option HandOff :=
  match c.active with
  | some ho => some ho
  | none => c.ghost

/-- R75: S exceeds the long-mix limit. -/
def longMix (c : ChannelState) (now : Nat) : Bool :=
  match followed c, c.depStart with
  | some ho, some d => decide (d + ho.maxMix < now)
  | _, _ => false

/-- R75: the channel goes to ACQUIRE with the body unknown; a waiting interface is kept. -/
def toAcquire (c : ChannelState) : ChannelState := { unfollow .acquire c with body := [], acquire := [] }

/-- R75: the levels a long mixed zone forces: those of an active PRIMARY interface without a crossing. -/
def forcedLevels (c : ChannelState) : List Level :=
  match c.active with
  | some ho => if ho.role = .primary then allLevels.filter (fun l => (c.crossings.get l).isNone) else []
  | none => []

/-- R75: the mixed zone is declared long. `now`, the S of the event that declares it (a reading's own tag), is the current S
of its forced crossings, by the model's choice [66]. -/
def declareLong (ch : Channel) (now : Nat) (s : State) : State :=
  let c := s.sd.get ch
  let id := ((followed c).map (·.batch)).getD 0
  let ls := forcedLevels c
  let s1 := handToPlanner ch id now true ls (handToTracker ch id now ls s)
  (s1.setChannel ch (toAcquire c)).post .longMix id ls.length

/-- R74: the settle volume has passed. -/
def settlePassed (s : State) (c : ChannelState) (now : Nat) : Bool :=
  match c.settleStart with
  | some d => decide (d + s.tables.params.settleVolume ≤ now)
  | none => false

/-- R74, step 2: the readings of the settle buffer within the body band of its last GOOD reading. -/
def settledBody (band : Nat) (buf : List Int) : List Int :=
  match buf.getLast? with
  | none => []
  | some x => buf.filter (fun v => within band v x)

/-- R74: the channel settles on the product behind. -/
def settle (ch : Channel) (s : State) : State :=
  let c := s.sd.get ch
  toClean ch { c with body := settledBody s.tables.params.bodyBand c.settleBuf } s

/-! ### Excursions (R69, R77, R78) -/

/-- R69: the excursion measure is complete at this S. -/
def measureComplete (s : State) (c : ChannelState) (now : Nat) : Bool :=
  match c.measure with
  | some m => decide (m.start + s.tables.params.holdVolume ≤ now)
  | none => false

/-- The excursion record of a channel is open. -/
def recordOpen (c : ChannelState) : Bool := (c.excursion.map (·.isOpen)).getD false

/-- R77: the channel enters EXCURSION. -/
def enterExcursion (ch : Channel) (s : State) : State :=
  let c := s.sd.get ch
  match c.measure with
  | none => s
  | some m =>
    if recordOpen c then s
    else
      let dev := m.first - (bodyMean c).getD 0
      let s1 := s.setChannel ch { c with
        mode := .excursion, measure := none, inBand := none, excursion := some ⟨m.start, dev, none, .none, true⟩ }
      (s1.post .bodyExcursion (channelNumber ch) dev).hand (.excursionStartHanded ch m.start .routeController)

/-- R78: the in-band run has lasted the settle volume. -/
def runComplete (s : State) (c : ChannelState) (now : Nat) : Bool :=
  match c.inBand with
  | some d => decide (d + s.tables.params.settleVolume ≤ now)
  | none => false

/-- R78: the excursion has ended. `now`, the S of the event that ends it (a reading's own tag), is the record's end S, by the
model's choice [66]. -/
def endExcursion (ch : Channel) (now : Nat) (s : State) : State :=
  let c := s.sd.get ch
  match c.excursion with
  | none => s
  | some x =>
    let c1 := { c with excursion := some { x with endS := some now, isOpen := false }, inBand := none }
    let s1 := (s.post .excursionEnded (channelNumber ch) ((now : Int) - x.start)).hand
      (.excursionEndHanded ch now x.decision .routeController)
    toClean ch c1 s1

/-! ### Readings (R63, R66 to R74, R78) -/

/-- R67: the acquire run holds four readings in band of their mean. -/
def runAcquired (band : Nat) (run : List Int) : Bool :=
  match meanOf run with
  | some m => run.length == Config.acquireCount && run.all (fun v => within band v m)
  | none => false

/-- R67: a reading in ACQUIRE. -/
def readAcquire (ch : Channel) (value : Int) (q : ReadingQuality) (s : State) : State :=
  let c := s.sd.get ch
  match q with
  | .suspect => s.setChannel ch { c with acquire := [] }
  | .good =>
    let run := keepLast Config.acquireCount (c.acquire ++ [value])
    if runAcquired s.tables.params.bodyBand run then toClean ch { c with body := run, acquire := [] } s
    else s.setChannel ch { c with acquire := run }

/-- R66, R69: a reading in CLEAN. -/
def readClean (ch : Channel) (value : Int) (q : ReadingQuality) (tag : Nat) (s : State) : State :=
  let c := s.sd.get ch
  let grown := if q = .good then { c with body := keepLast Config.bodyCap (c.body ++ [value]) } else c
  match inBodyBand s c value with
  | none => s.setChannel ch grown
  | some true => s.setChannel ch { grown with measure := none }
  | some false =>
    let s1 := s.setChannel ch { c with measure := some (c.measure.getD ⟨tag, value⟩) }
    if measureComplete s1 (s1.sd.get ch) tag then enterExcursion ch s1 else s1

/-- R71: a reading in WATCH. -/
def readWatch (ch : Channel) (ho : HandOff) (f tag : Nat) (s : State) : State :=
  if ho.fd ≤ f then
    examineLevels ch f tag false (modChannel ch (fun c => { c with mode := .departing, depStart := some tag }) s)
  else s

/-- R71: a reading in LOCKED. -/
def readLocked (ch : Channel) (ho : HandOff) (f : Nat) (s : State) : State :=
  if f + s.tables.params.hysteresis < ho.fd then
    (modChannel ch (fun c => { c with mode := .watch }) s).post .detectorCleared ho.batch (fractionDetail ch f)
  else s

/-- R72: a reading in DEPARTING: false first, then the levels, then the hold volume [17]. -/
def readDeparting (ch : Channel) (ho : HandOff) (f tag : Nat) (s : State) : State :=
  if f + s.tables.params.hysteresis < ho.fd then falseDeparture ch tag s
  else
    let s1 := examineLevels ch f tag false s
    if holdPassed s1 (s1.sd.get ch) tag then confirmDeparture ch s1 else s1

/-- R73 to R75: a reading in MIXED: the long-mix limit first [16]. -/
def readMixed (ch : Channel) (ho : HandOff) (value : Int) (q : ReadingQuality) (f tag : Nat) (s : State) : State :=
  if longMix (s.sd.get ch) tag then declareLong ch tag s
  else
    let s1 := examineLevels ch f tag true s
    if ho.fa ≤ f then
      modChannel ch (fun c => { c with
        mode := .settling, settleStart := some tag, settleBuf := if q = .good then [value] else [] }) s1
    else s1

/-- R74, R75: a reading in SETTLING: the long-mix limit first [16], then the return to MIXED, then the settle volume. -/
def readSettling (ch : Channel) (ho : HandOff) (value : Int) (q : ReadingQuality) (f tag : Nat) (s : State) : State :=
  if longMix (s.sd.get ch) tag then declareLong ch tag s
  else if f + s.tables.params.hysteresis < ho.fa then
    modChannel ch (fun c => { c with mode := .mixed, settleStart := none, settleBuf := [] }) s
  else
    let s1 := modChannel ch (fun c => { c with
      settleBuf := if q = .good then keepLast Config.bodyCap (c.settleBuf ++ [value]) else c.settleBuf }) s
    if settlePassed s1 (s1.sd.get ch) tag then settle ch s1 else s1

/-- R78: a reading in EXCURSION. -/
def readExcursion (ch : Channel) (value : Int) (tag : Nat) (s : State) : State :=
  let c := s.sd.get ch
  let run := if (inBodyBand s c value).getD false then some (c.inBand.getD tag) else none
  let s1 := s.setChannel ch { c with inBand := run }
  if runComplete s1 (s1.sd.get ch) tag then endExcursion ch tag s1 else s1

/-- R68: a reading in OFF: a GOOD one moves the channel to ACQUIRE. -/
def readOff (ch : Channel) (value : Int) (q : ReadingQuality) (s : State) : State :=
  match q with
  | .suspect => s
  | .good =>
    (modChannel ch (fun c => { c with mode := .acquire, acquire := [value] }) s).hand (.channelLeftOffReport ch)

/-- A reading of a channel with an interface followed, by its fraction. -/
def readFollowing (ch : Channel) (value : Int) (q : ReadingQuality) (tag : Nat) (s : State) : State :=
  let c := s.sd.get ch
  match followed c, c.pair with
  | some ho, some p =>
    let f := mixFraction p value
    match c.mode with
    | .watch => readWatch ch ho f tag s
    | .locked => readLocked ch ho f s
    | .departing => readDeparting ch ho f tag s
    | .mixed => readMixed ch ho value q f tag s
    | .settling => readSettling ch ho value q f tag s
    | _ => s
  | _, _ => s

/-- The S of an event a channel takes is noted (R63). -/
def noteS (ch : Channel) (now : Nat) (s : State) : State := modChannel ch (fun c => { c with lastS := max c.lastS now }) s

/-- R63: a channel takes a reading in the state it finds, and once: what a transition it brings leads to waits for the next
event, by the model's choice [64]. -/
def takeReading (ch : Channel) (value : Int) (q : ReadingQuality) (tag : Nat) (s : State) : State :=
  let s1 := modChannel ch (fun c => { c with current := some ⟨value, q, tag⟩ }) (noteS ch tag s)
  match (s1.sd.get ch).mode with
  | .off => readOff ch value q s1
  | .acquire => readAcquire ch value q s1
  | .clean => readClean ch value q tag s1
  | .excursion => readExcursion ch value tag s1
  | _ => readFollowing ch value q tag s1

/-- R96: whether the MANIFOLD channel holds a PRIMARY interface. -/
def holdsPrimary (s : State) : Bool :=
  (s.sd.manifold.active.map (·.role)) == some .primary || (s.sd.manifold.waiting.map (·.role)) == some .primary

/-- R96: the Signature Detector reports that the MANIFOLD channel has ceased to hold a PRIMARY interface. -/
def reportCeased (held : Bool) (s : State) : State :=
  if held && !holdsPrimary s then s.hand .manifoldPrimaryCeased else s

/-- A channel event, with the report of R96 at its end. -/
def channelEvent (k : State → State) (s : State) : State := reportCeased (holdsPrimary s) (k s)

/-- CHANNEL_READING (R63). -/
def execChannelReading (ch : Channel) (value : Int) (q : ReadingQuality) (tag : Nat) (s : State) : Result :=
  event (.channelReading ch value q tag) (channelEvent (takeReading ch value q tag)) s

/-! ### S advances (R63) -/

/-- R69, R72, R74, R75, R78: the volume tests of a channel at an S advance, each in the state the advance finds [64]. Beside
the readings no other event tests a volume, by the model's choice [63]. -/
def channelAdvance (ch : Channel) (newS : Nat) (s : State) : State :=
  let s1 := noteS ch newS s
  let c := s1.sd.get ch
  match c.mode with
  | .clean => if measureComplete s1 c newS then enterExcursion ch s1 else s1
  | .departing => if holdPassed s1 c newS then confirmDeparture ch s1 else s1
  | .mixed => if longMix c newS then declareLong ch newS s1 else s1
  | .settling =>
    if longMix c newS then declareLong ch newS s1
    else if settlePassed s1 c newS then settle ch s1
    else s1
  | .excursion => if runComplete s1 c newS then endExcursion ch newS s1 else s1
  | .off => s1
  | .acquire => s1
  | .watch => s1
  | .locked => s1

/-- CHANNEL_S_ADVANCE (R63). -/
def execChannelSAdvance (ch : Channel) (newS : Nat) (s : State) : Result :=
  event (.channelSAdvance ch newS) (channelEvent (channelAdvance ch newS)) s

/-! ### Slot changes (R68) -/

/-- R68: the open excursion record closes with its decision as it stands, its end the current S. -/
def closeRecord (c : ChannelState) : Option Excursion :=
  c.excursion.map (fun x => if x.isOpen then { x with isOpen := false, endS := some c.lastS } else x)

/-- R68: a channel in OFF: everything but its excursion record and S emptied. -/
def offState (c : ChannelState) : ChannelState :=
  { ChannelState.start .off c.lastS with excursion := closeRecord c }

/-- R79: an interface given up by going OFF is reported lost. -/
def reportLost (ch : Channel) (ho : Option HandOff) (s : State) : State :=
  match ho with
  | some ho => s.hand (.channelLostReport ch ho.batch)
  | none => s

/-- R68: the crossings of a departure not confirmed go with the interface given up [35]. -/
def dropDeparting (ch : Channel) (s : State) : State :=
  if channelMode s ch = .departing then discardCrossings ch s else s

/-- R68: a channel goes OFF; one already OFF stays as it stands, a SUSPECT current reading with it [50]. -/
def slotLost (ch : Channel) (s : State) : State :=
  let c := s.sd.get ch
  if c.mode = .off then s
  else
    let s1 := supplyMidzone ch (dropDeparting ch s)
    let s2 := if recordOpen c then orphanProtection ch s1 else s1
    reportLost ch c.waiting (reportLost ch c.active (s2.setChannel ch (offState c)))

/-- CHANNEL_SLOT_LOST (R68). -/
def execChannelSlotLost (ch : Channel) (s : State) : Result :=
  event (.channelSlotLost ch) (channelEvent (slotLost ch)) s

/-- R68: a handed recovery moves an OFF channel to ACQUIRE with an empty run. -/
def slotRecovered (ch : Channel) (s : State) : State :=
  if channelMode s ch = .off then
    (modChannel ch (fun c => { c with mode := .acquire, acquire := [] }) s).hand (.channelLeftOffReport ch)
  else s

/-- CHANNEL_SLOT_RECOVERED (R68). -/
def execChannelSlotRecovered (ch : Channel) (s : State) : Result :=
  event (.channelSlotRecovered ch) (channelEvent (slotRecovered ch)) s

/-! ### Window events (R70, R71, R72) -/

/-- R70, R97: an interface that gives way to a PRIMARY one: a CONFIRMING one ends its confirmation. -/
def giveUp (ho : Option HandOff) (s : State) : State :=
  match ho with
  | some ho => if ho.role = .confirming then confirmGivenUp ho.batch s else s
  | none => s

/-- R70: a channel that cannot follow an interface yet holds it as waiting, PRIMARY over CONFIRMING; an earlier one of the
same role gives way without a report [51]. A PRIMARY hand-off that an ACCEPT overtook waits like any other [52]. -/
def holdWaiting (ch : Channel) (ho : HandOff) (s : State) : State :=
  let c := s.sd.get ch
  if ho.role = .confirming ∧ holdsPrimary s then confirmGivenUp ho.batch s
  else
    let s1 := s.setChannel ch { c with waiting := some ho }
    if ho.role = .primary then giveUp c.waiting s1 else s1

/-- R70: in MIXED or SETTLING a CONFIRMING interface already judged is given up for a PRIMARY one; its mixed zone is
still followed. -/
def giveUpJudged (ch : Channel) (ho : HandOff) (s : State) : State :=
  modChannel ch (fun c =>
    if ho.role = .primary ∧ (c.active.map (·.role)) = some .confirming then { c with active := none, ghost := c.active }
    else c) s

/-- R70: an interface handed to a channel that follows one; an earlier one of the same role gives way without a report
[51]. -/
def replaceActive (ch : Channel) (ho : HandOff) (s : State) : State :=
  let c := s.sd.get ch
  if ho.role = .confirming ∧ holdsPrimary s then confirmGivenUp ho.batch s
  else
    let s1 := modChannel ch (fun c => { unfollow .clean c with waiting := some ho }) (dropDeparting ch s)
    takeInterface ch ho (if ho.role = .primary then giveUp c.active s1 else s1)

/-- R70: an interface is handed to a channel. -/
def takeHandOff (ch : Channel) (ho : HandOff) (s : State) : State :=
  match channelMode s ch with
  | .clean => takeInterface ch ho s
  | .acquire => holdWaiting ch ho s
  | .mixed => holdWaiting ch ho (giveUpJudged ch ho s)
  | .settling => holdWaiting ch ho (giveUpJudged ch ho s)
  | .excursion => holdWaiting ch ho s
  | .watch => replaceActive ch ho s
  | .locked => replaceActive ch ho s
  | .departing => replaceActive ch ho s
  | .off => s.hand (.channelLostReport ch ho.batch)

/-- A PRIMARY hand-off to the MANIFOLD channel counts as held from its handing on (R96) [36]. -/
def heldBefore (ch : Channel) (ho : HandOff) (s : State) : Bool :=
  holdsPrimary s || (ch == .manifold && ho.role == .primary)

/-- CHANNEL_INTERFACE_HANDED (R70). -/
def execChannelInterfaceHanded (ch : Channel) (ho : HandOff) (s : State) : Result :=
  event (.channelInterfaceHanded ch ho) (fun s => reportCeased (heldBefore ch ho s) (takeHandOff ch ho s)) s

/-- The held interface of a batch is the waiting one. -/
def isWaiting (c : ChannelState) (id : Nat) : Bool := (c.waiting.map (·.batch)) == some id

/-- The held interface of a batch is the one followed. -/
def isActive (c : ChannelState) (id : Nat) : Bool := (c.active.map (·.batch)) == some id

/-- R71, R72: the expiry of the held interface's window. -/
def windowExpired (ch : Channel) (id : Nat) (s : State) : State :=
  let c := s.sd.get ch
  if isWaiting c id then (s.setChannel ch { c with waiting := none }).hand (.missReturned ch id)
  else if isActive c id then
    match c.mode with
    | .watch => (toClean ch c s).hand (.missReturned ch id)
    | .locked => (toClean ch c s).hand (.missReturned ch id)
    | .departing => s.setChannel ch { c with expiryMark := true }
    | _ => s
  else s

/-- CHANNEL_WINDOW_EXPIRY (R71, R72). -/
def execChannelWindowExpiry (ch : Channel) (batch : Nat) (s : State) : Result :=
  event (.channelWindowExpiry ch batch) (channelEvent (windowExpired ch batch)) s

/-- R101: a release past DEPARTING: the channel's crossings for the interface are discarded, and it follows the mixed zone
to CLEAN without it. -/
def leaveZone (ch : Channel) (s : State) : State :=
  modChannel ch (fun c => { c with active := none, ghost := c.active }) (discardCrossings ch s)

/-- R71, R72, R101: a release. -/
def released (ch : Channel) (id : Nat) (s : State) : State :=
  let c := s.sd.get ch
  if isWaiting c id then s.setChannel ch { c with waiting := none }
  else if isActive c id then
    match c.mode with
    | .watch => toClean ch c s
    | .locked => toClean ch c s
    | .departing => toClean ch ((discardCrossings ch s).sd.get ch) (discardCrossings ch s)
    | .mixed => leaveZone ch s
    | .settling => leaveZone ch s
    | _ => s
  else s

/-- CHANNEL_RELEASE (R71, R72). -/
def execChannelRelease (ch : Channel) (batch : Nat) (s : State) : Result :=
  event (.channelRelease ch batch) (channelEvent (released ch batch)) s

/-! ### The host's decision (R79) -/

/-- R79: REJECT sets the decision of the open record. -/
def rejectExcursion (ch : Channel) (s : State) : State :=
  modChannel ch (fun c => { c with excursion := c.excursion.map (fun x => { x with decision := .reject }) }) s

/-- R79: a host ACCEPT: the record closes and the channel takes the anchored interface as PRIMARY, in MIXED or, with too
little contrast, in ACQUIRE with the interface cut on volumetric points (R76). That the channel then reports no low
contrast, as R64 has it do for an interface of a window, is the model's choice [69]. -/
def acceptExcursion (ch : Channel) (ho : HandOff) (s : State) : State :=
  let c := s.sd.get ch
  let start := (c.excursion.map (·.start)).getD 0
  let closed := c.excursion.map (fun x => { x with decision := .accept, isOpen := false, endS := some c.lastS })
  let p := referencePair s c ho.batch
  let c1 := { unfollow .mixed c with excursion := closed, waiting := none, inBand := none, measure := none }
  if pairContrast p < s.tables.params.minContrast then
    let s1 := giveUp c.waiting (s.setChannel ch (toAcquire c1))
    match anchoredAt s1 ho.batch with
    | some pos => supplyPoints ho.batch pos (.all none) s1
    | none => s1
  else giveUp c.waiting (s.setChannel ch { c1 with active := some ho, pair := some p, depStart := some start })

end Sys2Proof.Machine
end

