-- ==== Sys2Proof/Machine/Log.lean ====
section
/-! DEFINITION. Log.lean: the Event Log (chapter 10). -/

namespace Sys2Proof.Machine

/-- R168: a detail outside the signed 32-bit range is limited to the nearer end. -/
def limitDetail (d : Int) : Int := clampInt (-2147483648) 2147483647 d

/-- R169, R170: store a posted event, or discard it while 256 records are unread. -/
def storeEvent (k : EventKind) (subject : Nat) (detail : Int) (s : State) : State :=
  if s.el.records.length < Config.maxEvents then
    judgeAttn { s with el := { s.el with
      seq := wrapInc32 s.el.seq
      records := s.el.records ++
        [⟨wrapInc32 s.el.seq, s.clock.seconds, s.clock.milli, s.stationS, k, subject, limitDetail detail⟩] } }
  else { s with el := { s.el with lost := satInc Config.count16Max s.el.lost, overflow := true } }

/-- EVENT_POSTED (R169, R170). The events of a start are stored while the start is under way (R174). -/
def execEventPosted (k : EventKind) (subject : Nat) (detail : Int) (s : State) : Result :=
  .next (if s.powered then storeEvent k subject detail (s.take (.eventPosted k subject detail))
    else s.take (.eventPosted k subject detail))

/-- R184: an event record of 28 bytes. -/
def encRecord (r : EventRecord) : List Byte :=
  encUnsigned 4 r.seq ++ encUnsigned 4 r.seconds ++ encUnsigned 2 r.milli ++ encUnsigned 8 r.s
  ++ enc1 (eventCode r.kind) ++ enc1 (eventClass r.kind) ++ encUnsigned 4 r.subject ++ encSigned 4 r.detail

/-- R171: the log after up to `max` of the oldest records have been taken. -/
def takeRecords (max : Nat) (s : State) : State :=
  judgeAttn { s with el := { s.el with records := s.el.records.drop max, lost := 0, overflow := false } }

/-- READ_EVENTS (R171). -/
def execReadEvents (max : Nat) (s : State) : Result :=
  request (fun s =>
    if max < 1 ∨ 8 < max then s.refuse 0x07 .badValue 0
    else
      (takeRecords max s).accept 0x07
        (enc1 (s.el.records.take max).length ++ encUnsigned 2 (s.el.records.drop max).length
          ++ encUnsigned 2 s.el.lost ++ encBool s.el.overflow ++ (s.el.records.take max).flatMap encRecord)) s

end Sys2Proof.Machine
end

