-- ==== Sys2Proof/Machine/Notices.lean ====
section
/-! DEFINITION. Notices.lean: the host's six train notices: BATCH LAUNCH, CLOSE, ADJUST, PLAN and WITHDRAW, and INTERFACE
DECIDE (R10 to R15, R100, R101, R110). -/

namespace Sys2Proof.Machine

/-- R11: a notice is refused WRONG_MODE in UNCONFIGURED before any other check. -/
def notice (cls : Nat) (k : State → State) (s : State) : Result :=
  request (fun s => if s.sm.mode = .unconfigured then s.refuse cls .wrongMode 0 else k s) s

/-- R12: the range of a launched volume. -/
def launchedInRange (l : Nat) : Bool := decide (1 ≤ l ∧ l ≤ 2000000000)

/-- R13, R14: the range of an expected volume. -/
def volumeInRange (v : Int) : Bool := decide (1 ≤ v ∧ v ≤ 4000000000)

/-! ### BATCH LAUNCH (R12) -/

/-- R3, R12: the batch ID is held by a train entry or a ticket. -/
def idHeld (s : State) (id : Nat) : Bool := s.lt.train.any (fun e => e.id == id) || s.ts.any (fun t => t.id == id)

/-- R10: the back entry of the train is open. -/
def tailOpen (t : List Entry) : Bool :=
  match t.getLast? with
  | some e => e.launched.isNone
  | none => false

/-- R12: the refusal of a launch, in the order of the table. -/
def launchRefusal (id product density launched : Nat) (s : State) : Option RefusalCode :=
  if id = 0 ∨ product < 1 ∨ Config.maxProduct < product ∨ density < 5000 ∨ 11000 < density
    ∨ (launched ≠ 0 ∧ launchedInRange launched = false) then some .badValue
  else
    match productOf s.tables product with
    | none => some .unknownProduct
    | some p =>
      if density < p.dmin ∨ p.dmax < density then some .badValue
      else if idHeld s id then some .duplicateId
      else if tailOpen s.lt.train then some .tailOpen
      else if Config.maxTrain ≤ s.lt.train.length then some .trainFull
      else none

/-- R3: a new entry without leading interface. -/
def newEntry (id product density launched : Nat) : Entry where
  id := id
  product := product
  density := density
  launched := if launched = 0 then none else some launched
  adjust := 0
  complete := false
  disposition := none
  inherited := false
  base := none
  leading := none
  delivery := .empty
  enterTrigger := none
  firstTrigger := none
  firstLeft := false
  measured := false
  protectStands := false
  stripMark := false

/-- R4: a new leading interface record at a derived position. -/
def newInterface (pos : Nat) : Interface where
  pos := pos
  track := .far
  method := none
  residual := none
  standstills := 0
  snapshot := none
  crossings := .all none
  supplied := .all false
  mfStart := none
  mfResult := none

/-- R8: an inherited entry, joined at an S. -/
def inheritedEntry (id product density launched base : Nat) : Entry :=
  { newEntry id product density launched with
    inherited := true
    base := some base
    delivery := { Delivery.empty with startS := some base, flags := { TicketFlags.none with inherited := true } } }

/-- R12: the entry a launch adds behind a back entry, or to an empty train. -/
def launchedEntry (id product density launched : Nat) (s : State) : Entry :=
  match s.lt.train.getLast? with
  | none => inheritedEntry id product density launched s.lt.curS
  | some b =>
    { newEntry id product density launched with leading := some (newInterface (b.reference + b.volume.getD 0)) }

/-- R8, R12, R111: the effect of an accepted launch. -/
def launch (e : Entry) (s : State) : State :=
  let s1 := (s.setTrain (s.lt.train ++ [e])).post .batchAdded e.id (if e.inherited then 1 else 0)
  if e.inherited then planBody e.id s1 else s1

/-- BATCH_LAUNCH (R11, R12). -/
def execBatchLaunch (id product density launched : Nat) (s : State) : Result :=
  notice 0x10 (fun s =>
    match launchRefusal id product density launched s with
    | some c => s.refuse 0x10 c 0
    | none =>
      let e := launchedEntry id product density launched s
      (launch e s).accept 0x10 (enc1 (s.lt.train.length + 1) ++ encUnsigned 8 e.reference)) s

/-! ### BATCH CLOSE and BATCH ADJUST (R13, R14) -/

/-- BATCH_CLOSE (R11, R13). -/
def execBatchClose (id launched : Nat) (s : State) : Result :=
  notice 0x11 (fun s =>
    match findEntry id s.lt.train with
    | none => s.refuse 0x11 .notFound 0
    | some e =>
      if e.launched.isSome then s.refuse 0x11 .notOpen 0
      else if launchedInRange launched = false ∨ volumeInRange ((launched : Int) + e.adjust) = false then
        s.refuse 0x11 .badValue 0
      else
        ((s.setTrain (rederive (modEntry id (fun e => { e with launched := some launched }) s.lt.train))).post
          .batchClosed id launched).accept 0x11 []) s

/-- The leading interface of an entry is present and not FAR. -/
def leadingHeld (e : Entry) : Bool :=
  match e.leading with
  | some i => i.track != .far
  | none => false

/-- The trailing interface of an entry is present and not FAR. -/
def trailingHeld (id : Nat) (t : List Entry) : Bool :=
  match behindOf id t with
  | some b => leadingHeld b
  | none => false

/-- R14, order 4: the new length of an adjusted entry is in range. -/
def adjustInRange (e : Entry) (change : Int) : Bool :=
  match e.launched with
  | some l => volumeInRange ((l : Int) + (e.adjust + change))
  | none => decide (-2000000000 ≤ e.adjust + change ∧ e.adjust + change ≤ 2000000000)

/-- BATCH_ADJUST (R11, R14). -/
def execBatchAdjust (id : Nat) (change : Int) (s : State) : Result :=
  notice 0x12 (fun s =>
    if change = 0 ∨ change < -1000000000 ∨ 1000000000 < change then s.refuse 0x12 .badValue 0
    else
      match findEntry id s.lt.train with
      | none => s.refuse 0x12 .notFound 0
      | some e =>
        if leadingHeld e || trailingHeld id s.lt.train then s.refuse 0x12 .frozen 0
        else if adjustInRange e change = false then s.refuse 0x12 .badValue 0
        else
          ((s.setTrain (rederive (modEntry id (fun e => { e with adjust := e.adjust + change }) s.lt.train))).post
            .batchAdjusted id change).accept 0x12 []) s

/-! ### BATCH PLAN (R110) -/

/-- R110: the disposition a BATCH PLAN carries; none where order 1 refuses it. An unused field is not examined (R178). -/
def requestedDisposition (kind route volume : Nat) : Option Disposition :=
  match kind with
  | 1 => some .pass
  | 2 => (routeOfNumber route).map .take
  | 3 => if 1 ≤ volume ∧ volume ≤ 50000000 then (routeOfNumber route).map (fun r => .strip r volume) else none
  | _ => none

/-- R110, order 3: the entry may no longer be planned. -/
def planFrozen (e : Entry) (t : List Entry) : Bool :=
  e.complete || leadingHeld e || (e.inherited && trailingHeld e.id t)

/-- R110, orders 4 and 5: a route named by TAKE or STRIP. -/
def planRoute (tb : Tables) (product : Nat) (r : RouteNo) : Option RefusalCode :=
  match productRoute tb r with
  | none => some .badValue
  | some c => if c = product then none else some .productMismatch

/-- R110, orders 4 and 5. -/
def planRefusal (tb : Tables) (product : Nat) : Disposition → Option RefusalCode
  | .pass => if (throughRoute tb).isSome then none else some .badValue
  | .take r => planRoute tb product r
  | .strip r _ => if (throughRoute tb).isSome then planRoute tb product r else some .badValue
  | .transmixAll => none

/-- R179: a disposition as a reply item. -/
def encDisposition : Option Disposition → List Byte
  | none => enc1 0 ++ enc1 0 ++ encUnsigned 4 0
  | some .pass => enc1 1 ++ enc1 0 ++ encUnsigned 4 0
  | some (.take r) => enc1 2 ++ enc1 (routeNumber r) ++ encUnsigned 4 0
  | some (.strip r v) => enc1 3 ++ enc1 (routeNumber r) ++ encUnsigned 4 v
  | some .transmixAll => enc1 4 ++ enc1 0 ++ encUnsigned 4 0

/-- R110: the effect of an accepted plan. -/
def planBatch (e : Entry) (d : Disposition) (s : State) : State :=
  let s1 := s.setTrain (modEntry e.id (fun e => { e with disposition := some d, stripMark := false }) s.lt.train)
  if e.inherited && (manifoldId s.lt.train == e.id) && planIsBodyOf e.id s then planBody e.id s1 else s1

/-- BATCH_PLAN (R11, R110). -/
def execBatchPlan (id kind route volume : Nat) (s : State) : Result :=
  notice 0x13 (fun s =>
    match requestedDisposition kind route volume with
    | none => s.refuse 0x13 .badValue 0
    | some d =>
      match findEntry id s.lt.train with
      | none => s.refuse 0x13 .notFound 0
      | some e =>
        if planFrozen e s.lt.train then s.refuse 0x13 .frozen 0
        else
          match planRefusal s.tables e.product d with
          | some c => s.refuse 0x13 c 0
          | none => (planBatch e d s).accept 0x13 (encDisposition (some d))) s

/-! ### BATCH WITHDRAW (R15) -/

/-- R15: an entry that may be withdrawn: UPSTREAM with its leading interface FAR. -/
def withdrawable (t : List Entry) (e : Entry) : Bool := batchState t e == .upstream && !leadingHeld e

/-- BATCH_WITHDRAW (R11, R15). -/
def execBatchWithdraw (id : Nat) (s : State) : Result :=
  notice 0x14 (fun s =>
    match findEntry id s.lt.train with
    | none => s.refuse 0x14 .notFound 0
    | some e =>
      if withdrawable s.lt.train e then
        ((s.setTrain (rederive (s.lt.train.eraseP (fun x => x.id == id)))).post .batchWithdrawn id
          (indexOf id s.lt.train)).accept 0x14 []
      else s.refuse 0x14 .frozen 0) s

/-! ### INTERFACE DECIDE (R100, R101) -/

/-- R100, R101: the first interface in train order that is FAR or WINDOW, with its entry and the entry ahead. -/
def firstOpen : List Entry → Option (Entry × Entry × Interface)
  | [] => none
  | [_] => none
  | a :: e :: rest =>
    match e.leading with
    | some i => if anchorable i then some (a, e, i) else firstOpen (e :: rest)
    | none => firstOpen (e :: rest)

/-- R101, step 1: the anchor value of an excursion. -/
def acceptValue (s : State) (ch : Channel) (start : Nat) : Int :=
  match ch with
  | .advance => start
  | .manifold => (start : Int) - s.tables.params.leadVolume

/-- R101, step 2: the release of the window's channel, where it is the other one and holds the interface: it counts as
holding it while the window's hand status is HANDED, by the model's choice [67]. -/
def releaseOther (ch : Channel) (id : Nat) (s : State) : State :=
  match s.lt.window with
  | some w => if w.batch = id ∧ w.channel ≠ ch ∧ w.lost = false then s.hand (.channelRelease w.channel id) else s
  | none => s

/-- R101, step 2: the excursion's channel becomes the primary of an interface in WINDOW; the crossings that stand in its
record are those of the channel that was, and are discarded. -/
def movePrimary (ch : Channel) (i : Interface) : Interface :=
  { i with
    snapshot := i.snapshot.map (fun sn => { sn with primary := some ch })
    crossings := if (i.snapshot.bind (·.primary)) = some ch then i.crossings else .all none }

/-- R101, step 2: the snapshot of the interface, taken now where it is FAR. -/
def acceptSnapshot (ch : Channel) (ahead e : Entry) (i : Interface) (s : State) : State :=
  if i.track = .far then
    takeSnapshot ahead e (formSnapshot s ahead e i (some ch) (some (windowContrast s ch ahead e)) false) s
  else releaseOther ch e.id (s.setTrain (modInterface e.id (movePrimary ch) s.lt.train))

/-- R101, step 4: the channel takes the interface from its snapshot's hand-off values. -/
def acceptOnChannel (ch : Channel) (id : Nat) (s : State) : State :=
  match (interfaceOf id s.lt.train).bind (·.snapshot) with
  | some sn => acceptExcursion ch (handOffOf id .primary sn) s
  | none => s

/-- R101: an accepted ACCEPT, in one step. -/
def hostAccept (ch : Channel) (start : Nat) (ahead e : Entry) (i : Interface) (s : State) : State :=
  let s1 := acceptSnapshot ch ahead e i s
  let s2 := anchorInterface e.id (acceptValue s ch start) .host s1
  afterAnchor s1 (protectTakeover ch e.id (acceptOnChannel ch e.id s2))

/-- The position at which an interface stands. -/
def positionOf (id : Nat) (t : List Entry) : Nat := ((interfaceOf id t).map (·.pos)).getD 0

/-- R100: the decisions of INTERFACE DECIDE. -/
def decisionOf : Nat → Option Decision
  | 1 => some .accept
  | 2 => some .reject
  | _ => none

/-- INTERFACE_DECIDE (R11, R79, R100, R101). -/
def execInterfaceDecide (channel decision : Nat) (s : State) : Result :=
  notice 0x15 (fun s =>
    match channelOfNumber channel, decisionOf decision with
    | some ch, some d =>
      match (s.sd.get ch).excursion with
      | none => s.refuse 0x15 .notFound 0
      | some x =>
        if x.isOpen then
          if d = .accept then
            match firstOpen s.lt.train with
            | none => s.refuse 0x15 .notFound 0
            | some (ahead, e, i) =>
              (channelEvent (hostAccept ch x.start ahead e i) s).accept 0x15
                (encBatch (some e.id) ++ encUnsigned 8 (anchoredPosition s.tables .host (acceptValue s ch x.start)
                  ahead.reference))
          else (rejectExcursion ch s).accept 0x15 []
        else s.refuse 0x15 .notFound 0
    | _, _ => s.refuse 0x15 .badValue 0) s

end Sys2Proof.Machine
end

