-- ==== Sys2Proof/Machine/Meter.lean ====
section
/-! DEFINITION. Meter.lean: the Meter Unit: pulses, the period close, standard volume, S and the standstill detection
(chapter 2). -/

namespace Sys2Proof.Machine

/-- A meter of the Meter Unit. -/
def meterOf (mu : MeterUnit) : MeterId → Meter
  | .inlet => mu.inlet
  | .delivery => mu.delivery

/-- The Meter Unit with one meter replaced. -/
def setMeter (mu : MeterUnit) (m : MeterId) (x : Meter) : MeterUnit :=
  match m with
  | .inlet => { mu with inlet := x }
  | .delivery => { mu with delivery := x }

/-- R30: a pulse adds 1 to the pulse count of the open period. -/
def countPulse (m : MeterId) (s : State) : State :=
  let x := meterOf s.mu m
  { s with mu := setMeter s.mu m { x with pulses := satInc Config.u32Max x.pulses } }

/-- METER_PULSE (R30). -/
def execMeterPulse (m : MeterId) (s : State) : Result := event (.meterPulse m) (countPulse m) s

/-! ### One period of one meter (R31 to R36) -/

/-- The parameters of a meter (R29). -/
def pulseWeight (p : Params) : MeterId → Nat
  | .inlet => p.pulseWeightInlet
  | .delivery => p.pulseWeightDelivery

def pulseLimit (p : Params) : MeterId → Nat
  | .inlet => p.pulseLimitInlet
  | .delivery => p.pulseLimitDelivery

def fallback (p : Params) : MeterId → Int
  | .inlet => p.fallbackInlet
  | .delivery => p.fallbackDelivery

/-- R32: the role that gives a meter its temperature. -/
def temperatureRole : MeterId → SlotRole
  | .inlet => .tempInlet
  | .delivery => .tempDelivery

/-- R32: the last accepted value of a slot whose quality lets it be used. -/
def usableValue (x : SlotState) : Option Int :=
  match x.quality with
  | .good => x.last.map (·.value)
  | .suspect => x.last.map (·.value)
  | .held => x.last.map (·.value)
  | .failed => none
  | .noValue => none

/-- R32: the temperature an instrument gives a meter; none where the period is substituted. -/
def instrumentTemperature (s : State) (m : MeterId) : Option Int :=
  (slotOfRole s.tables (temperatureRole m)).bind (fun k => usableValue (s.ip.slots.get k))

/-- R32: the T of a period, limited to −4000..8000. -/
def periodTemperature (s : State) (m : MeterId) : Int :=
  clampInt (-4000) 8000 ((instrumentTemperature s m).getD (fallback s.tables.params m))

/-- R34: the thermal expansion coefficient of a period. -/
def periodAlpha (s : State) : Nat :=
  match (manifoldOf s.lt.train).bind (fun e => productOf s.tables e.product) with
  | some p => p.alpha
  | none => s.tables.params.defaultAlpha

/-- R35: the correction factor in ppm. -/
def correctionFactor (alpha : Nat) (t : Int) : Nat :=
  clampNat 900000 1100000 (1000000 - roundDiv ((alpha : Int) * (t - 1500)) 100)

/-- R31, R36: the record of a closed period, with the new residue. -/
def periodRecord (s : State) (m : MeterId) : PeriodRecord × Nat :=
  let x := meterOf s.mu m
  let limit := pulseLimit s.tables.params m
  let n := min x.pulses limit
  let t := periodTemperature s m
  let ctl := correctionFactor (periodAlpha s) t
  let gross := n * pulseWeight s.tables.params m
  let total := gross * ctl + x.residue
  (⟨n, gross, t, ctl, total / 1000000, (instrumentTemperature s m).isNone, decide (limit < x.pulses)⟩, total % 1000000)

/-- R40: the flow of a meter for a period. -/
def periodFlow (std : Nat) : Nat := std * 18 / 5

/-- R30, R37: a meter after its period has closed. -/
def closedMeter (s : State) (m : MeterId) : Meter :=
  let r := periodRecord s m
  let x := meterOf s.mu m
  { pulses := 0
    gross := add64 x.gross r.1.gross
    std := add64 x.std r.1.std
    residue := r.2
    last := r.1
    flow := periodFlow r.1.std
    subLatch := r.1.substituted
    overLatch := r.1.overrange }

/-- R31: METER_OVERRANGE, where the latch was clear. -/
def postOverrange (m : MeterId) (before : State) (s : State) : State :=
  if (periodRecord before m).1.overrange && !(meterOf before.mu m).overLatch then
    s.post .meterOverrange (meterNumber m) (min (meterOf before.mu m).pulses Config.i32Max)
  else s

/-- R33: TEMP_SUBSTITUTED where the latch was clear, and the ticket flag of the manifold batch at every substituted
period. -/
def postSubstituted (m : MeterId) (before : State) (s : State) : State :=
  if (periodRecord before m).1.substituted then
    let s1 := s.setTrain (markManifold (fun f => { f with tempSubstituted := true }) s.lt.train)
    if (meterOf before.mu m).subLatch then s1
    else s1.post .tempSubstituted (meterNumber m) (fallback before.tables.params m)
  else s

/-! ### Standstill (R41, R43) -/

/-- R41: a period close while FLOWING. -/
def flowingClose (q : Nat) (s : State) : State :=
  let run := if q < s.tables.params.standstillFlow then s.mu.lowRun + 1 else 0
  if q < s.tables.params.standstillFlow ∧ s.tables.params.standstillTime ≤ run then
    (({ s with mu := { s.mu with flowState := .standstill, lowRun := 0, resume := 0 } }).post .standstill 0 q).hand
      .standstillCountRaise
  else { s with mu := { s.mu with lowRun := run } }

/-- R43: a period close while STANDSTILL. -/
def standstillClose (std : Nat) (s : State) : State :=
  let count := s.mu.resume + std
  if s.tables.params.resumeVolume * 1000 ≤ count then
    ({ s with mu := { s.mu with flowState := .flowing, lowRun := 0, resume := 0 } }).post .flowing 0 (count / 1000 : Nat)
  else { s with mu := { s.mu with resume := count } }

/-- R41, R43: the flow state at a period close. -/
def flowClose (q std : Nat) (s : State) : State :=
  match s.mu.flowState with
  | .flowing => flowingClose q s
  | .standstill => standstillClose std s

/-- R39: the results of a period are handed out. -/
def handResults (newS inlet delivery : Nat) (s : State) : State :=
  ((((s.hand (.ltSAdvance newS)).hand (.cpSAdvance newS .routeController)).hand (.channelSAdvance .advance newS)).hand
    (.channelSAdvance .manifold newS)).hand (.periodIncrementBooking inlet delivery)

/-- R30 to R43: both meters are computed from the same close. -/
def closePeriod (s : State) : State :=
  let i := closedMeter s .inlet
  let d := closedMeter s .delivery
  let s1 := { s with mu := { s.mu with inlet := i, delivery := d } }
  let s2 := postSubstituted .inlet s (postOverrange .inlet s s1)
  let s3 := postSubstituted .delivery s (postOverrange .delivery s s2)
  handResults s3.stationS i.last.std d.last.std (flowClose i.flow i.last.std s3)

/-- METER_PERIOD_CLOSE (R30). -/
def execMeterPeriodClose (s : State) : Result := event .meterPeriodClose closePeriod s

/-- R44: one meter as READ METERS reports it. A mark or a latch reads 1 when set and 0 when clear, though R29 lists a
latch as set or clear and R179 codes listed values from 0 [13]. -/
def encMeter (m : Meter) : List Byte :=
  encUnsigned 8 m.gross ++ encUnsigned 8 m.std ++ encUnsigned 4 m.residue ++ encUnsigned 2 m.last.n
  ++ encUnsigned 8 m.last.gross ++ encSigned 2 m.last.temp ++ encUnsigned 4 m.last.ctl ++ encUnsigned 8 m.last.std
  ++ encBool m.last.substituted ++ encBool m.last.overrange ++ encUnsigned 4 m.flow ++ encBool m.subLatch
  ++ encBool m.overLatch

/-- R44: the code of the flow state. -/
def flowCode : FlowState → Nat
  | .flowing => 0
  | .standstill => 1

/-- R44: the low-flow run while FLOWING, the resume count in whole litres while STANDSTILL. -/
def runOrResume (mu : MeterUnit) : Nat :=
  match mu.flowState with
  | .flowing => mu.lowRun
  | .standstill => mu.resume / 1000

/-- READ_METERS (R44). -/
def execReadMeters (s : State) : Result :=
  request (fun s => s.accept 0x02
    (encUnsigned 8 s.stationS ++ enc1 (flowCode s.mu.flowState) ++ encUnsigned 4 (runOrResume s.mu)
      ++ encUnsigned 4 s.mu.inlet.flow ++ encMeter s.mu.inlet ++ encMeter s.mu.delivery)) s

end Sys2Proof.Machine
end

