-- ==== Sys2Proof/WellFormed.lean ====
section
/-! DEFINITION. WellFormed.lean: which commands can stand on the part's interfaces: every operand fits the field that
carries it (R178, R51, R175) or the range the state it comes from has. The meanings are total: they do not need it. -/

namespace Sys2Proof

/-- An unsigned field of the given number of bytes. -/
abbrev fits (bytes n : Nat) : Prop := n < 256 ^ bytes

/-- A signed field of four bytes. -/
abbrev fitsSigned (x : Int) : Prop := -2147483648 ≤ x ∧ x ≤ 2147483647

/-- A whole host frame: start byte, address, length, class, the payload the length gives, and two CRC bytes (R175). -/
def frameShape : List Byte → Bool
  | start :: _ :: len :: _ :: rest => start == 0xC3#8 && rest.length == len.toNat + 2
  | _ => false

/-- A whole instrument response of nine bytes after its start byte 0x5A (R51). -/
def responseShape : List Byte → Bool
  | [start, _, _, _, _, _, _, _, _] => start == 0x5A#8
  | _ => false

/-- R70, R89: the hand-off values a snapshot can give. -/
def HandOff.wf (ho : HandOff) : Bool :=
  decide (1 ≤ ho.batch ∧ ho.batch ≤ Config.u32Max ∧ ho.fd ≤ ho.h ∧ ho.h ≤ ho.t ∧ ho.t ≤ ho.fa ∧ ho.fa ≤ 995
    ∧ ho.maxMix ≤ 1000000)

/-- A command whose operands fit their fields. -/
def Instr.wf : Instr → Bool
  | .readStatus p => decide (fits 1 p)
  | .readTrain i => decide (fits 1 i)
  | .readBatch id => decide (fits 4 id)
  | .readEvents n => decide (fits 1 n)
  | .readTicket id => decide (fits 4 id)
  | .ackTicket id => decide (fits 4 id)
  | .batchLaunch id p d l => decide (fits 4 id ∧ fits 1 p ∧ fits 2 d ∧ fits 4 l)
  | .batchClose id l => decide (fits 4 id ∧ fits 4 l)
  | .batchAdjust id c => decide (fits 4 id ∧ fitsSigned c)
  | .batchPlan id k r v => decide (fits 4 id ∧ fits 1 k ∧ fits 1 r ∧ fits 4 v)
  | .batchWithdraw id => decide (fits 4 id)
  | .interfaceDecide c d => decide (fits 1 c ∧ fits 1 d)
  | .setMode c => decide (fits 1 c)
  | .valveCommand r c => decide (fits 1 r ∧ fits 1 c)
  | .clearLockout r => decide (fits 1 r)
  | .setTime n => decide (fits 4 n)
  | .setParameter n v => decide (fits 1 n ∧ fitsSigned v)
  | .setProduct c o name a r lo hi =>
    decide (fits 1 c ∧ fits 1 o ∧ name.length = 8 ∧ fits 2 a ∧ fits 1 r ∧ fits 2 lo ∧ fits 2 hi)
  | .setPair a b o r h t bm g mm =>
    decide (fits 1 a ∧ fits 1 b ∧ fits 1 o ∧ fits 1 r ∧ fits 2 h ∧ fits 2 t ∧ fits 4 bm ∧ fits 4 g ∧ fits 4 mm)
  | .setRoute r o k p tl nt fl =>
    decide (fits 1 r ∧ fits 1 o ∧ fits 1 k ∧ fits 1 p ∧ fits 2 tl ∧ fits 2 nt ∧ fits 1 fl)
  | .setSlot s r a e rg rt st rl ft rc =>
    decide (fits 1 s ∧ fits 1 r ∧ fits 1 a ∧ fits 1 e ∧ fits 1 rg ∧ fits 1 rt ∧ fits 1 st ∧ fits 4 rl ∧ fits 1 ft
      ∧ fits 1 rc)
  | .readConfiguration p i => decide (fits 1 p ∧ fits 1 i)
  | .hostFrame bs => !bs.isEmpty
  | .instrumentResponse bs => !bs.isEmpty
  | .ltSAdvance v => decide (fits 8 v)
  | .cpSAdvance v _ => decide (fits 8 v)
  | .periodIncrementBooking i d => decide (fits 8 i ∧ fits 8 d)
  | .channelReading _ v _ tag => decide (fitsSigned v ∧ fits 8 tag)
  | .channelSAdvance _ v => decide (fits 8 v)
  | .channelInterfaceHanded _ ho => ho.wf
  | .channelWindowExpiry _ b => decide (1 ≤ b ∧ b ≤ Config.u32Max)
  | .channelRelease _ b => decide (1 ≤ b ∧ b ≤ Config.u32Max)
  | .anchorHanded b v _ => decide (1 ≤ b ∧ b ≤ Config.u32Max ∧ fits 8 v)
  | .crossingToLineTracker _ b _ v => decide (1 ≤ b ∧ b ≤ Config.u32Max ∧ fits 8 v)
  | .crossingToCutPlanner _ b _ v _ _ => decide (1 ≤ b ∧ b ≤ Config.u32Max ∧ fits 8 v)
  | .volumetricPointsToCutPlanner b ps _ => decide (1 ≤ b ∧ b ≤ Config.u32Max ∧ ps.length ≤ 3)
  | .missReturned _ b => decide (1 ≤ b ∧ b ≤ Config.u32Max)
  | .channelLostReport _ b => decide (1 ≤ b ∧ b ≤ Config.u32Max)
  | .lowContrastReport _ b _ c => decide (1 ≤ b ∧ b ≤ Config.u32Max ∧ fits 2 c)
  | .confirmDepartureHanded b v => decide (1 ≤ b ∧ b ≤ Config.u32Max ∧ fits 8 v)
  | .earlyDisagreeAdvance b _ => decide (1 ≤ b ∧ b ≤ Config.u32Max)
  | .excursionStartHanded _ v _ => decide (fits 8 v)
  | .excursionEndHanded _ v d _ => decide (fits 8 v) && d != .accept
  | .actionLeftList sub => decide (fits 4 sub)
  | .eventPosted _ sub _ => decide (fits 4 sub)
  | .readMeters => true
  | .readInstruments => true
  | .readRoutes => true
  | .warmStart => true
  | .coldStart => true
  | .requestedStartTaken => true
  | .saveConfiguration => true
  | .saveWriteVerified => true
  | .saveWriteFailed => true
  | .frameGapTimeout => true
  | .replySent => true
  | .meterPulse _ => true
  | .meterPeriodClose => true
  | .standstillCountRaise => true
  | .bookingStripCheck => true
  | .pollTick => true
  | .pollRequestSent => true
  | .responseTimeout => true
  | .channelSlotLost _ => true
  | .channelSlotRecovered _ => true
  | .channelLeftOffReport _ => true
  | .manifoldPrimaryCeased => true
  | .switchEndHanded => true
  | .safeDemand _ _ => true
  | .holdDemand => true
  | .valveLimitChange _ _ _ => true
  | .valveTravelExpiry _ => true
  | .powerOn _ => true
  | .powerLoss _ => true
  | .rstinAsserted => true
  | .rstinReleased => true
  | .startEnd => true
  | .overlongLengthReceived => true

end Sys2Proof
end

