-- ==== Sys2Proof/Machine/Poller.lean ====
section
/-! DEFINITION. Poller.lean: the Instrument Poller: poll cycles, the judgement of responses, health, failure and recovery
(chapter 3). -/

namespace Sys2Proof.Machine

/-! ### The poll cycle (R49, R50) -/

/-- R49: the first configured slot among some, in number order. -/
def firstConfigured (t : Tables) (ks : List SlotNo) : Option SlotNo := ks.find? (fun k => configured (t.slots.get k))

/-- R49: the slots after one. -/
def slotsAfter (k : SlotNo) : List SlotNo := allSlots.filter (fun x => decide (slotNumber k < slotNumber x))

def State.setPoller (p : Poller) (s : State) : State := { s with ip := p }

/-- R49: a poll cycle begins with the first configured slot; with none it ends at once. -/
def beginCycle (s : State) : State :=
  s.setPoller { s.ip with
    cycle := (firstConfigured s.tables allSlots).map (fun k => ⟨s.clock.ms, k, .sending⟩)
    deferred := false }

/-- R52: the bytes assembled of a response. -/
def setAssembled (bs : List Byte) (s : State) : State := s.setPoller { s.ip with assembled := bs }

/-- R49, R50: the next configured slot is polled, or the cycle ends and a deferred one begins. -/
def goOn (c : Cycle) (s : State) : State :=
  match firstConfigured s.tables (slotsAfter c.slot) with
  | some k => s.setPoller { s.ip with cycle := some { c with slot := k, phase := .sending } }
  | none => if s.ip.deferred then beginCycle s else s.setPoller { s.ip with cycle := none }

/-- R49, R52: a poll has ended: what was assembled is gone, and the cycle goes on. -/
def nextPoll (c : Cycle) (s : State) : State := goOn c (setAssembled [] s)

/-- R49, R50: the poll tick falls due. -/
def pollTick (s : State) : State :=
  match s.ip.cycle with
  | none => beginCycle (s.setPoller { s.ip with overrunLatch := false })
  | some c =>
    let s1 := s.setPoller { s.ip with deferred := true, overrunLatch := true }
    if s.ip.overrunLatch then s1 else s1.post .pollOverrun 0 (s.clock.ms - c.startMs : Nat)

/-- POLL_TICK (R49, R50). -/
def execPollTick (s : State) : Result := event .pollTick pollTick s

/-- R52: the last byte of the request has been sent: the response wait opens and the poll is counted. -/
def requestSent (s : State) : State :=
  match s.ip.cycle with
  | some c =>
    match c.phase with
    | .sending =>
      let s1 := s.setPoller { s.ip with
        cycle := some { c with phase := .waiting (s.clock.ms + s.tables.params.responseTimeout) } }
      s1.setSlot c.slot { s1.ip.slots.get c.slot with polls := wrapInc32 (s1.ip.slots.get c.slot).polls }
    | .waiting _ => s
  | none => s

/-- POLL_REQUEST_SENT (R52). -/
def execPollRequestSent (s : State) : Result := event .pollRequestSent requestSent s

/-- R51: the request frame being sent, if one is. -/
def requestFrame (s : State) : Option (List Byte) :=
  match s.ip.cycle with
  | some c =>
    match c.phase with
    | .sending =>
      let covered := bytesOf 1 (s.tables.slots.get c.slot).address ++ bytesOf 1 1
      some (0x5A#8 :: covered ++ bytesOf 2 (crc16 covered).toNat)
    | .waiting _ => none
  | none => none

/-! ### The checks (R53 to R55) -/

/-- R51, R53: the FRAME check of a response against the address polled. -/
def frameOk (address : Nat) (bs : List Byte) : Bool :=
  responseShape bs && field bs 1 1 == address && field bs 7 2 == (crc16 (fieldBytes bs 1 6)).toNat

/-- R54: the value of a response. -/
def responseValue (bs : List Byte) : Int := signedOf (fieldBytes bs 2 4)

/-- R54: the STATUS check fails. -/
def statusFails (bs : List Byte) : Bool := field bs 6 1 != 0

/-- R54: a density lies within the limits of at least one defined product, or 5000 to 11000 with none defined. -/
def densityInRange (t : Tables) (v : Int) : Bool :=
  if t.products.isEmpty then decide (5000 ≤ v ∧ v ≤ 11000)
  else t.products.any (fun p => decide ((p.entry.dmin : Int) ≤ v ∧ v ≤ p.entry.dmax))

/-- R54: the RANGE check fails. -/
def rangeFails (t : Tables) (role : SlotRole) (v : Int) : Bool :=
  match channelOfRole role with
  | some _ => !densityInRange t v
  | none => !decide (-4000 ≤ v ∧ v ≤ 8000)

/-- R54: the RATE check fails. -/
def rateFails (limit : Nat) (ref : Option Int) (v : Int) : Bool :=
  match ref with
  | some r => decide (limit < (v - r).natAbs)
  | none => false

/-- R55: the first check with a policy that fails, in the order STATUS, RANGE, RATE. -/
def firstFailed (c : SlotConfig) (p : CheckPolicy) (status range rate : Bool) : Option CheckCause :=
  if c.status = p ∧ status = true then some .status
  else if c.range = p ∧ range = true then some .range
  else if c.rate = p ∧ rate = true then some .rate
  else none

/-- R55: the outcome of a reading. -/
def judgeReading (t : Tables) (c : SlotConfig) (x : SlotState) (bs : List Byte) : LastResult :=
  let v := responseValue bs
  let status := statusFails bs
  let range := rangeFails t c.role v
  let rate := rateFails c.rateLimit x.rateRef v
  match firstFailed c .drop status range rate with
  | some cause => .dropped cause
  | none =>
    match firstFailed c .flag status range rate with
    | some cause => .suspect cause
    | none => .good

/-- R53 to R55: the outcome of a response. -/
def judgeResponse (t : Tables) (c : SlotConfig) (x : SlotState) (bs : List Byte) : LastResult :=
  if frameOk c.address bs then judgeReading t c x bs else .frameFault

/-- R55: the failure cause codes of SLOT_FAILED. -/
def failureCode : LastResult → Nat
  | .noResponse => 1
  | .frameFault => 2
  | .dropped .status => 3
  | .dropped .range => 4
  | .dropped .rate => 5
  | _ => 0

/-! ### Failed polls (R57, R58) -/

/-- R57: the quality after a failed poll that does not fail the slot. -/
def heldQuality : Quality → Quality
  | .good => .held
  | .suspect => .held
  | .held => .held
  | .noValue => .noValue
  | .failed => .failed

/-- R58, steps 1 to 5: a slot that fails. -/
def failSlot (x : SlotState) : SlotState := { x with quality := .failed, health := 1, recovery := 0, rateRef := none }

/-- R57, R58: the slot after a failed poll. -/
def failedPoll (c : SlotConfig) (r : LastResult) (x : SlotState) : SlotState :=
  let x1 := { x with result := r, failures := wrapInc32 x.failures }
  if x.quality = .failed then { x1 with health := min 15 (x.health + 1), recovery := 0 }
  else
    let x2 := { x1 with health := x.health + 1, quality := heldQuality x.quality }
    if c.failThreshold ≤ x2.health then failSlot x2 else x2

/-- R57, R58: a failed poll of a slot, with its event and the failure handed to a channel. -/
def takeFailedPoll (k : SlotNo) (r : LastResult) (s : State) : State :=
  let c := s.tables.slots.get k
  let x := s.ip.slots.get k
  let y := failedPoll c r x
  let s1 := s.setSlot k y
  if x.quality ≠ .failed ∧ y.quality = .failed then
    let s2 := s1.post .slotFailed (slotNumber k) (failureCode r)
    match channelOfRole c.role with
    | some ch => s2.hand (.channelSlotLost ch)
    | none => s2
  else s1

/-! ### Accepted readings (R56, R58, R59) -/

/-- R56: a reading handed to the channel of a density role. -/
def handReading (role : SlotRole) (v : Int) (q : ReadingQuality) (tag : Nat) (s : State) : State :=
  match channelOfRole role with
  | some ch => s.hand (.channelReading ch v q tag)
  | none => s

/-- R56: an accepted reading as the slot's value and rate reference. -/
def acceptValueOf (v : Int) (r : LastResult) (tag : Nat) (x : SlotState) : SlotState :=
  { x with last := some ⟨v, tag⟩, rateRef := some v, result := r }

/-- R56, R58: an accepted reading on a slot that is not FAILED. -/
def acceptRunning (k : SlotNo) (v : Int) (q : ReadingQuality) (x : SlotState) (s : State) : State :=
  let x1 :=
    match q with
    | .good => { x with quality := .good, health := x.health - 1 }
    | .suspect => { x with quality := .suspect }
  handReading (s.tables.slots.get k).role v q s.stationS (s.setSlot k x1)

/-- R59: the recovery of a slot is posted and handed on, with the reading that completed it. -/
def recoverSlot (k : SlotNo) (v : Int) (x : SlotState) (s : State) : State :=
  let role := (s.tables.slots.get k).role
  let s1 := (s.setSlot k { x with quality := .good, health := 0, recovery := 0 }).post .slotRecovered (slotNumber k)
    (min x.failures Config.i32Max)
  match channelOfRole role with
  | some ch => handReading role v .good s1.stationS (s1.hand (.channelSlotRecovered ch))
  | none => s1

/-- R59: an accepted reading on a FAILED slot. -/
def acceptFailed (k : SlotNo) (v : Int) (q : ReadingQuality) (x : SlotState) (s : State) : State :=
  match q with
  | .suspect => s.setSlot k { x with recovery := 0 }
  | .good =>
    if (s.tables.slots.get k).recoveryCount ≤ x.recovery + 1 then recoverSlot k v x s
    else s.setSlot k { x with recovery := x.recovery + 1 }

/-- R56: an accepted reading. -/
def takeAccepted (k : SlotNo) (v : Int) (q : ReadingQuality) (r : LastResult) (s : State) : State :=
  let x := acceptValueOf v r s.stationS (s.ip.slots.get k)
  if x.quality = .failed then acceptFailed k v q x s else acceptRunning k v q x s

/-- R55: the outcome of a poll is taken by its slot. -/
def takeOutcome (k : SlotNo) (r : LastResult) (v : Int) (s : State) : State :=
  match r with
  | .good => takeAccepted k v .good r s
  | .suspect _ => takeAccepted k v .suspect r s
  | .none => takeFailedPoll k r s
  | .noResponse => takeFailedPoll k r s
  | .frameFault => takeFailedPoll k r s
  | .dropped _ => takeFailedPoll k r s

/-- R52: the bytes of a response once more have arrived: those before the first start byte 0x5A are discarded. -/
def assembleResponse (held bs : List Byte) : List Byte := (held ++ bs).dropWhile (fun b => b != 0x5A#8)

/-- R52 to R59: a frame of nine bytes is judged, and the poll ends. -/
def judgeFrameOf (c : Cycle) (frame : List Byte) (s : State) : State :=
  nextPoll c (takeOutcome c.slot
    (judgeResponse s.tables (s.tables.slots.get c.slot) (s.ip.slots.get c.slot) frame) (responseValue frame) s)

/-- R52: bytes that arrive on the instrument link: while the response wait is open they are assembled, and the ninth byte of
the frame ends the wait; what follows it, and all that arrives with no wait open, is discarded. -/
def takeResponse (bs : List Byte) (s : State) : State :=
  match s.ip.cycle with
  | some c =>
    match c.phase with
    | .waiting _ =>
      let held := assembleResponse s.ip.assembled bs
      if held.length < 9 then setAssembled held s else judgeFrameOf c (held.take 9) s
    | .sending => s
  | none => s

/-- INSTRUMENT_RESPONSE (R52 to R59). -/
def execInstrumentResponse (bs : List Byte) (s : State) : Result := event (.instrumentResponse bs) (takeResponse bs) s

/-- R52: the response timeout of the open wait has run out. -/
def timeoutOut (s : State) : Bool :=
  match s.ip.cycle with
  | some c =>
    match c.phase with
    | .waiting d => decide (d ≤ s.clock.ms)
    | .sending => false
  | none => false

/-- R52: the response timeout runs out: the poll has no response, and any partial frame is discarded. -/
def takeTimeout (s : State) : State :=
  match s.ip.cycle with
  | some c =>
    match c.phase with
    | .waiting _ => nextPoll c (takeFailedPoll c.slot .noResponse s)
    | .sending => s
  | none => s

/-- RESPONSE_TIMEOUT (R52, R57): one left over from a poll that has ended does nothing. -/
def execResponseTimeout (s : State) : Result :=
  event .responseTimeout
    (if expiryStands .responseTimeout (timeoutOut s) s then takeTimeout else id) s

/-! ### READ INSTRUMENTS (R60) -/

def roleCode : SlotRole → Nat
  | .none => 0
  | .densAdvance => 1
  | .densManifold => 2
  | .tempInlet => 3
  | .tempDelivery => 4

def policyCode : CheckPolicy → Nat
  | .off => 0
  | .drop => 1
  | .flag => 2

def qualityCode : Quality → Nat
  | .noValue => 0
  | .good => 1
  | .suspect => 2
  | .held => 3
  | .failed => 4

def causeCode : CheckCause → Nat
  | .status => 1
  | .range => 2
  | .rate => 3

/-- R179: the last result of a slot. -/
def encResult : LastResult → List Byte
  | .none => enc1 0 ++ enc1 0
  | .good => enc1 1 ++ enc1 0
  | .suspect c => enc1 2 ++ enc1 (causeCode c)
  | .noResponse => enc1 3 ++ enc1 0
  | .frameFault => enc1 4 ++ enc1 0
  | .dropped c => enc1 5 ++ enc1 (causeCode c)

/-- R47, R60: a slot configuration in the order of its table. The enable reads 1 when enabled, the code of SET SLOT (R178),
though R47 lists enabled first [13]. -/
def encSlotConfig (c : SlotConfig) : List Byte :=
  enc1 (roleCode c.role) ++ enc1 c.address ++ encBool c.enabled ++ enc1 (policyCode c.range) ++ enc1 (policyCode c.rate)
  ++ enc1 (policyCode c.status) ++ encUnsigned 4 c.rateLimit ++ enc1 c.failThreshold ++ enc1 c.recoveryCount

/-- R60: a slot as READ INSTRUMENTS reports it. The poll count is the one raised as the open response wait began [48]. -/
def encSlot (c : SlotConfig) (x : SlotState) : List Byte :=
  encSlotConfig c ++ enc1 (qualityCode x.quality) ++ encBool x.last.isSome ++ encOptSigned 4 (x.last.map (·.value))
  ++ encOpt 8 (x.last.map (·.tag)) ++ enc1 x.health ++ enc1 x.recovery ++ encResult x.result ++ encUnsigned 4 x.polls
  ++ encUnsigned 4 x.failures

/-- READ_INSTRUMENTS (R60). The slot being polled is always sent, and reads 0 while no cycle is running, for which R60 and
R179 give no mark: the model's choice [13]. -/
def execReadInstruments (s : State) : Result :=
  request (fun s => s.accept 0x03
    (encUnsigned 2 s.tables.params.pollPeriod ++ encUnsigned 2 s.tables.params.responseTimeout
      ++ encBool s.ip.cycle.isSome ++ enc1 ((s.ip.cycle.map (fun c => slotNumber c.slot)).getD 0)
      ++ encBool s.ip.overrunLatch
      ++ allSlots.flatMap (fun k => encSlot (s.tables.slots.get k) (s.ip.slots.get k)))) s

end Sys2Proof.Machine
end

