-- ==== Sys2Proof/Machine/TablesCmd.lean ====
section
/-! DEFINITION. TablesCmd.lean: the five SET requests on the working tables and the saving of the configuration (R48, R104,
R105, R127, R180 to R182). -/

namespace Sys2Proof.Machine

/-- R182: an accepted SET request marks the working tables as edited. -/
def setEdited (s : State) : State := { s with li := { s.li with edited := true } }

/-- R178: the payload of an accepted SET request: the clamp mark, then the values as taken. -/
def acceptSet (cls : Nat) (clamped : Bool) (payload : List Byte) (s : State) : State :=
  s.accept cls (encBool clamped ++ payload)

/-! ### SET PARAMETER (R181) -/

/-- R181: the range of a parameter that is clamped. -/
def tuningRange : Nat → Option (Int × Int)
  | 2 => some (0, 2000000)
  | 3 => some (1, 100000)
  | 4 => some (1, 100000)
  | 5 => some (1, 65535)
  | 6 => some (1, 65535)
  | 7 => some (-4000, 8000)
  | 8 => some (-4000, 8000)
  | 9 => some (0, 2000)
  | 10 => some (0, 100000)
  | 11 => some (10, 600)
  | 12 => some (100, 50000)
  | 13 => some (250, 5000)
  | 14 => some (20, 500)
  | 15 => some (10, 200)
  | 16 => some (5, 200)
  | 17 => some (5, 200)
  | 18 => some (800, 995)
  | 19 => some (5, 100)
  | 20 => some (50, 20000)
  | 21 => some (100, 50000)
  | 22 => some (0, 200000)
  | 23 => some (0, 50)
  | 24 => some (1000, 1000000)
  | 25 => some (0, 500000)
  | 26 => some (1000, 3000)
  | 27 => some (0, 200000)
  | 29 => some (0, 500000)
  | 32 => some (1, 256)
  | _ => none

/-- R181: a clamped parameter takes its value. -/
def setTuning (n : Nat) (v : Int) (p : Params) : Params :=
  match n with
  | 2 => { p with leadVolume := v.toNat }
  | 3 => { p with pulseWeightInlet := v.toNat }
  | 4 => { p with pulseWeightDelivery := v.toNat }
  | 5 => { p with pulseLimitInlet := v.toNat }
  | 6 => { p with pulseLimitDelivery := v.toNat }
  | 7 => { p with fallbackInlet := v }
  | 8 => { p with fallbackDelivery := v }
  | 9 => { p with defaultAlpha := v.toNat }
  | 10 => { p with standstillFlow := v.toNat }
  | 11 => { p with standstillTime := v.toNat }
  | 12 => { p with resumeVolume := v.toNat }
  | 13 => { p with pollPeriod := v.toNat }
  | 14 => { p with responseTimeout := v.toNat }
  | 15 => { p with minContrast := v.toNat }
  | 16 => { p with bodyBand := v.toNat }
  | 17 => { p with fd := v.toNat }
  | 18 => { p with fa := v.toNat }
  | 19 => { p with hysteresis := v.toNat }
  | 20 => { p with holdVolume := v.toNat }
  | 21 => { p with settleVolume := v.toNat }
  | 22 => { p with minHalfwidth := v.toNat }
  | 23 => { p with toleranceRate := v.toNat }
  | 24 => { p with maxHalfwidth := v.toNat }
  | 25 => { p with gapParameter := v.toNat }
  | 26 => { p with volumetricFactor := v.toNat }
  | 27 => { p with confirmTolerance := v.toNat }
  | 29 => { p with minClean := v.toNat }
  | 32 => { p with watermark := v.toNat }
  | _ => p

/-- R126: a route that may be the safe route: defined, of kind THROUGH or TRANSMIX. -/
def safeRouteAllowed (t : Tables) (r : RouteNo) : Bool :=
  match routeKind t r with
  | some .through => true
  | some .transmix => true
  | _ => false

/-- R181, R108, R126: a parameter that is refused out of range takes its value; none where it is refused BAD_VALUE. -/
def setStructural (t : Tables) (n : Nat) (v : Int) : Option Params :=
  let p := t.params
  match n with
  | 1 => if 1 ≤ v ∧ v ≤ 62 then some { p with unitAddress := v.toNat } else none
  | 28 =>
    if v = 1 then if (throughRoute t).isSome then some { p with defaultDisposition := .pass } else none
    else if v = 2 then some { p with defaultDisposition := .transmixAll }
    else none
  | 30 =>
    match (if 0 ≤ v then routeOfNumber v.toNat else none) with
    | some r => if safeRouteAllowed t r then some { p with safeRoute := some r } else none
    | none => none
  | 31 => if 0 ≤ v ∧ v ≤ 63 then some { p with routingMask := v.toNat } else none
  | 33 => if v = 0 then some { p with ticketAttention := false } else if v = 1 then some { p with ticketAttention := true }
    else none
  | _ => none

/-- R2, R126, R172: what the change of a parameter brings about at once. -/
def afterParameter (n : Nat) (s : State) : State :=
  match n with
  | 2 => completionCheck s
  | 30 => compare (s.setLatch false)
  | 31 => judgeAttn s
  | 32 => judgeAttn s
  | 33 => judgeAttn s
  | _ => s

/-- R181: an accepted parameter takes effect before the acceptance is sent. -/
def takeParameter (n : Nat) (p : Params) (s : State) : State :=
  afterParameter n (setEdited (s.setTables { s.tables with params := p }))

/-- R2: the lead volume is refused in TRACKING, MANUAL and SAFE. -/
def leadRefused (s : State) : Bool := s.sm.mode == .tracking || s.sm.mode == .manual || s.sm.mode == .safe

/-- SET_PARAMETER (R180, R181). -/
def execSetParameter (number : Nat) (value : Int) (s : State) : Result :=
  request (fun s =>
    match tuningRange number with
    | some (lo, hi) =>
      if number = 2 ∧ leadRefused s = true then s.refuse 0x30 .wrongMode 0
      else
        let v := clampInt lo hi value
        acceptSet 0x30 (v != value) (enc1 number ++ encSigned 4 v)
          (takeParameter number (setTuning number v s.tables.params) s)
    | none =>
      match setStructural s.tables number value with
      | some p => acceptSet 0x30 false (enc1 number ++ encSigned 4 value) (takeParameter number p s)
      | none => s.refuse 0x30 .badValue 0) s

/-! ### SET PRODUCT (R104) -/

/-- The product table with an entry, in code order. -/
def insertProduct (row : ProductRow) : List ProductRow → List ProductRow
  | [] => [row]
  | p :: rest =>
    if row.code < p.code then row :: p :: rest
    else if row.code = p.code then row :: rest
    else p :: insertProduct row rest

/-- R104: a product is in use by a train entry or a PRODUCT route. -/
def productInUse (s : State) (code : Nat) : Bool :=
  s.lt.train.any (fun e => e.product == code) || allRoutes.any (fun r => productRoute s.tables r == some code)

/-- R104: the refusal of a SET PRODUCT. -/
def productRefusal (code op dmin dmax : Nat) (s : State) : Option RefusalCode :=
  if ¬(op = 1 ∨ op = 2) then some .badValue
  else if code < 1 ∨ Config.maxProduct < code then some .badValue
  else if op = 1 then
    if dmin < 5000 ∨ 11000 < dmin ∨ dmax < 5000 ∨ 11000 < dmax ∨ dmax < dmin then some .badValue else none
  else
    match productOf s.tables code with
    | none => some .notFound
    | some _ => if productInUse s code then some .inUse else none

/-- SET_PRODUCT (R104, R180). -/
def execSetProduct (code op : Nat) (name : List Byte) (alpha rank dmin dmax : Nat) (s : State) : Result :=
  request (fun s =>
    match productRefusal code op dmin dmax s with
    | some c => s.refuse 0x31 c 0
    | none =>
      if op = 1 then
        let a := clampNat 0 2000 alpha
        let r := clampNat 1 9 rank
        acceptSet 0x31 (a != alpha || r != rank)
          (enc1 code ++ enc1 op ++ name ++ encUnsigned 2 a ++ enc1 r ++ encUnsigned 2 dmin ++ encUnsigned 2 dmax)
          (setEdited (s.setTables { s.tables with products := insertProduct ⟨code, ⟨name, a, r, dmin, dmax⟩⟩ s.tables.products }))
      else
        acceptSet 0x31 false
          (enc1 code ++ enc1 op ++ name ++ encUnsigned 2 alpha ++ enc1 rank ++ encUnsigned 2 dmin ++ encUnsigned 2 dmax)
          (setEdited (s.setTables { s.tables with products := s.tables.products.filter (fun p => p.code != code) }))) s

/-! ### SET PAIR (R105) -/

/-- R178: the codes of a rule. -/
def ruleOfCode : Nat → Option PairRule
  | 1 => some .toAhead
  | 2 => some .toBehind
  | 3 => some .split
  | 4 => some .transmix
  | _ => none

def ruleCode : PairRule → Nat
  | .toAhead => 1
  | .toBehind => 2
  | .split => 3
  | .transmix => 4

/-- Whether a row of the pair table is that of a pair. -/
def isPair (ahead behind : Nat) (p : PairRow) : Bool := p.ahead == ahead && p.behind == behind

/-- A pair stands before a row in ascending order of ahead code, then behind code (R183). -/
def pairBefore (ahead behind : Nat) (p : PairRow) : Bool :=
  decide (ahead < p.ahead) || (ahead == p.ahead && decide (behind < p.behind))

/-- The pair table with an entry, in code order. -/
def insertPair (row : PairRow) : List PairRow → List PairRow
  | [] => [row]
  | p :: rest =>
    if pairBefore row.ahead row.behind p then row :: p :: rest
    else if isPair row.ahead row.behind p then row :: rest
    else p :: insertPair row rest

/-- R105: the codes of a SET PAIR are in range, or 0 and 0 for the default pair. -/
def pairCodesOk (ahead behind : Nat) : Bool :=
  (ahead == 0 && behind == 0)
  || decide (1 ≤ ahead ∧ ahead ≤ Config.maxProduct ∧ 1 ≤ behind ∧ behind ≤ Config.maxProduct)

/-- R105: the refusal of a SET PAIR. -/
def pairRefusal (ahead behind op rule : Nat) (s : State) : Option RefusalCode :=
  if ¬(op = 1 ∨ op = 2) then some .badValue
  else if pairCodesOk ahead behind = false then some .badValue
  else if op = 1 then
    if (ruleOfCode rule).isNone then some .badValue
    else if ahead ≠ 0 ∧ s.tables.pairs.any (isPair ahead behind) = false ∧ Config.maxPairs ≤ s.tables.pairs.length then
      some .badValue
    else none
  else if ahead = 0 then some .badValue
  else if s.tables.pairs.any (isPair ahead behind) then none
  else some .notFound

/-- R105: a pair entry with its tuning numbers clamped, in order. -/
def clampPair (rule : PairRule) (h t baseMix growth maxMix : Nat) : PairEntry :=
  let h' := clampNat 1 999 h
  let b := clampNat 0 500000 baseMix
  ⟨rule, h', clampNat h' 999 t, b, clampNat 0 100000 growth, clampNat b 1000000 maxMix⟩

/-- R105, R183: the fields of a pair entry in a SET PAIR or a READ CONFIGURATION, after its codes. The rule is coded
1 to 4 as R178 states for SET PAIR, and likewise in READ CONFIGURATION, where R183 gives the width alone [13]. -/
def encPairFields (p : PairEntry) : List Byte :=
  enc1 (ruleCode p.rule) ++ encUnsigned 2 p.h ++ encUnsigned 2 p.t ++ encUnsigned 4 p.baseMix ++ encUnsigned 4 p.growth
  ++ encUnsigned 4 p.maxMix

/-- R105: the tables with a pair written; the codes 0 and 0 address the default pair. -/
def writePair (ahead behind : Nat) (p : PairEntry) (t : Tables) : Tables :=
  if ahead = 0 then { t with defaultPair := p } else { t with pairs := insertPair ⟨ahead, behind, p⟩ t.pairs }

/-- SET_PAIR (R105, R180). -/
def execSetPair (ahead behind op rule h t baseMix growth maxMix : Nat) (s : State) : Result :=
  request (fun s =>
    match pairRefusal ahead behind op rule s with
    | some c => s.refuse 0x32 c 0
    | none =>
      if op = 1 then
        let p := clampPair ((ruleOfCode rule).getD .transmix) h t baseMix growth maxMix
        acceptSet 0x32
          (p.h != h || p.t != t || p.baseMix != baseMix || p.growth != growth || p.maxMix != maxMix)
          (enc1 ahead ++ enc1 behind ++ enc1 op ++ encPairFields p)
          (setEdited (s.setTables (writePair ahead behind p s.tables)))
      else
        acceptSet 0x32 false
          (enc1 ahead ++ enc1 behind ++ enc1 op ++ enc1 rule ++ encUnsigned 2 h ++ encUnsigned 2 t ++ encUnsigned 4 baseMix
            ++ encUnsigned 4 growth ++ encUnsigned 4 maxMix)
          (setEdited (s.setTables { s.tables with
            pairs := s.tables.pairs.filter (fun p => !isPair ahead behind p) }))) s

/-! ### SET ROUTE (R127) -/

/-- R178: the kind a SET ROUTE carries; a product code is examined for PRODUCT alone. -/
def kindOfCode (kind product : Nat) : Option RouteKind :=
  match kind with
  | 1 => some .through
  | 2 => if 1 ≤ product ∧ product ≤ Config.maxProduct then some (.product product) else none
  | 3 => some .transmix
  | _ => none

/-- The tables with the entry of a route. -/
def writeRoute (r : RouteNo) (e : Option RouteEntry) (t : Tables) : Tables := { t with routes := t.routes.set r e }

/-- R127, order 1: a second THROUGH route. -/
def secondThrough (t : Tables) (r : RouteNo) (k : RouteKind) : Bool :=
  k == .through && allRoutes.any (fun x => x != r && routeKind t x == some .through)

/-- R127, order 3: the route is OPEN, travelling, in RC's target or in the target of the switch in progress. -/
def routeBusy (s : State) (r : RouteNo) : Bool :=
  valveIs s r .opened || travelling s r || ((target s).map (fun x => x.1.contains r)).getD false
  || (s.rc.switching.map (fun w => w.target.contains r)).getD false

/-- R127, orders 3 to 5: the refusals IN_USE, `k` the kind the route would have. -/
def routeInUse (s : State) (r : RouteNo) (k : Option RouteKind) : Bool :=
  routeBusy s r
  || (s.tables.params.safeRoute == some r && routeKind s.tables r != k)
  || (s.tables.params.defaultDisposition == .pass && k != some .through
      && !allRoutes.any (fun x => x != r && routeKind s.tables x == some .through))

/-- R127: the refusal of a SET ROUTE that writes. -/
def routeWriteRefusal (r : RouteNo) (kind product : Nat) (s : State) : Option RefusalCode :=
  match kindOfCode kind product with
  | none => some .badValue
  | some k =>
    if secondThrough s.tables r k then some .badValue
    else
      match k with
      | .product c =>
        if (productOf s.tables c).isNone then some .unknownProduct
        else if routeInUse s r (some k) then some .inUse
        else none
      | _ => if routeInUse s r (some k) then some .inUse else none

/-- R127: the refusal of a SET ROUTE. -/
def routeRefusal (route op kind product : Nat) (s : State) : Option RefusalCode :=
  if ¬(op = 1 ∨ op = 2) then some .badValue
  else
    match routeOfNumber route with
    | none => some .badValue
    | some r => if op = 1 then routeWriteRefusal r kind product s else if routeInUse s r none then some .inUse else none

/-- R128, R144: a valve record as it is created, before its state is taken from the limits; its open stamp is 0 until the
route enters OPEN [59]. -/
def newValve : Valve := ⟨.unknown, 0, none, 0, 0⟩

/-- R127: an accepted entry: a new route's valve record is created from its limits; a defined route keeps its own. -/
def writeRouteEntry (r : RouteNo) (e : RouteEntry) (s : State) : State :=
  let s1 := s.setTables (writeRoute r (some e) s.tables)
  if (s.tables.routes.get r).isSome then s1 else positionFromLimits r (s1.setValve r (some newValve))

/-- R127, R139: what follows an accepted entry: the comparison, or, where the new record of a route not yet defined is
found in FAULT or LOCKED_OUT, what that fault leads to: it ends a switch the route is involved in. -/
def afterRouteEntry (r : RouteNo) (isNew : Bool) (s : State) : State :=
  if isNew && faulted s r then afterFault r false s else compare s

/-- R127: an accepted removal discards the valve record. -/
def removeRoute (r : RouteNo) (s : State) : State := (s.setTables (writeRoute r none s.tables)).setValve r none

/-- SET_ROUTE (R127, R180): accepted, it makes the Route Controller compare its line-up (R135), after a fault as R139
states. -/
def execSetRoute (route op kind product travel nominal faultLimit : Nat) (s : State) : Result :=
  request (fun s =>
    match routeRefusal route op kind product s, routeOfNumber route with
    | some c, _ => s.refuse 0x33 c 0
    | none, none => s.refuse 0x33 .badValue 0
    | none, some r =>
      if op = 1 then
        let tl := clampNat 5 600 travel
        let nt := clampNat 1 600 nominal
        let fl := clampNat 1 7 faultLimit
        let e : RouteEntry := ⟨(kindOfCode kind product).getD .transmix, tl, nt, fl⟩
        acceptSet 0x33 (tl != travel || nt != nominal || fl != faultLimit)
          (enc1 route ++ enc1 op ++ enc1 kind ++ enc1 product ++ encUnsigned 2 tl ++ encUnsigned 2 nt ++ enc1 fl)
          (afterRouteEntry r (s.tables.routes.get r).isNone (setEdited (writeRouteEntry r e s)))
      else
        acceptSet 0x33 false
          (enc1 route ++ enc1 op ++ enc1 kind ++ enc1 product ++ encUnsigned 2 travel ++ encUnsigned 2 nominal
            ++ enc1 faultLimit)
          (compare (setEdited (removeRoute r s)))) s

/-! ### SET SLOT (R48) -/

/-- R178: the codes of a role. -/
def roleOfCode : Nat → Option SlotRole
  | 0 => some .none
  | 1 => some .densAdvance
  | 2 => some .densManifold
  | 3 => some .tempInlet
  | 4 => some .tempDelivery
  | _ => none

/-- R178: the codes of a check setting. -/
def policyOfCode : Nat → Option CheckPolicy
  | 0 => some .off
  | 1 => some .drop
  | 2 => some .flag
  | _ => none

/-- R48: the role is already held by another slot. -/
def roleTaken (t : Tables) (k : SlotNo) (role : SlotRole) : Bool :=
  role != .none && allSlots.any (fun x => x != k && (t.slots.get x).role == role)

/-- R48: the address is already held by another enabled slot. -/
def addressTaken (t : Tables) (k : SlotNo) (address : Nat) : Bool :=
  allSlots.any (fun x => x != k && (t.slots.get x).enabled && (t.slots.get x).address == address)

/-- R48: the structural part of a slot configuration; none where it is refused BAD_VALUE. The tuning numbers are clamped
(R180). -/
def slotRequest (t : Tables) (slot role address enable range rate status rateLimit failThreshold recoveryCount : Nat) :
    Option (SlotNo × SlotConfig) :=
  match slotOfNumber slot, roleOfCode role, policyOfCode range, policyOfCode rate, policyOfCode status with
  | some k, some ro, some rg, some rt, some st =>
    if address < 1 ∨ 31 < address ∨ 1 < enable then none
    else if roleTaken t k ro || (enable == 1 && addressTaken t k address) then none
    else some (k, ⟨ro, address, enable == 1, rg, rt, st, clampNat 1 100000 rateLimit, clampNat 1 15 failThreshold,
      clampNat 1 50 recoveryCount⟩)
  | _, _, _, _, _ => none

/-- R48: a change of role, address or enable. -/
def identityChange (old new : SlotConfig) : Bool :=
  old.role != new.role || old.address != new.address || old.enabled != new.enabled

/-- R48: the slot's state is cleared; its counts stand (R47). -/
def clearSlot (x : SlotState) : SlotState :=
  { x with quality := .noValue, last := none, rateRef := none, health := 0, recovery := 0, result := .none }

/-- R48: a poll of the slot in flight is abandoned and the cycle goes on [27]. -/
def abandonPoll (k : SlotNo) (s : State) : State :=
  match s.ip.cycle with
  | some c => if c.slot = k then nextPoll c s else s
  | none => s

/-- R48: the effect of an accepted SET SLOT. -/
def takeSlot (k : SlotNo) (new : SlotConfig) (s : State) : State :=
  let old := s.tables.slots.get k
  let s1 := setEdited (s.setTables { s.tables with slots := s.tables.slots.set k new })
  if identityChange old new then
    let s2 := abandonPoll k (s1.setSlot k (clearSlot (s1.ip.slots.get k)))
    match channelOfRole old.role with
    | some ch => s2.hand (.channelSlotLost ch)
    | none => s2
  else s1

/-- SET_SLOT (R48, R180). -/
def execSetSlot (slot role address enable range rate status rateLimit failThreshold recoveryCount : Nat) (s : State) :
    Result :=
  request (fun s =>
    match slotRequest s.tables slot role address enable range rate status rateLimit failThreshold recoveryCount with
    | none => s.refuse 0x34 .badValue 0
    | some (k, c) =>
      acceptSet 0x34
        (c.rateLimit != rateLimit || c.failThreshold != failThreshold || c.recoveryCount != recoveryCount)
        (enc1 slot ++ encSlotConfig c) (takeSlot k c s)) s

/-! ### Saving (R182) -/

/-- SAVE_CONFIGURATION (R182). -/
def execSaveConfiguration (s : State) : Result :=
  request (fun s =>
    if s.cs.saving.isSome then s.refuse 0x35 .busy 0
    else
      ({ s with cs := ⟨none, some s.tables⟩, li := { s.li with edited := false } }).accept 0x35 []) s

/-- R182: the write is verified. -/
def writeVerified (s : State) : State :=
  match s.cs.saving with
  | some t => ({ s with cs := ⟨some t, none⟩ }).post .saveDone 0 (missingMask t)
  | none => s

/-- SAVE_WRITE_VERIFIED (R182). -/
def execSaveWriteVerified (s : State) : Result := event .saveWriteVerified writeVerified s

/-- R182: the read-back disagrees. -/
def writeFailed (s : State) : State :=
  match s.cs.saving with
  | some _ => (setEdited { s with cs := ⟨none, none⟩ }).post .saveFailed 0 1
  | none => s

/-- SAVE_WRITE_FAILED (R182). -/
def execSaveWriteFailed (s : State) : Result := event .saveWriteFailed writeFailed s

end Sys2Proof.Machine
end

