-- ==== Sys2Proof/Machine/Reports.lean ====
section
/-! DEFINITION. Reports.lean: READ STATUS, READ ROUTES, READ TRAIN, READ BATCH and READ CONFIGURATION (R26, R80, R103,
R125, R143, R158, R179, R183, R184). Encodings that R179 leaves open are those of notes/assumptions/13.md. -/

namespace Sys2Proof.Machine

/-- A signed value in an unsigned field (R179); outside the field's width it is free [12]. -/
def encNatural (k : Nat) (x : Int) : List Byte :=
  if 0 ≤ x then encUnsigned k x.toNat else bytesOf k (Config.replyFieldPastRange x).toNat

/-- An optional 8-byte edge (R179: edges signed, absent all bits set). -/
def encEdge : Option Int → List Byte
  | none => absentOnes 8
  | some x => encSigned 8 x

/-- A mark of section 11.6, absent as all bits set (R184). -/
def encMark : Option Bool → List Byte
  | none => absentOnes 1
  | some b => encBool b

/-! ### READ STATUS (R184) -/

def startKindCode : StartKind → Nat
  | .cold => 0
  | .warm => 1

def startCauseCode : StartCause → Nat
  | .powerOn => 1
  | .rstin => 2
  | .request => 3

def planKindCode : PlanKind → Nat
  | .body => 1
  | .transmix => 2
  | .protect => 3
  | .safe => 4

/-- R184, bytes 0 to 21: the Station Mode, the clock, S and the flow state (R158, R157). -/
def statusStation (s : State) : List Byte :=
  enc1 (modeCode s.sm.mode) ++ enc1 (startKindCode s.sm.kind) ++ enc1 (startCauseCode s.sm.cause)
  ++ encBool s.sm.powerOnTest ++ enc1 (missingMask s.tables) ++ encBool s.rc.latch ++ encUnsigned 4 s.clock.seconds
  ++ encUnsigned 2 s.clock.milli ++ encBool s.clock.isSet ++ encUnsigned 8 s.stationS ++ enc1 (flowCode s.mu.flowState)

/-- R184, bytes 22 to 28: the plan line-up, of kind 0 and else absent where there is none, and the count of actions
(R125). -/
def statusPlan (cp : CutPlanner) : List Byte :=
  (match cp.plan with
   | none => enc1 0 ++ absentOnes 1 ++ absentOnes 4
   | some p => enc1 (planKindCode p.kind) ++ enc1 (routeSetCode p.routes) ++ encUnsigned 4 p.owner)
  ++ enc1 cp.actions.length

/-- R184, bytes 29 to 51: the window record (R103). -/
def statusWindow (w : Option WindowRecord) : List Byte :=
  encBatch (w.map (·.batch)) ++ encOpt 1 (w.map (fun w => channelNumber w.channel)) ++ encEdge (w.map (·.lower))
  ++ encEdge (w.map (·.upper)) ++ encMark (w.map (·.lost)) ++ encMark (w.map (·.expiryHanded))

/-- R184, bytes 52 to 77: the confirmation record (R103). -/
def statusConfirm (c : Option ConfirmRecord) : List Byte :=
  encBatch (c.map (·.batch)) ++ encEdge (c.map (·.lower)) ++ encEdge (c.map (·.upper))
  ++ encOpt 4 (c.map (·.tolerance)) ++ encMark (c.map (·.lost)) ++ encMark (c.map (·.expiryHanded))

def channelStateCode : ChannelMode → Nat
  | .off => 0
  | .acquire => 1
  | .clean => 2
  | .watch => 3
  | .locked => 4
  | .departing => 5
  | .mixed => 6
  | .settling => 7
  | .excursion => 8

def holdRoleCode : HoldRole → Nat
  | .primary => 1
  | .confirming => 2

def decisionCode : Decision → Nat
  | .none => 0
  | .accept => 1
  | .reject => 2

/-- R80: the interface a channel reports as held, the active one before a waiting one, with its role [15]. -/
def reportedHold (c : ChannelState) : Nat × Nat :=
  match c.active, c.waiting with
  | some ho, _ => (ho.batch, holdRoleCode ho.role)
  | none, some ho => (ho.batch, holdRoleCode ho.role + 4)
  | none, none => (0, 0)

/-- The excursion record as a mark: 0 none, 1 open, 2 closed. -/
def recordCode : Option Excursion → Nat
  | none => 0
  | some x => if x.isOpen then 1 else 2

/-- R184: a density or fraction field, absent as all bits set. -/
def encOptNatural (k : Nat) : Option Int → List Byte
  | none => absentOnes k
  | some x => encNatural k x

/-- R184: a channel block of 39 bytes (R80). Where the channel holds no excursion record the record's numbers read all bits
set and its decision reads 0, the code of NONE, rather than all bits set [13]. -/
def encChannel (c : ChannelState) : List Byte :=
  enc1 (channelStateCode c.mode) ++ encUnsigned 4 (reportedHold c).1 ++ enc1 (reportedHold c).2
  ++ encOptNatural 2 (bodyMean c) ++ enc1 c.body.length ++ encOpt 2 (currentFraction c) ++ encOpt 8 c.depStart
  ++ enc1 (recordCode c.excursion) ++ encOpt 8 (c.excursion.map (·.start))
  ++ (match c.excursion with
      | none => absentOnes 2
      | some x => encSigned 2 x.deviation)
  ++ encOpt 8 (c.excursion.bind (·.endS)) ++ enc1 ((c.excursion.map (fun x => decisionCode x.decision)).getD 0)

/-- R184, bytes 168 to 197: the log, ATTN, the ticket and train counts and the link counts. -/
def statusLog (s : State) : List Byte :=
  encUnsigned 2 s.el.records.length ++ allClasses.flatMap (fun c => encUnsigned 2 (classCount s.el c))
  ++ encUnsigned 4 s.el.seq ++ encUnsigned 2 s.el.lost ++ encBool s.el.overflow ++ encBool s.el.attn ++ enc1 s.ts.length
  ++ enc1 s.lt.train.length ++ encUnsigned 2 s.li.badCrc ++ encUnsigned 2 s.li.dropped ++ encUnsigned 2 s.li.refusals

/-- R184: the status payload, part 0, 198 bytes. -/
def statusPayload (s : State) : List Byte :=
  statusStation s ++ statusPlan s.cp ++ statusWindow s.lt.window ++ statusConfirm s.lt.confirm ++ encUnsigned 8 s.lt.sLast
  ++ encUnsigned 4 s.lt.gap ++ encChannel s.sd.advance ++ encChannel s.sd.manifold ++ statusLog s

/-- R184: the flag bits of an action. -/
def actionFlagBits (f : ActionFlags) : Nat :=
  (if f.late then 1 else 0) + (if f.forced then 2 else 0) + (if f.volumetric then 4 else 0)
  + (if f.advanced then 8 else 0) + (if f.merged then 16 else 0)

/-- R184: an action entry of 17 bytes. -/
def encAction (a : Action) : List Byte :=
  encUnsigned 2 a.number ++ enc1 (actionKindNumber a.kind + 16 * ((a.channel.map channelNumber).getD 0))
  ++ encUnsigned 4 a.subject ++ encSigned 8 a.trigger ++ enc1 (routeSetCode a.routes) ++ enc1 (actionFlagBits a.flags)

/-- R184: parts 1 and 2. -/
def actionsPayload (xs : List Action) : List Byte := enc1 xs.length ++ xs.flatMap encAction

/-- READ_STATUS (R184). -/
def execReadStatus (part : Nat) (s : State) : Result :=
  request (fun s =>
    match part with
    | 0 => s.accept 0x01 (statusPayload s)
    | 1 => s.accept 0x01 (actionsPayload (s.cp.actions.take 8))
    | 2 => s.accept 0x01 (actionsPayload ((s.cp.actions.drop 8).take 8))
    | _ => s.refuse 0x01 .badValue 0) s

/-! ### READ TRAIN and READ BATCH (R26) -/

def batchStateCode : BatchState → Nat
  | .upstream => 0
  | .inLead => 1
  | .atManifold => 2
  | .complete => 3

/-- R184: the track state in a train summary. -/
def summaryTrack : Option Interface → Nat
  | none => 0
  | some i =>
    match i.track with
    | .far => 1
    | .window => 2
    | .anchored => 3
    | .volumetric => 4
    | .cleared => 5

/-- R184: the disposition kind and route of a train summary. -/
def summaryDisposition : Option Disposition → Nat × Nat
  | none => (0, 0)
  | some .pass => (1, 0)
  | some (.take r) => (2, routeNumber r)
  | some (.strip r _) => (3, routeNumber r)
  | some .transmixAll => (4, 0)

/-- R184: a train summary of 23 bytes. -/
def encSummary (t : List Entry) (e : Entry) : List Byte :=
  encUnsigned 4 e.id ++ enc1 e.product ++ enc1 (batchStateCode (batchState t e)) ++ enc1 (summaryTrack e.leading)
  ++ enc1 (methodCode (e.leading.bind (·.method))) ++ encUnsigned 8 e.reference ++ encUnsigned 4 (e.volume.getD 0)
  ++ enc1 (summaryDisposition e.disposition).1 ++ enc1 (summaryDisposition e.disposition).2
  ++ enc1 ((if e.launched.isNone then 1 else 0) + (if e.inherited then 2 else 0))

/-- READ_TRAIN (R26). -/
def execReadTrain (start : Nat) (s : State) : Result :=
  request (fun s =>
    if start < 1 ∨ Config.maxTrain < start then s.refuse 0x05 .badValue 0
    else
      s.accept 0x05 (enc1 s.lt.train.length
        ++ ((s.lt.train.drop (start - 1)).take 10).flatMap (encSummary s.lt.train))) s

def trackCode : TrackState → Nat
  | .far => 0
  | .window => 1
  | .anchored => 2
  | .volumetric => 3
  | .cleared => 4

/-- R26, R179: the confirmation result as READ BATCH codes it; 0 for absent and the listed results from 1 are the model's
own [13]. -/
def resultCode : Option ConfirmResult → Nat
  | none => 0
  | some .confirmed => 1
  | some .disagree => 2
  | some .noConfirm => 3

/-- R105, R179: the pair rule as a kind, its values in R105's order from 0. -/
def ruleIndex : PairRule → Nat
  | .toAhead => 0
  | .toBehind => 1
  | .split => 2
  | .transmix => 3

/-- R3, R89: a snapshot; each field absent where there is none. R179 wants the order of the list that defines it: the
model's choice is R3's list and then the four fields R89's sentence adds (primary channel, max mix, fd, fa), where
R89's own table has another order, and the primary channel is sent as its number, 0 for none [13]. -/
def encSnapshot : Option Snapshot → List Byte
  | none =>
    enc1 0 ++ absentOnes 2 ++ absentOnes 2 ++ absentOnes 4 ++ absentOnes 4 ++ absentOnes 2 ++ enc1 0
    ++ encDisposition none ++ encDisposition none ++ enc1 0 ++ absentOnes 4 ++ absentOnes 2 ++ absentOnes 2
  | some x =>
    enc1 (ruleIndex x.rule) ++ encUnsigned 2 x.h ++ encUnsigned 2 x.t ++ encUnsigned 4 x.mix ++ encUnsigned 4 x.halfwidth
    ++ encOpt 2 x.contrast ++ encBool x.lowContrast ++ encDisposition (some x.dispAhead)
    ++ encDisposition (some x.dispBehind) ++ enc1 ((x.primary.map channelNumber).getD 0) ++ encUnsigned 4 x.maxMix
    ++ encUnsigned 2 x.fd ++ encUnsigned 2 x.fa

/-- R3, R26: a leading interface record; each field absent for an inherited entry. The anchor method is coded as in the
train summary and the confirmation result likewise from 1, with 0 for absent, which R179 leaves open [13]. -/
def encInterface (i : Option Interface) : List Byte :=
  encOpt 8 (i.map (·.pos)) ++ enc1 ((i.map (fun i => trackCode i.track)).getD 0) ++ enc1 (methodCode (i.bind (·.method)))
  ++ encOptSigned 4 (i.bind (·.residual)) ++ enc1 ((i.map (·.standstills)).getD 0) ++ encSnapshot (i.bind (·.snapshot))
  ++ encOpt 8 (i.bind (·.crossings.h)) ++ encOpt 8 (i.bind (·.crossings.mid)) ++ encOpt 8 (i.bind (·.crossings.t))
  ++ encOpt 8 (i.bind (·.mfStart)) ++ enc1 (resultCode (i.bind (·.mfResult)))

/-- R25: a delivery record. -/
def encDelivery (d : Delivery) : List Byte :=
  allRoutes.flatMap (fun r => encUnsigned 8 (d.routes.get r)) ++ encUnsigned 8 d.unaccounted ++ encOpt 8 d.startS
  ++ encOpt 8 d.endS ++ encUnsigned 2 (ticketFlagBits d.flags)

/-- R3, R26: a whole entry. -/
def encEntry (t : List Entry) (e : Entry) : List Byte :=
  encUnsigned 4 e.id ++ enc1 e.product ++ encUnsigned 2 e.density ++ encOpt 4 e.launched ++ encSigned 4 e.adjust
  ++ encOpt 4 e.volume ++ enc1 (batchStateCode (batchState t e)) ++ encDisposition e.disposition ++ encBool e.inherited
  ++ encOpt 8 e.base ++ encInterface e.leading ++ encDelivery e.delivery

/-- READ_BATCH (R26). -/
def execReadBatch (id : Nat) (s : State) : Result :=
  request (fun s =>
    match findEntry id s.lt.train with
    | none => s.refuse 0x06 .notFound 0
    | some e => s.accept 0x06 (encEntry s.lt.train e)) s

/-! ### READ ROUTES (R143) -/

/-- R126, R179: the kind of a route, its values in R126's order from 0, where SET ROUTE codes them from 1; its product code,
0 where the kind has none, is the model's choice [13]. -/
def routeKindBytes : RouteKind → List Byte
  | .through => enc1 0 ++ enc1 0
  | .product c => enc1 1 ++ enc1 c
  | .transmix => enc1 2 ++ enc1 0

/-- R126: a route entry. -/
def encRouteEntry : Option RouteEntry → List Byte
  | none => enc1 0 ++ enc1 0 ++ encUnsigned 2 0 ++ encUnsigned 2 0 ++ enc1 0
  | some e => routeKindBytes e.kind ++ encUnsigned 2 e.travelLimit ++ encUnsigned 2 e.nominalTravel ++ enc1 e.faultLimit

def valveStateCode : ValveState → Nat
  | .closed => 0
  | .opening => 1
  | .opened => 2
  | .closing => 3
  | .unknown => 4
  | .fault => 5
  | .lockedOut => 6

/-- R128: the travel timer in whole seconds; absent while it is stopped. -/
def travelSeconds (ms : Nat) (v : Valve) : Option Nat := v.timerStart.map (fun t => (ms - t) / 1000)

/-- R143: which output of a route is driven; the codes 0 none, 1 OPEN and 2 CLOSE are the model's own [13]. -/
def drivenOutput (s : State) (r : RouteNo) : Nat :=
  if openOutput s r then 1 else if closeOutput s r then 2 else 0

/-- R143: one route. -/
def encRoute (s : State) (r : RouteNo) : List Byte :=
  encBool (s.tables.routes.get r).isSome ++ encRouteEntry (s.tables.routes.get r)
  ++ enc1 (((valveState s r).map valveStateCode).getD 0) ++ encBool (s.rc.limits.get r).opened
  ++ encBool (s.rc.limits.get r).closed ++ enc1 (drivenOutput s r)
  ++ enc1 (((s.rc.valves.get r).map (·.faults)).getD 0)
  ++ encOpt 4 ((s.rc.valves.get r).bind (travelSeconds s.clock.ms)) ++ encUnsigned 8 (stampOf s r)

/-- R136, R143: the phase of a switch, sent as its number, 1 or 2, and not as a code from 0, by the model's choice [13]. -/
def phaseNumber : Phase → Nat
  | .opening => 1
  | .closing => 2

/-- R143: the switch record, or a mark that there is none, its fields then 0 and its start S all bits set [13]. -/
def encSwitch : Option Switch → List Byte
  | none => encBool false ++ enc1 0 ++ encUnsigned 4 0 ++ enc1 0 ++ enc1 0 ++ encBool false ++ absentOnes 8
  | some w =>
    encBool true ++ enc1 (routeSetCode w.target) ++ encUnsigned 4 w.owner ++ enc1 (phaseNumber w.phase)
    ++ enc1 (routeSetCode w.commanded) ++ encBool w.abandon ++ encUnsigned 8 w.startS

/-- R143: RC's target and its owner, or a mark that there is none. -/
def encTarget : Option (List RouteNo × Nat) → List Byte
  | none => encBool false ++ enc1 0 ++ encUnsigned 4 0
  | some (rs, owner) => encBool true ++ enc1 (routeSetCode rs) ++ encUnsigned 4 owner

/-- READ_ROUTES (R143). -/
def execReadRoutes (s : State) : Result :=
  request (fun s => s.accept 0x04
    (allRoutes.flatMap (encRoute s) ++ enc1 (routeSetCode (openRoutes s)) ++ encTarget (target s)
      ++ encSwitch s.rc.switching ++ enc1 ((s.tables.params.safeRoute.map routeNumber).getD 0) ++ encBool s.rc.latch)) s

/-! ### READ CONFIGURATION (R183) -/

/-- R183: the header: the store's check, the save and the edited mark. -/
def configHeader (s : State) : List Byte :=
  encBool s.cs.image.isSome ++ encBool s.cs.saving.isSome ++ encBool s.li.edited

/-- R183: a product entry. -/
def encProduct (p : ProductRow) : List Byte :=
  enc1 p.code ++ p.entry.name ++ encUnsigned 2 p.entry.alpha ++ enc1 p.entry.rank ++ encUnsigned 2 p.entry.dmin
  ++ encUnsigned 2 p.entry.dmax

/-- R183: a pair entry with its codes. -/
def encPair (p : PairRow) : List Byte := enc1 p.ahead ++ enc1 p.behind ++ encPairFields p.entry

/-- R181: the 33 parameters in number order. -/
def paramValues (p : Params) : List Int :=
  ([p.unitAddress, p.leadVolume, p.pulseWeightInlet, p.pulseWeightDelivery, p.pulseLimitInlet, p.pulseLimitDelivery,
    p.fallbackInlet, p.fallbackDelivery, p.defaultAlpha, p.standstillFlow, p.standstillTime] : List Int)
  ++ ([p.resumeVolume, p.pollPeriod, p.responseTimeout, p.minContrast, p.bodyBand, p.fd, p.fa, p.hysteresis, p.holdVolume,
    p.settleVolume, p.minHalfwidth] : List Int)
  ++ ([p.toleranceRate, p.maxHalfwidth, p.gapParameter, p.volumetricFactor, p.confirmTolerance,
    (match p.defaultDisposition with
     | .pass => 1
     | .transmixAll => 2),
    p.minClean, ((p.safeRoute.map routeNumber).getD 0 : Nat), p.routingMask, p.watermark,
    if p.ticketAttention then 1 else 0] : List Int)

/-- R183: section 1: up to 12 defined products from a code upwards. -/
def productsFrom (t : Tables) (start : Nat) : List ProductRow :=
  (t.products.filter (fun p => decide (start ≤ p.code))).take 12

/-- R183: section 2: up to 10 entries from an index, the default pair at index 0. -/
def pairsFrom (t : Tables) (start : Nat) : List PairRow := ((⟨0, 0, t.defaultPair⟩ :: t.pairs).drop start).take 10

/-- READ_CONFIGURATION (R183). -/
def execReadConfiguration (part start : Nat) (s : State) : Result :=
  request (fun s =>
    match part with
    | 1 =>
      if start < 1 ∨ Config.maxProduct < start then s.refuse 0x36 .badValue 0
      else
        s.accept 0x36 (configHeader s ++ enc1 (productsFrom s.tables start).length
          ++ (productsFrom s.tables start).flatMap encProduct)
    | 2 =>
      if Config.maxPairs < start then s.refuse 0x36 .badValue 0
      else
        s.accept 0x36 (configHeader s ++ enc1 (pairsFrom s.tables start).length
          ++ (pairsFrom s.tables start).flatMap encPair)
    | 3 => s.accept 0x36 (configHeader s ++ (paramValues s.tables.params).flatMap (encSigned 4))
    | _ => s.refuse 0x36 .badValue 0) s

end Sys2Proof.Machine
end

