-- ==== Sys2Proof/Machine/Starts.lean ====
section
/-! DEFINITION. Starts.lean: power, RSTIN, the requested starts, what each block takes up at a start, and the end of a start
(R27, R28, R45, R46, R61, R81, R102, R125, R144, R152 to R156, R167, R174, R185). -/

namespace Sys2Proof.Machine

/-! ### What each block takes up -/

/-- R156: the working tables a start loads: the image while its check is good, else the factory values. -/
def loadedTables (s : State) : Tables := s.cs.image.getD .factory

/-- R156: the mode a start decides. -/
def decidedMode (s : State) : StationMode :=
  match s.cs.image with
  | some t => if missingMask t = 0 then .hold else .unconfigured
  | none => .unconfigured

/-- R45, R46: a meter after a start; a warm start keeps totalisers and residue. -/
def startMeter (k : StartKind) (m : Meter) : Meter :=
  match k with
  | .cold => .zero
  | .warm => { Meter.zero with gross := m.gross, std := m.std, residue := m.residue }

/-- R45, R46: the Meter Unit after a start. -/
def startMeters (k : StartKind) (mu : MeterUnit) : MeterUnit :=
  ⟨startMeter k mu.inlet, startMeter k mu.delivery, .standstill, 0, 0, mu.periodDue⟩

/-- R81: the mode of a channel after a start. -/
def startChannelMode (t : Tables) (ch : Channel) : ChannelMode :=
  if (slotOfRole t (roleOfChannel ch)).isSome then .acquire else .off

/-- R28, step 1: an interface in WINDOW returns to FAR. -/
def startInterface (i : Interface) : Interface :=
  if i.track = .window then
    { i with
      track := .far, snapshot := none, crossings := .all none, supplied := .all false, mfStart := none, mfResult := none }
  else i

/-- R28: the train after a warm start. -/
def startTrain (t : List Entry) : List Entry :=
  rederive (t.map (fun e => { e with leading := e.leading.map startInterface }))

/-- R18, R27, R28, R102: the Line Tracker after a start, with the S standing. -/
def startTracker (k : StartKind) (gap now : Nat) (lt : LineTracker) : LineTracker :=
  match k with
  | .cold => { LineTracker.cold with curS := now }
  | .warm => ⟨startTrain lt.train, lt.sLast, gap, now, none, none⟩

/-- R125: an action a warm start keeps. -/
def keptAction (a : Action) : Bool := a.kind == .divert || a.kind == .enter

/-- R125: the Cut Planner after a start, before the RETURN of step 2. -/
def startPlanner (k : StartKind) (m : StationMode) (now : Nat) (cp : CutPlanner) : CutPlanner :=
  match k with
  | .cold => { CutPlanner.cold with curS := now }
  | .warm =>
    { actions := if m = .unconfigured then [] else cp.actions.filter keptAction
      nextNum := cp.nextNum
      plan := if m = .unconfigured then none else cp.plan
      protectCount := .all 0
      protectedMark := .all none
      orphans := .all 0
      curS := now }

/-- R144: the valve record of a defined route as a start takes it up, before its limits are read [19]. A warm start keeps
the state LOCKED_OUT and the fault count; the open stamp is 0 until the route next enters OPEN [59]. -/
def startValve (k : StartKind) (v : Option Valve) : Valve :=
  match k, v with
  | .warm, some v => ⟨if v.state = .lockedOut then .lockedOut else .unknown, v.faults, none, 0, 0⟩
  | _, _ => newValve

/-- R144: the Route Controller as a start takes it up. -/
def startRoutes (k : StartKind) (t : Tables) (rc : RouteController) : RouteController where
  valves := PerRoute.build (fun r => (t.routes.get r).map (fun _ => startValve k (rc.valves.get r)))
  limits := rc.limits
  openOrder := 0
  switching := none
  latch := false

/-- R167: the Ticket Store after a start. -/
def startTickets (k : StartKind) (ts : List Ticket) : List Ticket :=
  match k with
  | .cold => []
  | .warm => ts

/-- R174, R172: the Event Log after a start; ATTN is released while it is under way. -/
def startLog (k : StartKind) (el : EventLog) : EventLog :=
  match k with
  | .cold => ⟨[], 0, 0, false, false⟩
  | .warm => { el with attn := false }

/-- R157: the station clock after a start. -/
def startClock (c : StartCause) (k : Clock) : Clock :=
  match c with
  | .powerOn => ⟨0, 0, 0, false⟩
  | .rstin => k
  | .request => k

/-- Whether a hand-off is a posted event. -/
def isPost (i : Instr) : Bool :=
  match i with
  | .eventPosted _ _ _ => true
  | _ => false

/-- [18]: what is on its way between the blocks when a start is taken: nothing of it is taken, but for events already
posted, which a warm start of a powered unit leaves to the log it keeps. -/
def startHanded (k : StartKind) (c : StartCause) (xs : List Instr) : List Instr :=
  match k, c with
  | .warm, .rstin => xs.filter isPost
  | .warm, .request => xs.filter isPost
  | _, _ => []

/-- R46: the INLET pulses discarded from the open period, 0 after a power-on. -/
def discardedPulses (c : StartCause) (s : State) : Nat :=
  match c with
  | .powerOn => 0
  | .rstin => s.mu.inlet.pulses
  | .request => s.mu.inlet.pulses

/-- R155, step 3: the start's event. -/
def startEvent : StartKind → EventKind
  | .cold => .startCold
  | .warm => .startWarm

/-- R154: every block takes up its state for the kind of start. -/
def takeUp (k : StartKind) (c : StartCause) (s : State) : State :=
  let t := loadedTables s
  let m := decidedMode s
  let mu := startMeters k s.mu
  let now := mu.inlet.std / 1000
  { powered := s.powered
    rstin := s.rstin
    clock := startClock c s.clock
    tables := t
    cs := ⟨s.cs.image, none⟩
    mu := mu
    ip := ⟨.all .start, none, false, false, s.ip.tickDue, []⟩
    sd := ⟨.start (startChannelMode t .advance) now, .start (startChannelMode t .manifold) now⟩
    lt := startTracker k t.params.gapParameter now s.lt
    cp := startPlanner k m now s.cp
    rc := startRoutes k t s.rc
    sm := { s.sm with mode := m, kind := k, cause := c, starting := true, requested := none }
    ts := startTickets k s.ts
    el := startLog k s.el
    li := ⟨.closed, 0, 0, 0, t.params.unitAddress, none, s.cs.image.isNone⟩
    handed := startHanded k c s.handed
    pending := s.pending }

/-- R155, R46: the start's event, and TRACKING_GAP after a warm start. -/
def postStart (k : StartKind) (c : StartCause) (gap : Nat) (s : State) : State :=
  let s1 := s.post (startEvent k) (startCauseCode c) (modeCode s.sm.mode)
  match k with
  | .cold => s1
  | .warm => s1.post .trackingGap 0 gap

/-- R125, step 2: the RETURN a warm start schedules where the plan line-up is of kind PROTECT. -/
def scheduleReturn (s : State) : State :=
  match s.cp.plan with
  | none => s
  | some p =>
    if p.kind = .protect then
      placeAction .routeController
        { number := s.cp.nextNum
          kind := .return_
          subject := 0
          trigger := (s.cp.curS : Int) + s.tables.params.settleVolume
          lineup := .bodyOfManifold
          routes := formLineup s .bodyOfManifold
          flags := .none
          channel := none } false (takeNumber s)
    else s

/-- R81, R125, step 3: an ANCHORED interface is given volumetric points for its open levels at a warm start; they are
scheduled in the start itself, so that its end finds them in the list. -/
def startSupply (s : State) (id : Nat) : State :=
  match interfaceOf id s.lt.train with
  | some i =>
    if i.track = .anchored then
      supplyWith (fun ps => planning (pointsToPlanner id .routeController ps)) id i.pos (.all none) s
    else s
  | none => s

/-- R81: the points of every ANCHORED interface, at a warm start. -/
def startSupplies (k : StartKind) (s : State) : State :=
  match k with
  | .cold => s
  | .warm => (s.lt.train.map (·.id)).foldl startSupply s

/-- The end of a start is reached once RSTIN is released (R155). -/
def handEnd (s : State) : State := if s.rstin then s else s.hand .startEnd

/-- R153 to R156: a start is taken. -/
def takeStart (k : StartKind) (c : StartCause) (s : State) : State :=
  handEnd (startSupplies k (scheduleReturn (postStart k c (discardedPulses c s) (takeUp k c s))))

/-! ### Power and RSTIN (R152, R153) -/

/-- R152, R153: the power-on test and the start it decides. -/
def powerOn (backupLost : Bool) (s : State) : State :=
  let valid := s.sm.check && !backupLost
  takeStart (if valid then .warm else .cold) .powerOn
    { s with powered := true, sm := { s.sm with check := valid, powerOnTest := valid } }

/-- POWER_ON (R152, R153). -/
def execPowerOn (backupLost : Bool) (s : State) : Result :=
  .next (if s.powered then s.take (.powerOn backupLost) else powerOn backupLost (s.take (.powerOn backupLost)))

/-- R152, R154, R177: power fails: what is in flight ends; a loss in the middle of a change leaves the check invalid. -/
def powerLoss (midChange : Bool) (s : State) : State :=
  { s with
    powered := false
    cs := ⟨s.cs.image, none⟩
    sm := { s.sm with check := s.sm.check && !midChange, starting := false, requested := none }
    el := { s.el with attn := false }
    li := { s.li with assembler := .closed, reply := none }
    handed := [] }

/-- POWER_LOSS (R152). -/
def execPowerLoss (midChange : Bool) (s : State) : Result :=
  .next (if s.powered then powerLoss midChange s else s.take (.powerLoss midChange))

/-- R153: RSTIN changes from released to asserted. -/
def rstinAsserted (s : State) : State :=
  let s1 := { s with rstin := true }
  if s.powered && !s.rstin then takeStart .warm .rstin s1 else s1

/-- RSTIN_ASSERTED (R153). -/
def execRstinAsserted (s : State) : Result := .next (rstinAsserted (s.take .rstinAsserted))

/-- R153, R155: RSTIN is released; a start under way may end. -/
def rstinReleased (s : State) : State :=
  let s1 := { s with rstin := false }
  if s.powered && s.rstin && s.sm.starting then s1.hand .startEnd else s1

/-- RSTIN_RELEASED (R153, R155). -/
def execRstinReleased (s : State) : Result := .next (rstinReleased (s.take .rstinReleased))

/-! ### Requested starts (R153) -/

/-- WARM_START (R153): accepted in every mode; the start is taken once the acceptance has been sent. -/
def execWarmStart (s : State) : Result :=
  request (fun s => ({ s with sm := { s.sm with requested := some .warm } }).accept 0x24 []) s

/-- COLD_START (R153): accepted in HOLD or UNCONFIGURED. -/
def execColdStart (s : State) : Result :=
  request (fun s =>
    if s.sm.mode = .hold ∨ s.sm.mode = .unconfigured then
      ({ s with sm := { s.sm with requested := some .cold } }).accept 0x25 []
    else s.refuse 0x25 .wrongMode 0) s

/-- The start an accepted request asked for is taken. -/
def requestedStart (s : State) : State :=
  match s.sm.requested with
  | some k => takeStart k .request s
  | none => s

/-- REQUESTED_START_TAKEN (R153). -/
def execRequestedStartTaken (s : State) : Result := event .requestedStartTaken requestedStart s

/-! ### The end of a start (R155) -/

/-- R144, step 2: a route that is not LOCKED_OUT takes its state from its limits, in route-number order. -/
def startPosition (s : State) (r : RouteNo) : State :=
  match valveState s r with
  | none => s
  | some .lockedOut => s
  | some _ => positionFromLimits r s

/-- R152, R155: the start is over: the check is valid, the assembler hunts, the first period and the first poll tick
begin. -/
def openWork (s : State) : State :=
  ({ s with
    sm := { s.sm with check := true, starting := false }
    li := { s.li with assembler := .hunting }
    mu := { s.mu with periodDue := s.clock.ms + 1000 }
    ip := { s.ip with tickDue := s.clock.ms + s.tables.params.pollPeriod } }).hand .pollTick

/-- R155: the end of a start is handed to the blocks that act on it. -/
def startEnd (s : State) : State :=
  judgeAttn (completionCheck (compare (openWork (allRoutes.foldl startPosition s))))

/-- START_END (R155): while a start is under way and RSTIN is released. -/
def execStartEnd (s : State) : Result :=
  .next (if s.powered && s.sm.starting && !s.rstin then startEnd (s.take .startEnd) else s.take .startEnd)

end Sys2Proof.Machine
end

