-- ==== Sys2Proof/Machine/HostFrame.lean ====
section
/-! DEFINITION. HostFrame.lean: the Link Interface: frames collected byte by byte, judged and dispatched, gaps, overlong lengths, and the end
of a reply (R175 to R177). -/

namespace Sys2Proof.Machine

/-- The state a meaning goes on to. -/
def nextOf (r : Result) (s : State) : State :=
  match r with
  | .next t => t
  | .fault _ => s
  | .refused _ => s

/-- R177, step 3: a request is handed to the rule that owns it; a command that is no request is none of the catalogue's
(R178). -/
def runRequest (i : Instr) (s : State) : Result :=
  match i with
  | .readStatus p => execReadStatus p s
  | .readMeters => execReadMeters s
  | .readInstruments => execReadInstruments s
  | .readRoutes => execReadRoutes s
  | .readTrain i => execReadTrain i s
  | .readBatch id => execReadBatch id s
  | .readEvents n => execReadEvents n s
  | .readTicket id => execReadTicket id s
  | .ackTicket id => execAckTicket id s
  | .batchLaunch id p d l => execBatchLaunch id p d l s
  | .batchClose id l => execBatchClose id l s
  | .batchAdjust id c => execBatchAdjust id c s
  | .batchPlan id k r v => execBatchPlan id k r v s
  | .batchWithdraw id => execBatchWithdraw id s
  | .interfaceDecide c d => execInterfaceDecide c d s
  | .setMode c => execSetMode c s
  | .valveCommand r c => execValveCommand r c s
  | .clearLockout r => execClearLockout r s
  | .setTime n => execSetTime n s
  | .warmStart => execWarmStart s
  | .coldStart => execColdStart s
  | .setParameter n v => execSetParameter n v s
  | .setProduct c o name a r lo hi => execSetProduct c o name a r lo hi s
  | .setPair a b o r h t bm g mm => execSetPair a b o r h t bm g mm s
  | .setRoute r o k p tl nt fl => execSetRoute r o k p tl nt fl s
  | .setSlot k r a e rg rt st rl ft rc => execSetSlot k r a e rg rt st rl ft rc s
  | .saveConfiguration => execSaveConfiguration s
  | .readConfiguration p i => execReadConfiguration p i s
  | _ => .next s

/-- R177: the dispatch of a request frame's class and payload. -/
def dispatchRequest (cls : Nat) (payload : List Byte) (s : State) : State :=
  match decodeRequest cls payload with
  | .unknownRequest => s.refuse cls .unknownRequest 0
  | .badLength n => s.refuse cls .badLength n
  | .request i => nextOf (runRequest i s) s

def setAssembler (a : Assembler) (s : State) : State := { s with li := { s.li with assembler := a } }

/-- R176: a partial frame is dropped, counted, and the assembler hunts. -/
def dropFrame (s : State) : State :=
  { s with li := { s.li with assembler := .hunting, dropped := satInc Config.count16Max s.li.dropped } }

/-- R176, 3: a frame whose CRC does not match. -/
def badCrcFrame (s : State) : State :=
  { s with li := { s.li with assembler := .hunting, badCrc := satInc Config.count16Max s.li.badCrc } }

/-- R176, 3: the CRC over address, length, class and payload matches. -/
def frameCrcOk (bs : List Byte) : Bool :=
  field bs (bs.length - 2) 2 == (crc16 (fieldBytes bs 1 (bs.length - 3))).toNat

/-- R176, 3 to 5: a frame collected whole is judged, with the assembler hunting again: CRC, address, request. -/
def judgeFrame (bs : List Byte) (s : State) : State :=
  if frameCrcOk bs = false then badCrcFrame s
  else if field bs 1 1 ≠ s.li.unitAddr then s
  else dispatchRequest (field bs 3 1) (fieldBytes bs 4 (field bs 2 1)) s

/-- R176: the bytes `bs` of a frame have been collected: a length byte above 240 drops it, and its last CRC byte brings it
to judgement. -/
def collect (bs : List Byte) (s : State) : State :=
  if bs.length = 3 ∧ 240 < field bs 2 1 then dropFrame s
  else if bs.length = field bs 2 1 + 6 then judgeFrame bs (setAssembler .hunting s)
  else setAssembler (.collecting bs) s

/-- R176: a byte arrives on the host line: hunting for a start byte 0xC3, collecting, or closed. -/
def hostByte (s : State) (b : Byte) : State :=
  match s.li.assembler with
  | .hunting => if b = 0xC3#8 then collect [b] s else s
  | .collecting bs => collect (bs ++ [b]) s
  | .closed => s

/-- R176: bytes arrive on the host line, one after another. -/
def receiveBytes (bs : List Byte) (s : State) : State := bs.foldl hostByte s

/-- HOST_FRAME (R176, R177): the bytes of a frame, of a part of one, or of several. -/
def execHostFrame (bs : List Byte) (s : State) : Result := event (.hostFrame bs) (receiveBytes bs) s

/-- R176: what ends a frame being collected has no effect while none is. -/
def whileCollecting (k : State → State) (s : State) : State :=
  match s.li.assembler with
  | .collecting _ => k s
  | .hunting => s
  | .closed => s

/-- FRAME_GAP_TIMEOUT (R176, 2). -/
def execFrameGapTimeout (s : State) : Result := event .frameGapTimeout (whileCollecting dropFrame) s

/-- OVERLONG_LENGTH_RECEIVED (R176, 1). -/
def execOverlongLengthReceived (s : State) : Result := event .overlongLengthReceived (whileCollecting dropFrame) s

/-- R175: the frame of the reply being sent, with the unit address in use. -/
def replyFrame (s : State) : Option (List Byte) := s.li.reply.map (fun r => frame s.li.unitAddr r.cls r.payload)

/-- R176: the last byte of the reply has been sent: the assembler hunts and a changed unit address takes effect; the start
an accepted request asked for may then be taken (R153). -/
def replySent (s : State) : State :=
  match s.li.reply with
  | none => s
  | some _ =>
    let s1 := { s with li := { s.li with
      assembler := .hunting, reply := none, unitAddr := s.tables.params.unitAddress } }
    if s.sm.requested.isSome then s1.hand .requestedStartTaken else s1

/-- REPLY_SENT (R153, R176). -/
def execReplySent (s : State) : Result := event .replySent replySent s

end Sys2Proof.Machine
end

