-- ==== Sys2Proof/Machine/Clock.lean ====
section
/-! DEFINITION. Clock.lean: one millisecond of the station clock, the idle step of the machine [2] (R30, R49, R52, R132,
R157). -/

namespace Sys2Proof.Machine

/-- R157: the clock one millisecond later. -/
def advanceClock (c : Clock) : Clock :=
  if c.milli < 999 then { c with ms := c.ms + 1, milli := c.milli + 1 }
  else { c with ms := c.ms + 1, milli := 0, seconds := wrapInc32 c.seconds }

/-- R30: the meter period closes every 1000 ms. -/
def duePeriod (s : State) : State :=
  if s.mu.periodDue ≤ s.clock.ms then
    ({ s with mu := { s.mu with periodDue := s.mu.periodDue + 1000 } }).hand .meterPeriodClose
  else s

/-- R49: the poll tick falls due every poll period. -/
def dueTick (s : State) : State :=
  if s.ip.tickDue ≤ s.clock.ms then
    (s.setPoller { s.ip with tickDue := s.ip.tickDue + s.tables.params.pollPeriod }).hand .pollTick
  else s

/-- R52: the response timeout runs out. -/
def dueTimeout (s : State) : State :=
  if timeoutOut s then s.hand .responseTimeout else s

/-- R132: the expiries that fall due, in route-number order. -/
def dueExpiries (s : State) : State :=
  allRoutes.foldl (fun s r => if timerOut s.clock.ms (s.rc.valves.get r) then s.hand (.valveTravelExpiry r) else s) s

/-- One millisecond: nothing without power; in a start the clock alone runs (R153). -/
def tick (s : State) : State :=
  if s.powered then
    let s1 := { s with clock := advanceClock s.clock }
    if s.sm.starting then s1 else dueExpiries (dueTimeout (dueTick (duePeriod s1)))
  else s

end Sys2Proof.Machine
end

