-- ==== Sys2Proof/Machine/Dispatch.lean ====
section
/-! DEFINITION. Dispatch.lean: one meaning for each command. -/

namespace Sys2Proof.Machine

def exec (i : Instr) (s : State) : Host.Outcome State Fault Refusal :=
  match i with
  | .readStatus part => Sys2Proof.Machine.execReadStatus part s
  | .readMeters => Sys2Proof.Machine.execReadMeters s
  | .readInstruments => Sys2Proof.Machine.execReadInstruments s
  | .readRoutes => Sys2Proof.Machine.execReadRoutes s
  | .readTrain start => Sys2Proof.Machine.execReadTrain start s
  | .readBatch id => Sys2Proof.Machine.execReadBatch id s
  | .readEvents max => Sys2Proof.Machine.execReadEvents max s
  | .readTicket id => Sys2Proof.Machine.execReadTicket id s
  | .ackTicket id => Sys2Proof.Machine.execAckTicket id s
  | .batchLaunch id product density launched => Sys2Proof.Machine.execBatchLaunch id product density launched s
  | .batchClose id launched => Sys2Proof.Machine.execBatchClose id launched s
  | .batchAdjust id change => Sys2Proof.Machine.execBatchAdjust id change s
  | .batchPlan id kind route volume => Sys2Proof.Machine.execBatchPlan id kind route volume s
  | .batchWithdraw id => Sys2Proof.Machine.execBatchWithdraw id s
  | .interfaceDecide channel decision => Sys2Proof.Machine.execInterfaceDecide channel decision s
  | .setMode code => Sys2Proof.Machine.execSetMode code s
  | .valveCommand route command => Sys2Proof.Machine.execValveCommand route command s
  | .clearLockout route => Sys2Proof.Machine.execClearLockout route s
  | .setTime seconds => Sys2Proof.Machine.execSetTime seconds s
  | .warmStart => Sys2Proof.Machine.execWarmStart s
  | .coldStart => Sys2Proof.Machine.execColdStart s
  | .requestedStartTaken => Sys2Proof.Machine.execRequestedStartTaken s
  | .setParameter number value => Sys2Proof.Machine.execSetParameter number value s
  | .setProduct code op name alpha rank dmin dmax => Sys2Proof.Machine.execSetProduct code op name alpha rank dmin dmax s
  | .setPair ahead behind op rule h t baseMix growth maxMix => Sys2Proof.Machine.execSetPair ahead behind op rule h t baseMix growth maxMix s
  | .setRoute route op kind product travel nominal faultLimit => Sys2Proof.Machine.execSetRoute route op kind product travel nominal faultLimit s
  | .setSlot slot role address enable range rate status rateLimit failThreshold recoveryCount => Sys2Proof.Machine.execSetSlot slot role address enable range rate status rateLimit failThreshold recoveryCount s
  | .saveConfiguration => Sys2Proof.Machine.execSaveConfiguration s
  | .readConfiguration part start => Sys2Proof.Machine.execReadConfiguration part start s
  | .saveWriteVerified => Sys2Proof.Machine.execSaveWriteVerified s
  | .saveWriteFailed => Sys2Proof.Machine.execSaveWriteFailed s
  | .hostFrame bytes => Sys2Proof.Machine.execHostFrame bytes s
  | .frameGapTimeout => Sys2Proof.Machine.execFrameGapTimeout s
  | .replySent => Sys2Proof.Machine.execReplySent s
  | .meterPulse m => Sys2Proof.Machine.execMeterPulse m s
  | .meterPeriodClose => Sys2Proof.Machine.execMeterPeriodClose s
  | .standstillCountRaise => Sys2Proof.Machine.execStandstillCountRaise s
  | .ltSAdvance newS => Sys2Proof.Machine.execLtSAdvance newS s
  | .cpSAdvance newS first => Sys2Proof.Machine.execCpSAdvance newS first s
  | .periodIncrementBooking inlet delivery => Sys2Proof.Machine.execPeriodIncrementBooking inlet delivery s
  | .bookingStripCheck => Sys2Proof.Machine.execBookingStripCheck s
  | .pollTick => Sys2Proof.Machine.execPollTick s
  | .pollRequestSent => Sys2Proof.Machine.execPollRequestSent s
  | .instrumentResponse bytes => Sys2Proof.Machine.execInstrumentResponse bytes s
  | .responseTimeout => Sys2Proof.Machine.execResponseTimeout s
  | .channelReading ch value quality tag => Sys2Proof.Machine.execChannelReading ch value quality tag s
  | .channelSAdvance ch newS => Sys2Proof.Machine.execChannelSAdvance ch newS s
  | .channelSlotLost ch => Sys2Proof.Machine.execChannelSlotLost ch s
  | .channelSlotRecovered ch => Sys2Proof.Machine.execChannelSlotRecovered ch s
  | .channelInterfaceHanded ch ho => Sys2Proof.Machine.execChannelInterfaceHanded ch ho s
  | .channelWindowExpiry ch batch => Sys2Proof.Machine.execChannelWindowExpiry ch batch s
  | .channelRelease ch batch => Sys2Proof.Machine.execChannelRelease ch batch s
  | .anchorHanded batch value source => Sys2Proof.Machine.execAnchorHanded batch value source s
  | .crossingToLineTracker ch batch level at_ => Sys2Proof.Machine.execCrossingToLineTracker ch batch level at_ s
  | .crossingToCutPlanner ch batch level at_ forced first => Sys2Proof.Machine.execCrossingToCutPlanner ch batch level at_ forced first s
  | .volumetricPointsToCutPlanner batch points first => Sys2Proof.Machine.execVolumetricPointsToCutPlanner batch points first s
  | .missReturned ch batch => Sys2Proof.Machine.execMissReturned ch batch s
  | .channelLostReport ch batch => Sys2Proof.Machine.execChannelLostReport ch batch s
  | .channelLeftOffReport ch => Sys2Proof.Machine.execChannelLeftOffReport ch s
  | .lowContrastReport ch batch role contrast => Sys2Proof.Machine.execLowContrastReport ch batch role contrast s
  | .confirmDepartureHanded batch start => Sys2Proof.Machine.execConfirmDepartureHanded batch start s
  | .manifoldPrimaryCeased => Sys2Proof.Machine.execManifoldPrimaryCeased s
  | .earlyDisagreeAdvance batch first => Sys2Proof.Machine.execEarlyDisagreeAdvance batch first s
  | .excursionStartHanded ch start first => Sys2Proof.Machine.execExcursionStartHanded ch start first s
  | .excursionEndHanded ch endS decision first => Sys2Proof.Machine.execExcursionEndHanded ch endS decision first s
  | .actionLeftList subject => Sys2Proof.Machine.execActionLeftList subject s
  | .switchEndHanded => Sys2Proof.Machine.execSwitchEndHanded s
  | .safeDemand route cause => Sys2Proof.Machine.execSafeDemand route cause s
  | .holdDemand => Sys2Proof.Machine.execHoldDemand s
  | .valveLimitChange route opened closed => Sys2Proof.Machine.execValveLimitChange route opened closed s
  | .valveTravelExpiry route => Sys2Proof.Machine.execValveTravelExpiry route s
  | .eventPosted kind subject detail => Sys2Proof.Machine.execEventPosted kind subject detail s
  | .powerOn backupLost => Sys2Proof.Machine.execPowerOn backupLost s
  | .powerLoss midChange => Sys2Proof.Machine.execPowerLoss midChange s
  | .rstinAsserted => Sys2Proof.Machine.execRstinAsserted s
  | .rstinReleased => Sys2Proof.Machine.execRstinReleased s
  | .startEnd => Sys2Proof.Machine.execStartEnd s
  | .overlongLengthReceived => Sys2Proof.Machine.execOverlongLengthReceived s

end Sys2Proof.Machine
end

