-- ==== Sys2Proof/Machine/Step.lean ====
section
/-! DEFINITION. Step.lean: one step of the machine: the command at the front of the queue, or, with none waiting, the oldest
hand-off between the blocks, or a millisecond of the clock. -/

namespace Sys2Proof.Machine

/-- The step. A hand-off stands in the list until its own meaning takes it [1]; with no command and no hand-off the clock
runs [2]. -/
def step (s : State) : Host.Outcome State Fault Refusal :=
  match s.pending with
  | c :: rest => exec c { s with pending := rest }
  | [] =>
    match s.handed with
    | i :: _ => exec i s
    | [] => .next (tick s)

/-- The state with the command a table word spells at the front of its queue; unchanged where the word spells none [3]. -/
def State.withFetchWord (s : State) (nbits w : Nat) : State :=
  match decodeTableWord nbits w with
  | some c => { s with pending := c :: s.pending }
  | none => s

end Sys2Proof.Machine
end

