-- ==== Sys2Proof/Safety.lean ====
section
/-! DEFINITION. Safety.lean: what the statements about every step claim: the capacities of 00_scope.md, the ATTN law of
R172, the order and the derived positions of the train (R3, R6, R10, R24), the ranges of the counts, the shape of the
lists, and the switch's make before break (R129, R136, R137). -/

namespace Sys2Proof

open Sys2Proof.Machine

/-- R3, R159, R168, R112: no more than 48 entries, 32 tickets, 256 unread records and 16 actions. -/
def Safety.Capacity (s : State) : Prop :=
  s.lt.train.length ≤ Config.maxTrain ∧ s.ts.length ≤ Config.maxTickets ∧ s.el.records.length ≤ Config.maxEvents
  ∧ s.cp.actions.length ≤ Config.maxActions

/-- R172: ATTN is asserted exactly while one of its three grounds holds, and released without power and through a start. -/
def Safety.AttnLaw (s : State) : Prop := s.el.attn = (s.running && attnWanted s)

/-- R3: no batch ID appears twice among the train entries and the tickets held together. -/
def Safety.UniqueIds (s : State) : Prop := (s.lt.train.map (·.id) ++ s.ts.map (·.id)).Nodup

/-- R3, R10, R24: IDs once, no entry open but the back one, and the COMPLETE entries ahead of all others. -/
def Safety.TrainLaws (s : State) : Prop :=
  Safety.UniqueIds s ∧ (∀ e ∈ s.lt.train.dropLast, e.launched.isSome)
  ∧ s.lt.train.Pairwise (fun a b => b.complete = true → a.complete = true)

/-- R6: a FAR leading interface stands at the reference position plus the expected volume of the entry ahead. -/
def Safety.DerivedBehind (ahead e : Entry) : Prop :=
  ∀ i v, e.leading = some i → i.track = .far → ahead.volume = some v → i.pos = ahead.reference + v

/-- R6 for every FAR leading interface of a train. -/
def Safety.Derived : List Entry → Prop
  | [] => True
  | [_] => True
  | a :: e :: rest => Safety.DerivedBehind a e ∧ Safety.Derived (e :: rest)

/-- R128, R133: no valve fault count exceeds 7. -/
def Safety.FaultCounts (s : State) : Prop := ∀ r v, s.rc.valves.get r = some v → v.faults ≤ 7

/-- R47: no failure threshold of some working tables exceeds 15. -/
def Safety.Thresholds (tb : Tables) : Prop := ∀ k, (tb.slots.get k).failThreshold ≤ 15

/-- R58: no slot health counter exceeds 15, and no threshold that bounds one, now or after a start or a save, does. -/
def Safety.HealthCounts (s : State) : Prop :=
  (∀ k, (s.ip.slots.get k).health ≤ 15) ∧ Safety.Thresholds s.tables ∧ (∀ tb, s.cs.image = some tb → Safety.Thresholds tb)
  ∧ (∀ tb, s.cs.saving = some tb → Safety.Thresholds tb)

/-- R36, R42, R58, R128, R112, R170, R176: the residues, standstill counts, slot health counters, fault counts, action
numbers, the lost count and the link counts lie in their ranges. -/
def Safety.Ranges (s : State) : Prop :=
  s.mu.inlet.residue < 1000000 ∧ s.mu.delivery.residue < 1000000
  ∧ (∀ e ∈ s.lt.train, ∀ i, e.leading = some i → i.standstills ≤ 255)
  ∧ Safety.HealthCounts s ∧ Safety.FaultCounts s ∧ 1 ≤ s.cp.nextNum ∧ s.cp.nextNum ≤ 65535 ∧ s.el.lost ≤ Config.count16Max
  ∧ s.li.badCrc ≤ Config.count16Max ∧ s.li.dropped ≤ Config.count16Max ∧ s.li.refusals ≤ Config.count16Max

/-- R62: the body window and the settle buffer hold at most 16 readings and the acquire run at most 4. -/
def Safety.Buffers (s : State) : Prop :=
  ∀ c, (s.sd.get c).body.length ≤ Config.bodyCap ∧ (s.sd.get c).settleBuf.length ≤ Config.bodyCap
    ∧ (s.sd.get c).acquire.length ≤ Config.acquireCount

/-- R112: the cut action list is ordered by trigger, lowest first. -/
def Safety.Ordered (s : State) : Prop := s.cp.actions.Pairwise (fun a b => a.trigger ≤ b.trigger)

/-- R136, R137, R138, R144: a switch has a target; in phase 1, while it is to go on, each route of the target that is not
still on its way is OPEN; in MANUAL a switch in progress is marked to be abandoned; a start leaves no switch. -/
def Safety.SwitchSound (s : State) : Prop :=
  (s.sm.starting = true → s.rc.switching = none)
  ∧ ∀ w, s.rc.switching = some w →
    w.target ≠ []
    ∧ (s.sm.mode = .manual → w.abandon = true)
    ∧ (w.phase = .opening → w.abandon = false →
        ∀ r ∈ w.target, (w.commanded.contains r = true → w.arrived.contains r = true) → valveIs s r .opened = true)

/-- A route other than `r` is OPEN. -/
def Safety.OtherOpen (s : State) (r : RouteNo) : Prop := ∃ x, x ≠ r ∧ valveIs s x .opened = true

end Sys2Proof
end

