-- ==== Sys2Proof/Certificates/Slice0/Obligations.lean ====
section
/-! DEFINITION. Obligations.lean: the statements about the model, for the provers. A number in square brackets names the
log entry of a choice of the model's own. -/

open Sys2Proof Sys2Proof.Machine

/-! ### The step -/

/-- With a command at the front of the queue a step is that command's meaning on the state with the rest of the queue;
with the queue empty it is the meaning of the oldest hand-off [1], and with no hand-off either it is one millisecond
of the clock [2]. The model's choice: the spec names no queue. -/
def Obligations.StepTakesTheFrontCommand : Prop :=
  (∀ (c : Instr) (rest : List Instr) (s : State),
    step { s with pending := c :: rest } = exec c { s with pending := rest })
  ∧ (∀ (i : Instr) (rest : List Instr) (s : State), s.pending = [] → s.handed = i :: rest → step s = exec i s)
  ∧ (∀ s : State, s.pending = [] → s.handed = [] → step s = .next (tick s))

/-- Every command answers a next state and leaves the queue of waiting commands alone: no rule of the spec stops the unit.
A host request that reaches a unit in a start is not received (R154), nor one that reaches a unit without power [9]:
nothing changes. -/
def Obligations.EveryCommandAnswers : Prop :=
  (∀ (c : Instr) (s : State), ∃ t, exec c s = .next t ∧ t.pending = s.pending)
  ∧ (∀ (c : Instr) (s : State), requestClass c ≠ 0 → s.running = false → exec c s = .next s)

/-! ### What every step keeps -/

/-- The invariants of the statements below hold right after reset. -/
def Obligations.InvariantsHoldAtReset : Prop :=
  Safety.Capacity .reset ∧ Safety.AttnLaw .reset ∧ Safety.TrainLaws .reset ∧ Safety.Derived State.reset.lt.train
  ∧ Safety.Ranges .reset ∧ Safety.Buffers .reset ∧ Safety.Ordered .reset ∧ Safety.SwitchSound .reset

/-- Every step keeps the four capacities: 48 train entries, 32 tickets, 256 unread records, 16 actions. -/
def Obligations.CapacitiesKeptByEveryStep : Prop :=
  ∀ s t : State, Safety.Capacity s → step s = .next t → Safety.Capacity t

/-- Every step leaves ATTN asserted exactly while one of the three grounds of R172 holds, and released without power and
through a start. -/
def Obligations.AttnFollowsItsGroundsAtEveryStep : Prop :=
  ∀ s t : State, Safety.AttnLaw s → step s = .next t → Safety.AttnLaw t

/-- Every step keeps batch IDs single over the train and the tickets, every entry but the back one closed, and the
COMPLETE entries ahead of all others. -/
def Obligations.TrainLawsKeptByEveryStep : Prop :=
  ∀ s t : State, Safety.TrainLaws s → step s = .next t → Safety.TrainLaws t

/-- Every step leaves each FAR leading interface at the reference position plus the expected volume of the entry ahead. -/
def Obligations.FarPositionsStayDerived : Prop :=
  ∀ s t : State, Safety.Derived s.lt.train → step s = .next t → Safety.Derived t.lt.train

/-- Every step keeps residues below 1,000,000, standstill counts at most 255, fault counts at most 7, the action numbers
within 1 to 65,535, the lost and link counts within 65,535, and slot health counters at most 15, with the failure
thresholds of the working tables, of the image and of a save in progress at most 15. -/
def Obligations.CountsStayInRange : Prop :=
  ∀ s t : State, Safety.Ranges s → step s = .next t → Safety.Ranges t

/-- Every step keeps the cut action list in trigger order, and at most 16 readings in a body window and settle buffer and
4 in an acquire run. -/
def Obligations.ListsKeepTheirShape : Prop :=
  (∀ s t : State, Safety.Ordered s → step s = .next t → Safety.Ordered t)
  ∧ (∀ s t : State, Safety.Buffers s → step s = .next t → Safety.Buffers t)

/-- Every step keeps a switch in progress sound: a target that is not empty; in phase 1 of a switch that goes on, every
route of the target that is not on its way OPEN; a mark to abandon it in MANUAL; no switch through a start. -/
def Obligations.SwitchStaysSound : Prop :=
  ∀ s t : State, Safety.SwitchSound s → step s = .next t → Safety.SwitchSound t

/-- Make before break: a step in which a route begins to close leaves some other route OPEN, whatever the command. -/
def Obligations.RouteClosesOnlyBesideAnOpenRoute : Prop :=
  ∀ (s t : State) (r : RouteNo), Safety.SwitchSound s → step s = .next t →
    valveIs s r .closing = false → valveIs t r .closing = true → Safety.OtherOpen t r

/-- S never decreases over a step unless the step takes a cold start, which sets it to 0; the premise leaves out the
period whose sum no longer fits the 64-bit totaliser [11]. -/
def Obligations.StationTotaliserNeverDecreases : Prop :=
  ∀ s t : State, s.mu.inlet.std + (periodRecord s .inlet).1.std < 2 ^ 64 → step s = .next t →
    s.stationS ≤ t.stationS ∨ (t.stationS = 0 ∧ t.sm.kind = .cold ∧ t.sm.starting = true)

/-! ### The host line (chapter 11) -/

/-- Every well-formed request comes back from its class and payload as it was sent, in a payload of at most 240 bytes: no
field of the catalogue is lost, whatever its value. -/
def Obligations.RequestRoundTrip : Prop :=
  ∀ (i : Instr) (c : Nat) (p : List Byte), i.wf = true → encodeRequest i = some (c, p) →
    decodeRequest c p = .request i ∧ p.length ≤ 240

/-- The refusals with their codes (R177). -/
def Safety.RefusalCodes : List (RefusalCode × Nat) :=
  [(.unknownRequest, 1), (.badLength, 2), (.badValue, 3), (.wrongMode, 4), (.notFound, 5), (.duplicateId, 6),
    (.trainFull, 7), (.tailOpen, 8), (.notOpen, 9), (.unknownProduct, 10), (.frozen, 11), (.productMismatch, 12),
    (.noOutlet, 13), (.locked, 14), (.notLocked, 15), (.busy, 16), (.inUse, 17), (.incomplete, 18), (.routeFault, 19)]

/-- A whole frame that finds the assembler hunting, with a good CRC, addressed to the unit and closing on a request of the
catalogue, is dispatched: the unit does what the request does. A request frame with a class outside the catalogue is
refused UNKNOWN_REQUEST, one with a payload of another length than the catalogue's BAD_LENGTH with the length received
as detail. Every refusal is a reply of class 0x7F with six bytes: the refused class, the code of R177's table, and the
detail as a signed number of four bytes, most significant first; the refusal count rises by one, up to 65,535, and
nothing else changes. -/
def Obligations.HostFramesAreDispatched : Prop :=
  (∀ (i : Instr) (c : Nat) (p : List Byte) (s : State), i.wf = true → encodeRequest i = some (c, p) →
      s.running = true → s.li.assembler = .hunting → s.li.unitAddr < 256 →
      exec (.hostFrame (frame s.li.unitAddr c p)) s = exec i (s.take (.hostFrame (frame s.li.unitAddr c p)))
      ∧ ∃ t, exec (.hostFrame (frame s.li.unitAddr c p)) s = .next t)
  ∧ (∀ (c : Nat) (p : List Byte) (s : State), s.running = true → s.li.assembler = .hunting → s.li.unitAddr < 256 → c < 256 →
      p.length ≤ 240 →
      (requestLength c = none →
        exec (.hostFrame (frame s.li.unitAddr c p)) s
          = .next ((s.take (.hostFrame (frame s.li.unitAddr c p))).refuse c .unknownRequest 0))
      ∧ (∀ n, requestLength c = some n → p.length ≠ n →
        exec (.hostFrame (frame s.li.unitAddr c p)) s
          = .next ((s.take (.hostFrame (frame s.li.unitAddr c p))).refuse c .badLength p.length)))
  ∧ (∀ (x : RefusalCode × Nat) (c : Nat) (d : BitVec 32) (s : State), x ∈ Safety.RefusalCodes → c < 256 →
      s.refuse c x.1 d.toInt = { s with li := { s.li with
        reply := some ⟨0x7F, [BitVec.ofNat 8 c, BitVec.ofNat 8 x.2, d.extractLsb' 24 8, d.extractLsb' 16 8,
          d.extractLsb' 8 8, d.extractLsb' 0 8]⟩
        assembler := .closed
        refusals := min 65535 (s.li.refusals + 1) } })

/-- A frame that is no request of this unit: bytes before a start byte are discarded; a gap and an overlong length byte
drop the partial frame being collected and raise the dropped count; a bad CRC raises the bad-CRC count; another
address is passed over; each leaves the assembler hunting, and nothing else changes. A part of a frame is held. An
event of a frame being collected has no effect while none is, by the model's choice [34]; while the assembler is
closed nothing has. The last byte of a reply has been sent: the assembler hunts, the reply is gone, the unit address
set takes effect and a start that was asked for is handed on [10]; without a reply being sent nothing changes. -/
def Obligations.FramesPassedOverAndReplySent : Prop :=
  (∀ (s : State), s.running = true →
      let dropped := fun (c : Instr) => exec c s = .next { s.take c with li := { s.li with
        assembler := .hunting, dropped := satInc 65535 s.li.dropped } }
      (∀ q, s.li.assembler = .collecting q → dropped .frameGapTimeout ∧ dropped .overlongLengthReceived)
      ∧ (s.li.assembler = .hunting →
        exec .frameGapTimeout s = .next (s.take .frameGapTimeout)
        ∧ exec .overlongLengthReceived s = .next (s.take .overlongLengthReceived)
        ∧ (∀ (a n : Byte) rest, 240 < n.toNat → (∀ b ∈ rest, b ≠ 0xC3#8) → dropped (.hostFrame (0xC3#8 :: a :: n :: rest)))
        ∧ (∀ pre, (∀ b ∈ pre, b ≠ 0xC3#8) →
          exec (.hostFrame pre) s = .next (s.take (.hostFrame pre))
          ∧ ∀ bs, frameShape bs = true → field bs 2 1 ≤ 240 →
            (frameCrcOk bs = false →
              exec (.hostFrame (pre ++ bs)) s = .next { s.take (.hostFrame (pre ++ bs)) with li := { s.li with
                badCrc := satInc 65535 s.li.badCrc } })
            ∧ (frameCrcOk bs = true → field bs 1 1 ≠ s.li.unitAddr →
              exec (.hostFrame (pre ++ bs)) s = .next (s.take (.hostFrame (pre ++ bs))))
            ∧ (∀ p q, bs = p ++ q → p ≠ [] → q ≠ [] →
              exec (.hostFrame (pre ++ p)) s = .next { s.take (.hostFrame (pre ++ p)) with li := { s.li with
                assembler := .collecting p } })))
      ∧ (s.li.assembler = .closed →
        exec .frameGapTimeout s = .next (s.take .frameGapTimeout)
        ∧ exec .overlongLengthReceived s = .next (s.take .overlongLengthReceived)
        ∧ ∀ bs, exec (.hostFrame bs) s = .next (s.take (.hostFrame bs))))
  ∧ (∀ (s : State) (r : Reply), s.running = true →
      (s.li.reply = some r →
        exec .replySent s = .next { s.take .replySent with
          li := { s.li with assembler := .hunting, reply := none, unitAddr := s.tables.params.unitAddress }
          handed := s.handed.erase .replySent ++ (if s.sm.requested.isSome then [.requestedStartTaken] else []) })
      ∧ (s.li.reply = none → exec .replySent s = .next (s.take .replySent)))

/-! ### What the host reads -/

/-- A read of the meters, the instruments, the routes, the status, the train, a batch, a ticket or the configuration that
its rule accepts is answered by the request's class plus 0x80 with a payload of the length the layouts give, and
changes nothing else at all. The lengths of READ METERS, READ INSTRUMENTS, READ ROUTES and READ BATCH rest on the
encodings of [13]. -/
def Obligations.ReadsChangeOnlyTheReply : Prop :=
  ∀ s : State, s.running = true → (∀ p ∈ s.tables.products, p.entry.name.length = 8) →
    let answered := fun (c : Instr) (n : Nat) => ∃ p, p.length = n ∧ exec c s = .next { s with
      li := { s.li with reply := some ⟨requestClass c + 0x80, p⟩, assembler := .closed } }
    answered .readMeters 121 ∧ answered .readInstruments 159 ∧ answered .readRoutes 226
    ∧ answered (.readStatus 0) 198 ∧ answered (.readStatus 1) (1 + 17 * min 8 s.cp.actions.length)
    ∧ answered (.readStatus 2) (1 + 17 * min 8 (s.cp.actions.length - 8))
    ∧ (∀ i, 1 ≤ i → i ≤ 48 → answered (.readTrain i) (1 + 23 * min 10 (s.lt.train.length - (i - 1))))
    ∧ (∀ id e, findEntry id s.lt.train = some e → answered (.readBatch id) 210)
    ∧ (s.ts = [] → answered (.readTicket 0) 1)
    ∧ (∀ id t, (if id = 0 then s.ts.head? else s.ts.find? (fun t => t.id == id)) = some t →
        answered (.readTicket id) (39 + 5 * t.routes.length))
    ∧ (∀ i, 1 ≤ i → i ≤ 24 → ∃ k ≤ 12, answered (.readConfiguration 1 i) (4 + 16 * k))
    ∧ (∀ i, i ≤ 96 → answered (.readConfiguration 2 i) (4 + 19 * min 10 (s.tables.pairs.length + 1 - i)))
    ∧ (∀ i, answered (.readConfiguration 3 i) 135)

/-- The status as laid out in section 11.6: at their offsets stand the mode, the missing-item mask, S, the count of
actions, S_last, the unread count, the overflow latch, the state of ATTN and the counts of tickets and of train
entries. READ METERS carries S, the flow state, the station flow and the totalisers of both meters in R44's order;
READ TRAIN carries the train's length and one summary for each entry from the start index, its batch ID first. The
places in READ METERS behind the flow state rest on the encodings of [13]. -/
def Obligations.StatusMetersAndTrainAreReported : Prop :=
  (∀ (s t : State) (r : Reply), s.running = true → exec (.readStatus 0) s = .next t → t.li.reply = some r →
      field r.payload 0 1 = modeCode s.sm.mode ∧ field r.payload 4 1 = missingMask s.tables
      ∧ (s.stationS < 2 ^ 64 → field r.payload 13 8 = s.stationS)
      ∧ (s.cp.actions.length ≤ 16 → field r.payload 28 1 = s.cp.actions.length)
      ∧ (s.lt.sLast < 2 ^ 64 → field r.payload 78 8 = s.lt.sLast)
      ∧ (s.el.records.length ≤ 256 → field r.payload 168 2 = s.el.records.length)
      ∧ field r.payload 188 1 = (if s.el.overflow then 1 else 0) ∧ field r.payload 189 1 = (if s.el.attn then 1 else 0)
      ∧ (s.ts.length ≤ 32 → field r.payload 190 1 = s.ts.length)
      ∧ (s.lt.train.length ≤ 48 → field r.payload 191 1 = s.lt.train.length))
  ∧ (∀ (s t : State) (r : Reply), s.running = true → t.li.reply = some r →
      (exec .readMeters s = .next t → s.mu.inlet.std < 2 ^ 64 → s.mu.inlet.gross < 2 ^ 64 → s.mu.delivery.gross < 2 ^ 64 →
          s.mu.delivery.std < 2 ^ 64 → s.mu.inlet.flow < 2 ^ 32 →
        field r.payload 0 8 = s.stationS ∧ field r.payload 8 1 = flowCode s.mu.flowState
        ∧ field r.payload 13 4 = s.mu.inlet.flow ∧ field r.payload 17 8 = s.mu.inlet.gross
        ∧ field r.payload 25 8 = s.mu.inlet.std ∧ field r.payload 69 8 = s.mu.delivery.gross
        ∧ field r.payload 77 8 = s.mu.delivery.std)
      ∧ (∀ i k e, exec (.readTrain i) s = .next t → 1 ≤ i → i ≤ 48 → k < 10 → s.lt.train[i - 1 + k]? = some e →
          s.lt.train.length ≤ 48 → e.id < 2 ^ 32 →
        field r.payload 0 1 = s.lt.train.length ∧ field r.payload (1 + 23 * k) 4 = e.id))

/-- READ EVENTS takes up to the count asked for of the oldest records, reports how many it took, how many stay and the
lost count and latch as they stood, clears those two and has ATTN judged; outside 1 to 8 it is refused BAD_VALUE.
Nothing else changes. -/
def Obligations.ReadEventsTakesTheOldest : Prop :=
  ∀ (n : Nat) (s : State), s.running = true →
    (1 ≤ n → n ≤ 8 → ∃ p, exec (.readEvents n) s = .next { s with
        el := { s.el with
          records := s.el.records.drop n, lost := 0, overflow := false
          attn := attnWanted { s with el := { s.el with records := s.el.records.drop n } } }
        li := { s.li with reply := some ⟨0x87, p⟩, assembler := .closed } }
      ∧ p.length = 6 + 28 * min n s.el.records.length ∧ field p 0 1 = min n s.el.records.length
      ∧ (s.el.records.length ≤ 256 → field p 1 2 = s.el.records.length - n)
      ∧ (s.el.lost ≤ 65535 → field p 3 2 = s.el.lost) ∧ field p 5 1 = (if s.el.overflow then 1 else 0))
    ∧ (n < 1 ∨ 8 < n → exec (.readEvents n) s = .next (s.refuse 0x07 .badValue 0))

/-! ### The Event Log (chapter 10) -/

/-- A posted event is stored while fewer than 256 records are unread: the sequence steps, wrapping after 4,294,967,295,
the record carries the time of day and S of this moment and the detail limited to 32 bits, it goes to the back, and
ATTN is judged. Nothing else changes. An event posted to a full log is discarded: the lost count rises, staying at
65,535, the overflow latch is set, and neither the sequence counter, the records nor ATTN change, nor anything else.
-/
def Obligations.PostedEventIsStoredOrCounted : Prop :=
  (∀ (k : EventKind) (n : Nat) (d : Int) (s : State), s.running = true → s.el.records.length < 256 →
      ∃ r : EventRecord, r.seq = (s.el.seq + 1) % 2 ^ 32 ∧ r.seconds = s.clock.seconds ∧ r.milli = s.clock.milli
        ∧ r.s = s.mu.inlet.std / 1000 ∧ r.kind = k ∧ r.subject = n
        ∧ r.detail = max (-2147483648) (min 2147483647 d)
        ∧ exec (.eventPosted k n d) s = .next { s.take (.eventPosted k n d) with
            el := { s.el with
              records := s.el.records ++ [r], seq := r.seq
              attn := attnWanted { s with el := { s.el with records := s.el.records ++ [r] } } } })
  ∧ (∀ (k : EventKind) (n : Nat) (d : Int) (s : State), s.running = true → 256 ≤ s.el.records.length →
      exec (.eventPosted k n d) s = .next { s.take (.eventPosted k n d) with
        el := { s.el with lost := if s.el.lost < 65535 then s.el.lost + 1 else 65535, overflow := true } })

/-! ### Working tables and the store (chapters 6, 7, 11) -/

/-- What an accepted change of the safe route to `r` leaves of a state (R126, R134, R135): the latch clear and the line-up
compared. A value that already stands counts as a change too, by the model's reading of "changed" in R135 [37]. No
switch begins while one is in progress, a route travels, there is no target, or the line-up agrees. In SAFE, else, a
LOCKED_OUT safe route posts SAFE_LINEUP_FAILED with detail 1 and sets the latch again; one that is not OPEN is
commanded open by a new switch, also where both its limits are active [58]; with it OPEN the switch at once closes the
other routes. -/
def Safety.SafeRouteCompared (r : RouteNo) (s : State) (leaves : State → Prop) : Prop :=
  let owner := manifoldId s.lt.train
  let others := allRoutes.filter (fun x => !(x == r) && (valveIs s x .opened || valveIs s x .unknown))
  let unlatched := leaves { s with rc := { s.rc with latch := false } }
  (s.sm.mode ≠ .tracking → s.sm.mode ≠ .safe → unlatched)
  ∧ (s.sm.mode = .tracking → target s = none → unlatched)
  ∧ (s.sm.mode = .tracking ∨ s.sm.mode = .safe → s.rc.switching ≠ none ∨ (∃ x, travelling s x = true) → unlatched)
  ∧ (s.sm.mode = .tracking → ∃ rc more, leaves { s with rc := rc, handed := s.handed ++ more })
  ∧ (s.sm.mode = .safe → s.rc.switching = none → (∀ x, travelling s x = false) →
    let begun := fun (rc : RouteController) => leaves { s with
      rc := rc, handed := s.handed ++ [.eventPosted .switchBegun owner (routeSetCode [r])] }
    (valveIs s r .opened = true → others = [] → unlatched)
    ∧ (valveIs s r .lockedOut = true → leaves { s with
        rc := { s.rc with latch := true }
        handed := s.handed ++ [.eventPosted .safeLineupFailed (routeNumber r) 1] })
    ∧ (∀ v, s.rc.valves.get r = some v → v.state ≠ .lockedOut → v.state ≠ .opened → s.rc.limits.get r ≠ ⟨true, false⟩ →
      begun { s.rc with
        latch := false
        switching := some ⟨[r], owner, .opening, [r], [], false, s.stationS⟩
        valves := s.rc.valves.set r (some { v with
          state := .opening, timerStart := some s.clock.ms
          timerLimit := ((s.tables.routes.get r).map (·.travelLimit)).getD 0 }) })
    ∧ (valveIs s r .opened = true → others ≠ [] → (∀ x ∈ others, (s.rc.limits.get x).closed = false) →
      ∃ rc, begun rc ∧ rc.switching = some ⟨[r], owner, .closing, others, [], false, s.stationS⟩ ∧ rc.latch = false
        ∧ (∀ x ∈ others, (rc.valves.get x).map (·.state) = some .closing)
        ∧ (∀ x, x ∉ others → rc.valves.get x = s.rc.valves.get x)))

/-- SET PARAMETER of a clamped parameter takes the value clamped to its range, leaves the other 32 parameters and the
other tables as they were, marks the tables edited and answers the clamp mark, the number and the value taken; the
lead volume is refused WRONG_MODE in TRACKING, MANUAL and SAFE, and once taken makes the completion check an action's
leaving makes, against the new clear point. The unit address, the default disposition, the safe route, the routing
mask and the ticket attention are taken as sent, with what their change brings about at once (for the safe route the
latch cleared and the line-up compared), or refused BAD_VALUE: out of range, PASS without a THROUGH route, a safe
route that is not defined or carries a product. So is a number outside 1 to 33. That an accepted lead volume or safe
route counts as a change also where it is the value that already stands is the model's reading of "changed" in R2 and
R135, its choice [37]. -/
def Obligations.ParametersAreClampedOrRefused : Prop :=
  (∀ (n : Nat) (v lo hi : Int) (s : State), s.running = true → tuningRange n = some (lo, hi) →
      (n = 2 → s.sm.mode = .hold ∨ s.sm.mode = .unconfigured) →
      ∃ t, exec (.setParameter n v) s = .next t
        ∧ (paramValues t.tables.params)[n - 1]? = some (max lo (min hi v))
        ∧ (∀ m, m ≠ n - 1 → (paramValues t.tables.params)[m]? = (paramValues s.tables.params)[m]?)
        ∧ t.tables = { s.tables with params := t.tables.params } ∧ t.li.edited = true
        ∧ t.li.reply = some ⟨0xB0,
            [if max lo (min hi v) = v then 0#8 else 1#8] ++ encUnsigned 1 n ++ encSigned 4 (max lo (min hi v))⟩
        ∧ t.sm = s.sm ∧ t.rc = s.rc ∧ t.cp = s.cp ∧ t.mu = s.mu ∧ t.ip = s.ip ∧ t.sd = s.sd ∧ t.cs = s.cs
        ∧ (n ≠ 2 → t.lt = s.lt ∧ t.ts = s.ts ∧ t.handed = s.handed)
        ∧ (n = 2 → ∀ x, exec (.actionLeftList x) { s with tables := t.tables, handed := .actionLeftList x :: s.handed }
            = .next { t with li := s.li }))
  ∧ (∀ (n : Nat) (v : Int) (s : State), s.running = true →
      let refused := exec (.setParameter n v) s = .next (s.refuse 0x30 .badValue 0)
      let taken := fun (p : Params) (t : State) => exec (.setParameter n v) s = .next { t with
        tables := { s.tables with params := p }
        li := { s.li with
          edited := true, reply := some ⟨0xB0, 0#8 :: encUnsigned 1 n ++ encSigned 4 v⟩, assembler := .closed } }
      let judged := fun (p : Params) => taken p { s with
        el := { s.el with attn := attnWanted { s with tables := { s.tables with params := p } } } }
      (n = 0 ∨ 33 < n → refused)
      ∧ (n = 2 → s.sm.mode = .tracking ∨ s.sm.mode = .manual ∨ s.sm.mode = .safe →
          exec (.setParameter n v) s = .next (s.refuse 0x30 .wrongMode 0))
      ∧ (n = 1 → (¬(1 ≤ v ∧ v ≤ 62) → refused)
          ∧ (1 ≤ v → v ≤ 62 → taken { s.tables.params with unitAddress := v.toNat } s))
      ∧ (n = 28 → (v ≠ 1 → v ≠ 2 → refused) ∧ (v = 1 → throughRoute s.tables = none → refused)
          ∧ (v = 1 → throughRoute s.tables ≠ none → taken { s.tables.params with defaultDisposition := .pass } s)
          ∧ (v = 2 → taken { s.tables.params with defaultDisposition := .transmixAll } s))
      ∧ (n = 30 → (v < 1 ∨ 8 < v → refused)
          ∧ (∀ r, v = routeNumber r →
            (routeKind s.tables r ≠ some .through → routeKind s.tables r ≠ some .transmix → refused)
            ∧ (routeKind s.tables r = some .through ∨ routeKind s.tables r = some .transmix →
              Safety.SafeRouteCompared r s (taken { s.tables.params with safeRoute := some r }))))
      ∧ (n = 31 → (¬(0 ≤ v ∧ v ≤ 63) → refused)
          ∧ (0 ≤ v → v ≤ 63 → judged { s.tables.params with routingMask := v.toNat }))
      ∧ (n = 33 → (v ≠ 0 → v ≠ 1 → refused)
          ∧ (v = 0 ∨ v = 1 → judged { s.tables.params with ticketAttention := decide (v = 1) })))

/-- SET PRODUCT with an entry in range defines the code with that entry, its coefficient and rank clamped, and a removal
of a product not in use leaves the code undefined; every other code keeps its entry, and only the product table, the
edited mark and the reply change. SET PAIR with a rule of the four writes the pair, clamped in the order h, t, base
mix, growth, max mix, the codes 0 and 0 writing the default pair; a removal makes the pair fall back to the default
pair. Every other pair keeps its entry, and only the pair table, the edited mark and the reply change. -/
def Obligations.ProductAndPairEntriesAreWritten : Prop :=
  (∀ (code : Nat) (name : List Byte) (alpha rank dmin dmax : Nat) (s : State), s.running = true → 1 ≤ code → code ≤ 24 →
      (5000 ≤ dmin → dmin ≤ dmax → dmax ≤ 11000 →
        ∃ t, exec (.setProduct code 1 name alpha rank dmin dmax) s = .next t
          ∧ productOf t.tables code = some ⟨name, min 2000 alpha, max 1 (min 9 rank), dmin, dmax⟩
          ∧ (∀ c, c ≠ code → productOf t.tables c = productOf s.tables c) ∧ t.li.edited = true
          ∧ t = { s with tables := { s.tables with products := t.tables.products }, li := t.li })
      ∧ ((productOf s.tables code).isSome → productInUse s code = false →
        ∃ t, exec (.setProduct code 2 name alpha rank dmin dmax) s = .next t
          ∧ productOf t.tables code = none ∧ (∀ c, c ≠ code → productOf t.tables c = productOf s.tables c)
          ∧ t.li.edited = true ∧ t = { s with tables := { s.tables with products := t.tables.products }, li := t.li }))
  ∧ (∀ (a b ruleNo h t baseMix growth maxMix : Nat) (rule : PairRule) (s : State), s.running = true →
      ruleOfCode ruleNo = some rule →
      let p : PairEntry := ⟨rule, max 1 (min 999 h), max (max 1 (min 999 h)) (min 999 t), min 500000 baseMix,
        min 100000 growth, max (min 500000 baseMix) (min 1000000 maxMix)⟩
      (1 ≤ a → a ≤ 24 → 1 ≤ b → b ≤ 24 → s.tables.pairs.length < 96 →
        ∃ u, exec (.setPair a b 1 ruleNo h t baseMix growth maxMix) s = .next u ∧ pairOf u.tables a b = p
          ∧ (∀ x y, (x, y) ≠ (a, b) → pairOf u.tables x y = pairOf s.tables x y) ∧ u.li.edited = true
          ∧ u = { s with tables := { s.tables with pairs := u.tables.pairs }, li := u.li })
      ∧ (∃ u, exec (.setPair 0 0 1 ruleNo h t baseMix growth maxMix) s = .next u ∧ u.tables.defaultPair = p
          ∧ u.li.edited = true ∧ u = { s with tables := { s.tables with defaultPair := p }, li := u.li })
      ∧ (1 ≤ a → a ≤ 24 → 1 ≤ b → b ≤ 24 → s.tables.pairs.any (fun q => q.ahead == a && q.behind == b) →
        ∃ u, exec (.setPair a b 2 ruleNo h t baseMix growth maxMix) s = .next u
          ∧ pairOf u.tables a b = s.tables.defaultPair
          ∧ (∀ x y, (x, y) ≠ (a, b) → pairOf u.tables x y = pairOf s.tables x y) ∧ u.li.edited = true
          ∧ u = { s with tables := { s.tables with pairs := u.tables.pairs }, li := u.li }))

/-- SET ROUTE: an accepted entry for a route not yet defined makes its valve record with fault count 0 and the state its
limits show; where they do not show it OPEN its open stamp is 0, by the model's choice [59]; found with both limits
active it faults, which ends ABANDONED with detail 2 a switch that has commanded it, and no other; one for a defined
route keeps the valve record; an accepted removal discards it, and the removal of a route that is not defined is
accepted too, by the model's choice [30]. The tuning numbers are clamped. Stated where the Route Controller has no
target, so that the comparison that follows begins no switch. -/
def Obligations.RouteEntryMakesItsValve : Prop :=
  ∀ (r : RouteNo) (kind product travel nominal fault : Nat) (k : RouteKind) (s : State), s.running = true →
    (s.sm.mode = .hold ∨ s.sm.mode = .manual ∨ s.sm.mode = .unconfigured) →
    (routeRefusal (routeNumber r) 1 kind product s = none → kindOfCode kind product = some k →
      ∃ t, exec (.setRoute (routeNumber r) 1 kind product travel nominal fault) s = .next t
        ∧ t.tables.routes.get r = some ⟨k, max 5 (min 600 travel), max 1 (min 600 nominal), max 1 (min 7 fault)⟩
        ∧ (∀ x, x ≠ r → t.tables.routes.get x = s.tables.routes.get x ∧ t.rc.valves.get x = s.rc.valves.get x)
        ∧ t.li.edited = true
        ∧ ((s.tables.routes.get r).isSome → t.rc = s.rc ∧ t.handed = s.handed)
        ∧ (s.tables.routes.get r = none → s.rc.limits.get r = ⟨false, true⟩ →
            t.rc.valves.get r = some ⟨.closed, 0, none, 0, 0⟩ ∧ t.handed = s.handed)
        ∧ (s.tables.routes.get r = none → s.rc.limits.get r = ⟨false, false⟩ →
            t.rc.valves.get r = some ⟨.unknown, 0, none, 0, 0⟩ ∧ t.handed = s.handed)
        ∧ (s.tables.routes.get r = none → s.rc.limits.get r = ⟨true, false⟩ → s.rc.openOrder + 1 < 2 ^ 64 →
            t.rc.valves.get r = some ⟨.opened, 0, none, 0, s.rc.openOrder + 1⟩ ∧ t.rc.openOrder = s.rc.openOrder + 1)
        ∧ (s.tables.routes.get r = none → s.rc.limits.get r = ⟨true, true⟩ →
            (t.rc.valves.get r).map (·.faults) = some 1 ∧ .eventPosted .valveSwitchFault (routeNumber r) 1 ∈ t.handed
            ∧ (∀ w, s.rc.switching = some w → r ∈ w.commanded → t.rc.switching = none
                ∧ .eventPosted .switchAbandoned w.owner 2 ∈ t.handed ∧ .switchEndHanded ∈ t.handed)
            ∧ ((∀ w, s.rc.switching = some w → r ∉ w.commanded) → t.rc.switching = s.rc.switching))
        ∧ t = { s with tables := { s.tables with routes := t.tables.routes }, rc := t.rc, li := t.li, handed := t.handed })
    ∧ (routeRefusal (routeNumber r) 2 kind product s = none →
      ∃ t, exec (.setRoute (routeNumber r) 2 kind product travel nominal fault) s = .next t
        ∧ t.tables.routes.get r = none ∧ t.rc.valves.get r = none
        ∧ (∀ x, x ≠ r → t.tables.routes.get x = s.tables.routes.get x ∧ t.rc.valves.get x = s.rc.valves.get x)
        ∧ t.li.edited = true
        ∧ t = { s with tables := { s.tables with routes := t.tables.routes }, rc := t.rc, li := t.li })

/-- SET SLOT: a change of role, address or enable clears the slot's state, keeping its two counts, and hands the loss of a
density role on to its channel; any other change leaves the slot's state as it stands. The tuning numbers are clamped.
Stated where no poll of this slot is in flight. -/
def Obligations.SlotConfigurationIsTaken : Prop :=
  ∀ (k : SlotNo) (role address enable range rate status rateLimit fail recovery : Nat) (c : SlotConfig) (s : State),
    s.running = true → (∀ y, s.ip.cycle = some y → y.slot ≠ k) →
    slotRequest s.tables (slotNumber k) role address enable range rate status rateLimit fail recovery = some (k, c) →
    ∃ t, exec (.setSlot (slotNumber k) role address enable range rate status rateLimit fail recovery) s = .next t
      ∧ t.tables = { s.tables with slots := s.tables.slots.set k c } ∧ t.li.edited = true
      ∧ c.address = address ∧ c.rateLimit = max 1 (min 100000 rateLimit) ∧ c.failThreshold = max 1 (min 15 fail)
      ∧ c.recoveryCount = max 1 (min 50 recovery)
      ∧ (identityChange (s.tables.slots.get k) c = false → t.ip = s.ip ∧ t.handed = s.handed)
      ∧ (identityChange (s.tables.slots.get k) c = true →
          t.ip = { s.ip with slots := s.ip.slots.set k ⟨.noValue, none, none, 0, 0, .none, (s.ip.slots.get k).polls,
            (s.ip.slots.get k).failures⟩ }
          ∧ t.handed = s.handed ++ (match channelOfRole (s.tables.slots.get k).role with
              | some ch => [.channelSlotLost ch]
              | none => []))
      ∧ t = { s with tables := t.tables, ip := t.ip, li := t.li, handed := t.handed }

/-- A save takes the working tables as the image to be written, leaves the store's check bad and clears the edited mark; a
verified write stores the image and posts SAVE_DONE with the missing-item mask of what was written; a failed one
leaves no image, sets the edited mark and posts SAVE_FAILED; a save in progress refuses another BUSY, and with no save
in progress neither outcome changes anything. -/
def Obligations.SaveWritesTheTables : Prop :=
  ∀ s : State, s.running = true →
    (s.cs.saving = none → exec .saveConfiguration s = .next { s with
        cs := ⟨none, some s.tables⟩
        li := { s.li with edited := false, reply := some ⟨0xB5, []⟩, assembler := .closed } })
    ∧ (∀ w, s.cs.saving = some w →
      exec .saveConfiguration s = .next (s.refuse 0x35 .busy 0)
      ∧ exec .saveWriteVerified s = .next { s.take .saveWriteVerified with
          cs := ⟨some w, none⟩
          handed := s.handed.erase .saveWriteVerified ++ [.eventPosted .saveDone 0 (missingMask w)] }
      ∧ exec .saveWriteFailed s = .next { s.take .saveWriteFailed with
          cs := ⟨none, none⟩, li := { s.li with edited := true }
          handed := s.handed.erase .saveWriteFailed ++ [.eventPosted .saveFailed 0 1] })
    ∧ (s.cs.saving = none →
      exec .saveWriteVerified s = .next (s.take .saveWriteVerified)
      ∧ exec .saveWriteFailed s = .next (s.take .saveWriteFailed))

/-! ### The clock and the modes (chapter 8) -/

/-- SET TIME sets the seconds, clears the millisecond part and sets the SET flag; the free-running count and all else
stay, and the acceptance carries the time taken. -/
def Obligations.SetTimeMovesOnlyTheTimeOfDay : Prop :=
  ∀ (n : Nat) (s : State), s.running = true →
    exec (.setTime n) s = .next { s with
      clock := ⟨s.clock.ms, n, 0, true⟩
      li := { s.li with reply := some ⟨0xA3, encUnsigned 4 n ++ [0#8, 0#8]⟩, assembler := .closed } }

/-- What a change of mode comes to: the mode recorded, MODE_CHANGE posted first with its cause and ten times the old code
plus the new, a switch in progress marked to be abandoned in HOLD and MANUAL, no latch after SAFE, and nothing but the
mode, the routes and the hand-offs changed. -/
def Safety.ModeChanged (s t : State) (new : StationMode) (cause : Nat) : Prop :=
  t.sm = { s.sm with mode := new }
  ∧ (∃ more, t.handed = s.handed ++ .eventPosted .modeChange cause (10 * modeCode s.sm.mode + modeCode new) :: more)
  ∧ (new = .hold ∨ new = .manual → t.rc.valves = s.rc.valves
      ∧ t.rc.switching = s.rc.switching.map (fun w => { w with abandon := true }))
  ∧ (s.sm.mode = .safe → new ≠ .safe → t.rc.latch = false)

/-- SET MODE from each mode to each mode R146 accepts: the change of R145 with cause 1, answered with the mode now
standing; a request for the mode standing changes nothing but the reply. SET MODE is refused BAD_VALUE for a code
other than 1, 2 and 3; INCOMPLETE with the mask from UNCONFIGURED; WRONG_MODE where the table of R146 has it; from
SAFE to TRACKING BUSY while a switch is in progress and then ROUTE_FAULT with the lowest-numbered route in FAULT. -/
def Obligations.SetModeIsJudgedAndTaken : Prop :=
  (∀ (new : StationMode) (s : State), s.running = true →
      new = .hold ∨ new = .tracking ∨ new = .manual →
      ((s.sm.mode = .unconfigured ∧ new = .hold ∧ missingMask s.tables = 0)
        ∨ ((s.sm.mode = .hold ∨ s.sm.mode = .tracking ∨ s.sm.mode = .manual) ∧ new ≠ s.sm.mode)
        ∨ (s.sm.mode = .safe ∧ new = .hold)
        ∨ (s.sm.mode = .safe ∧ new = .tracking ∧ s.rc.switching = none ∧ ∀ r, valveIs s r .fault = false) →
        ∃ t, exec (.setMode (modeCode new)) s = .next t ∧ Safety.ModeChanged s t new 1
          ∧ t.li = { s.li with reply := some ⟨0xA0, encUnsigned 1 (modeCode new)⟩, assembler := .closed }
          ∧ t = { s with sm := t.sm, rc := t.rc, handed := t.handed, li := t.li })
      ∧ (new = s.sm.mode → exec (.setMode (modeCode new)) s = .next { s with
          li := { s.li with reply := some ⟨0xA0, encUnsigned 1 (modeCode new)⟩, assembler := .closed } }))
  ∧ (∀ (s : State), s.running = true →
      (∀ code, code ≠ 1 → code ≠ 2 → code ≠ 3 → exec (.setMode code) s = .next (s.refuse 0x20 .badValue 0))
      ∧ (s.sm.mode = .unconfigured →
        exec (.setMode 2) s = .next (s.refuse 0x20 .wrongMode 0) ∧ exec (.setMode 3) s = .next (s.refuse 0x20 .wrongMode 0)
        ∧ (missingMask s.tables ≠ 0 → exec (.setMode 1) s = .next (s.refuse 0x20 .incomplete (missingMask s.tables))))
      ∧ (s.sm.mode = .safe →
        exec (.setMode 3) s = .next (s.refuse 0x20 .wrongMode 0)
        ∧ (s.rc.switching ≠ none → exec (.setMode 2) s = .next (s.refuse 0x20 .busy 0))
        ∧ (s.rc.switching = none → ∀ r, valveIs s r .fault = true →
            (∀ x, routeNumber x < routeNumber r → valveIs s x .fault = false) →
            exec (.setMode 2) s = .next (s.refuse 0x20 .routeFault (routeNumber r)))))

/-- A SAFE demand is taken in TRACKING alone: the mode becomes SAFE with cause 2, and SAFE_ENTERED with the route and the
cause follows MODE_CHANGE at once. In every other mode nothing changes. A HOLD demand in TRACKING, MANUAL and SAFE
brings HOLD with cause 3; in HOLD and UNCONFIGURED it changes nothing. -/
def Obligations.DemandsChangeTheMode : Prop :=
  (∀ (r : RouteNo) (c : SafeCause) (s : State), s.running = true →
      (s.sm.mode = .tracking → ∃ t more, exec (.safeDemand r c) s = .next t
        ∧ t.sm = { s.sm with mode := .safe }
        ∧ t.handed = s.handed.erase (.safeDemand r c)
            ++ .eventPosted .modeChange 2 24
            :: .eventPosted .safeEntered (routeNumber r)
                (match c with | .involvedFault => 1 | .lockedOut => 2 | .outletLost => 3)
            :: more
        ∧ t = { s with sm := t.sm, rc := t.rc, handed := t.handed })
      ∧ (s.sm.mode ≠ .tracking → exec (.safeDemand r c) s = .next (s.take (.safeDemand r c))))
  ∧ (∀ s : State, s.running = true →
      (s.sm.mode = .tracking ∨ s.sm.mode = .manual ∨ s.sm.mode = .safe → ∃ t, exec .holdDemand s = .next t
        ∧ Safety.ModeChanged (s.take .holdDemand) t .hold 3 ∧ t = { s with sm := t.sm, rc := t.rc, handed := t.handed })
      ∧ (s.sm.mode = .hold ∨ s.sm.mode = .unconfigured → exec .holdDemand s = .next (s.take .holdDemand)))

/-! ### Valves (chapter 7) -/

/-- The valve record a command to open leaves: OPEN at once, with the next open stamp and the fault count one lower, where
the limits show it; else OPENING with the travel timer from now. -/
def Safety.CommandedOpen (s t : State) (r : RouteNo) (v : Valve) : Prop :=
  if s.rc.limits.get r = ⟨true, false⟩ then
    t.rc.valves.get r = some { v with
      state := .opened, faults := v.faults - 1, timerStart := none, stamp := s.rc.openOrder + 1 }
    ∧ t.rc.openOrder = s.rc.openOrder + 1
  else
    t.rc.valves.get r = some { v with
      state := .opening, timerStart := some s.clock.ms
      timerLimit := ((s.tables.routes.get r).map (·.travelLimit)).getD 0 }
    ∧ t.rc.openOrder = s.rc.openOrder

/-- VALVE COMMAND in MANUAL with no switch in progress: OPEN of a CLOSED, UNKNOWN or FAULT route opens it or starts its
travel, also where both its limits are active already [58]; CLOSE of an OPEN, UNKNOWN or FAULT route, with another
route OPEN, closes it or starts its travel; OPEN of an OPEN route changes nothing. Every other route, and everything
but the valve and the reply, stays. VALVE COMMAND is refused in the order of R140's table: outside MANUAL, for a route
or command that does not exist, LOCKED, BUSY, NO_OUTLET when no other route is OPEN, PRODUCT_MISMATCH. -/
def Obligations.ValveCommandIsJudgedAndTaken : Prop :=
  (∀ (r : RouteNo) (v : Valve) (s : State), s.running = true → s.sm.mode = .manual → s.rc.switching = none →
      s.rc.valves.get r = some v → s.rc.openOrder + 1 < 2 ^ 64 →
      (v.state = .closed ∨ v.state = .unknown ∨ v.state = .fault → productMatches s r = true →
        ∃ t, exec (.valveCommand (routeNumber r) 1) s = .next t ∧ Safety.CommandedOpen s t r v
          ∧ (∀ x, x ≠ r → t.rc.valves.get x = s.rc.valves.get x)
          ∧ t.li = { s.li with reply := some ⟨0xA1, []⟩, assembler := .closed }
          ∧ t = { s with rc := { s.rc with valves := t.rc.valves, openOrder := t.rc.openOrder }, li := t.li })
      ∧ (v.state = .opened ∨ v.state = .unknown ∨ v.state = .fault → Safety.OtherOpen s r →
        ∃ t, exec (.valveCommand (routeNumber r) 2) s = .next t
          ∧ t.rc.valves.get r = some (if s.rc.limits.get r = ⟨false, true⟩ then
              { v with state := .closed, faults := v.faults - 1, timerStart := none }
            else { v with
              state := .closing, timerStart := some s.clock.ms
              timerLimit := ((s.tables.routes.get r).map (·.travelLimit)).getD 0 })
          ∧ (∀ x, x ≠ r → t.rc.valves.get x = s.rc.valves.get x)
          ∧ t.li = { s.li with reply := some ⟨0xA1, []⟩, assembler := .closed }
          ∧ t = { s with rc := { s.rc with valves := t.rc.valves }, li := t.li })
      ∧ (v.state = .opened → productMatches s r = true → exec (.valveCommand (routeNumber r) 1) s = .next { s with
          li := { s.li with reply := some ⟨0xA1, []⟩, assembler := .closed } }))
  ∧ (∀ (r : RouteNo) (v : Valve) (n k : Nat) (s : State), s.running = true →
      (s.sm.mode ≠ .manual → exec (.valveCommand n k) s = .next (s.refuse 0x21 .wrongMode 0))
      ∧ (s.sm.mode = .manual →
        (n < 1 ∨ 8 < n → exec (.valveCommand n k) s = .next (s.refuse 0x21 .badValue 0))
        ∧ (s.rc.valves.get r = none → exec (.valveCommand (routeNumber r) k) s = .next (s.refuse 0x21 .badValue 0))
        ∧ (s.rc.valves.get r = some v →
          (k ≠ 1 → k ≠ 2 → exec (.valveCommand (routeNumber r) k) s = .next (s.refuse 0x21 .badValue 0))
          ∧ (k = 1 ∨ k = 2 →
            (v.state = .lockedOut → exec (.valveCommand (routeNumber r) k) s = .next (s.refuse 0x21 .locked 0))
            ∧ (v.state = .opening ∨ v.state = .closing →
                exec (.valveCommand (routeNumber r) k) s = .next (s.refuse 0x21 .busy 0))
            ∧ (v.state ≠ .lockedOut → v.state ≠ .opening → v.state ≠ .closing →
                (k = 2 → ¬Safety.OtherOpen s r →
                  exec (.valveCommand (routeNumber r) k) s = .next (s.refuse 0x21 .noOutlet 0))
                ∧ (k = 1 → productMatches s r = false →
                  exec (.valveCommand (routeNumber r) k) s = .next (s.refuse 0x21 .productMismatch 0)))))))

/-- What a fault of a route leaves: the count one higher, at most 7, the timer stopped, and LOCKED_OUT where the count
comes to the fault limit, else FAULT. -/
def Safety.Faulted (s : State) (v : Valve) (r : RouteNo) : Valve :=
  { v with
    state := if faultLimitOf s r ≤ min 7 (v.faults + 1) then .lockedOut else .fault
    faults := min 7 (v.faults + 1)
    timerStart := none }

/-- A travel timer that has run out faults an OPENING or CLOSING route with VALVE_TRAVEL_FAULT, whose detail is the raised
count, and VALVE_LOCKOUT after it at the fault limit; on any other route it changes nothing, and nor does an expiry
left over from a timer that was stopped [46]. The record is stated where no target stands, so that no retry follows in
the same step. A fault of a route of the switch in progress, or commanded by it, ends the switch ABANDONED with detail
2: in TRACKING SAFE is demanded and the comparison that follows is left to the step of that demand, by the model's
choice [7] (section 7.8), in SAFE a fault of the safe route posts SAFE_LINEUP_FAILED and sets the latch. -/
def Obligations.TravelExpiryFaultsTheRoute : Prop :=
  ∀ (r : RouteNo) (v : Valve) (s : State), s.running = true → s.rc.valves.get r = some v →
    let c := Instr.valveTravelExpiry r
    let out := ∃ t0, v.timerStart = some t0 ∧ v.timerLimit * 1000 ≤ s.clock.ms - t0
    let posts := .eventPosted .valveTravelFault (routeNumber r) (min 7 (v.faults + 1))
      :: (if faultLimitOf s r ≤ min 7 (v.faults + 1) then
            [.eventPosted .valveLockout (routeNumber r) (min 7 (v.faults + 1))] else [])
    (out ∨ c ∉ s.handed →
      (v.state = .opening ∨ v.state = .closing →
        (∃ t more, exec c s = .next t
          ∧ t.handed = s.handed.erase c ++ posts ++ more
          ∧ t = { s with rc := t.rc, handed := t.handed }
          ∧ (s.sm.mode = .hold ∨ s.sm.mode = .manual → t.rc.valves.get r = some (Safety.Faulted s v r)
              ∧ ∀ x, x ≠ r → t.rc.valves.get x = s.rc.valves.get x))
        ∧ (∀ w, s.rc.switching = some w → r ∈ w.target ∨ r ∈ w.commanded →
          let ended := posts ++ [.eventPosted .switchAbandoned w.owner 2, .switchEndHanded]
          let valves := s.rc.valves.set r (some (Safety.Faulted s v r))
          (s.sm.mode = .tracking → exec c s = .next { s with
              rc := { s.rc with valves := valves, switching := none }
              handed := s.handed.erase c ++ ended ++ [.safeDemand r .involvedFault] })
          ∧ (s.sm.mode = .safe → s.tables.params.safeRoute = some r → exec c s = .next { s with
              rc := { s.rc with valves := valves, switching := none, latch := true }
              handed := s.handed.erase c ++ ended ++ [.eventPosted .safeLineupFailed (routeNumber r) 2] })))
      ∧ (v.state ≠ .opening → v.state ≠ .closing → exec c s = .next (s.take c)))
    ∧ (¬out → c ∈ s.handed → exec c s = .next (s.take c))

/-- A route that arrives at the end position of a switch's phase (OPEN in phase 1, CLOSED in phase 2): while another route
commanded in the phase is on its way the switch stays in its phase; after the last of phase 1 the routes outside the
target that are OPEN or UNKNOWN are commanded closed, in phase 2; after the last of phase 2, or where none is to be
closed, SWITCH_DONE is posted and the end handed on; with the abandon mark the switch ends SWITCH_ABANDONED with
detail 1 in either phase. -/
def Safety.SwitchGoesOn (r : RouteNo) (v : Valve) (s : State) : Prop :=
  ∀ w, s.rc.switching = some w → r ∈ w.commanded → s.rc.openOrder + 1 < 2 ^ 64 →
    v.state = (if w.phase = .opening then .opening else .closing) →
    s.rc.limits.get r ≠ ⟨w.phase = .opening, w.phase = .closing⟩ →
    let i := Instr.valveLimitChange r (w.phase = .opening) (w.phase = .closing)
    let there := fun x => x ∈ w.arrived ∨ valveIs s x (if w.phase = .opening then .opened else .closed) = true
    let close := allRoutes.filter
      (fun x => !w.target.contains x && !(x == r) && (valveIs s x .opened || valveIs s x .unknown))
    let ends := fun (k : EventKind) (detail : Int) => ∃ t more, exec i s = .next t
      ∧ t.handed = s.handed ++ .eventPosted k w.owner detail :: .switchEndHanded :: more
      ∧ t = { s with rc := t.rc, handed := t.handed }
      ∧ (target s = none → t.rc.switching = none ∧ more = [])
    ((∃ x ∈ w.commanded, x ≠ r ∧ ¬there x) → ∃ t a, exec i s = .next t
      ∧ t.rc.switching = some { w with arrived := a } ∧ r ∈ a
      ∧ t = { s with rc := t.rc })
    ∧ ((∀ x ∈ w.commanded, x ≠ r → there x) →
      (w.abandon = true → ends .switchAbandoned 1)
      ∧ (w.abandon = false → w.phase = .closing → ends .switchDone (routeSetCode w.target))
      ∧ (w.abandon = false → w.phase = .opening → r ∈ w.target →
        (close = [] → ends .switchDone (routeSetCode w.target))
        ∧ (close ≠ [] → (∀ x ∈ close, (s.rc.limits.get x).closed = false) → ∃ t, exec i s = .next t
          ∧ t.rc.switching = some { w with phase := .closing, commanded := close, arrived := [] }
          ∧ (∀ x ∈ close, valveIs t x .closing = true) ∧ valveIs t r .opened = true
          ∧ t = { s with rc := t.rc })))

/-- The last CLOSING route arrives in TRACKING with no switch in progress and the latch clear: a target that does not
stand, of routes whose open limits are not active, begins its switch: the record is filled, SWITCH_BEGUN posted, and
the routes of the target that are not OPEN begin to open. With a LOCKED_OUT route in the target it is not begun, and
SAFE is demanded for the lowest-numbered of them [55]. -/
def Safety.SwitchIsBegun (r : RouteNo) (v : Valve) (s : State) : Prop :=
  ∀ rs owner, s.sm.mode = .tracking → target s = some (rs, owner) → s.rc.switching = none → s.rc.latch = false →
    v.state = .closing → s.rc.limits.get r ≠ ⟨false, true⟩ → (∀ x, x ≠ r → travelling s x = false) →
    (∃ x ∈ rs, valveIs s x .opened = false) →
    let i := Instr.valveLimitChange r false true
    ((∀ x ∈ rs, valveIs s x .lockedOut = false) →
      (∀ x ∈ rs, valveIs s x .opened = false → (s.rc.valves.get x).isSome ∧ (x = r ∨ (s.rc.limits.get x).opened = false)) →
      ∃ t, exec i s = .next t
        ∧ t.rc.switching = some ⟨rs, owner, .opening, rs.filter (fun x => !valveIs s x .opened), [], false, s.stationS⟩
        ∧ (∀ x ∈ rs, valveIs s x .opened = false → valveIs t x .opening = true)
        ∧ (∀ x, x ∉ rs → x ≠ r → t.rc.valves.get x = s.rc.valves.get x)
        ∧ t = { s with rc := t.rc, handed := s.handed ++ [.eventPosted .switchBegun owner (routeSetCode rs)] })
    ∧ (∀ x ∈ rs, valveIs s x .lockedOut = true → (∀ y ∈ rs, routeNumber y < routeNumber x → valveIs s y .lockedOut = false) →
      ∃ t, exec i s = .next t ∧ t.rc.switching = none
        ∧ t = { s with rc := t.rc, handed := s.handed ++ [.safeDemand x .lockedOut] })

/-- A change of a route's limits, where no target stands and no switch is in progress: an OPENING route whose open limit
alone is active enters OPEN with a stamp and its fault count one lower, a CLOSING route CLOSED with no stamp, an OPEN
route that loses its open limit is faulted with VALVE_UNCOMMANDED detail 1, a CLOSED one that loses its closed limit
with detail 2, also where both limits change at once [29], and a FAULT or LOCKED_OUT route only has its limits
recorded. The arrival of a CLOSING route in TRACKING, with no switch in progress, begins the switch to a target that
does not stand; the arrivals of a switch's routes take it through its phases. -/
def Obligations.LimitChangeMovesTheValve : Prop :=
  (∀ (r : RouteNo) (v : Valve) (s : State), s.running = true → s.rc.valves.get r = some v →
    Safety.SwitchGoesOn r v s ∧ Safety.SwitchIsBegun r v s)
  ∧ ∀ (r : RouteNo) (v : Valve) (o c : Bool) (s : State), s.running = true → s.sm.mode = .hold ∨ s.sm.mode = .manual →
    s.rc.switching = none → s.rc.valves.get r = some v → s.rc.limits.get r ≠ ⟨o, c⟩ → s.rc.openOrder + 1 < 2 ^ 64 →
    ∃ t, exec (.valveLimitChange r o c) s = .next t
      ∧ t.rc.limits = s.rc.limits.set r ⟨o, c⟩ ∧ (∀ x, x ≠ r → t.rc.valves.get x = s.rc.valves.get x)
      ∧ t = { s with rc := { s.rc with limits := t.rc.limits, valves := t.rc.valves, openOrder := t.rc.openOrder }
                     handed := t.handed }
      ∧ (v.state = .opening → o = true → c = false →
          t.rc.valves.get r = some { v with
            state := .opened, faults := v.faults - 1, timerStart := none, stamp := s.rc.openOrder + 1 }
          ∧ t.handed = s.handed)
      ∧ (v.state = .closing → o = false → c = true →
          t.rc.valves.get r = some { v with state := .closed, faults := v.faults - 1, timerStart := none }
          ∧ t.handed = s.handed)
      ∧ (v.state = .opening ∨ v.state = .closing → o = true → c = true →
          t.rc.valves.get r = some (Safety.Faulted s v r)
          ∧ .eventPosted .valveSwitchFault (routeNumber r) (min 7 (v.faults + 1)) ∈ t.handed)
      ∧ (v.state = .opening → o = false → t.rc.valves.get r = some v ∧ t.handed = s.handed)
      ∧ (v.state = .opened → (s.rc.limits.get r).opened = true → o = false →
          t.rc.valves.get r = some (Safety.Faulted s v r)
          ∧ .eventPosted .valveUncommanded (routeNumber r) 1 ∈ t.handed)
      ∧ (v.state = .closed → (s.rc.limits.get r).closed = true → c = false →
          t.rc.valves.get r = some (Safety.Faulted s v r)
          ∧ .eventPosted .valveUncommanded (routeNumber r) 2 ∈ t.handed)
      ∧ (v.state = .unknown → o = true → c = false →
          t.rc.valves.get r = some { v with state := .opened, timerStart := none, stamp := s.rc.openOrder + 1 })
      ∧ (v.state = .fault ∨ v.state = .lockedOut → t.rc.valves.get r = some v ∧ t.handed = s.handed)

/-- CLEAR LOCKOUT of a LOCKED_OUT route sets its fault count to 0, takes its state from the limits and posts
LOCKOUT_CLEARED; a route that is not LOCKED_OUT is refused NOT_LOCKED, one not defined BAD_VALUE. Stated where no
target stands and no switch is in progress. -/
def Obligations.ClearLockoutTakesTheLimits : Prop :=
  ∀ (r : RouteNo) (v : Valve) (s : State), s.running = true →
    (s.rc.valves.get r = none → exec (.clearLockout (routeNumber r)) s = .next (s.refuse 0x22 .badValue 0))
    ∧ (s.rc.valves.get r = some v → v.state ≠ .lockedOut →
      exec (.clearLockout (routeNumber r)) s = .next (s.refuse 0x22 .notLocked 0))
    ∧ (s.rc.valves.get r = some v → v.state = .lockedOut → s.sm.mode ≠ .tracking → s.sm.mode ≠ .safe →
        s.rc.switching = none →
      ∃ t, exec (.clearLockout (routeNumber r)) s = .next t
        ∧ .eventPosted .lockoutCleared (routeNumber r) 0 ∈ t.handed
        ∧ t.li = { s.li with reply := some ⟨0xA2, []⟩, assembler := .closed }
        ∧ (∀ x, x ≠ r → t.rc.valves.get x = s.rc.valves.get x)
        ∧ t = { s with rc := t.rc, handed := t.handed, li := t.li }
        ∧ ((t.rc.valves.get r).map (fun v => (v.state, v.faults))
            = some (match (s.rc.limits.get r).opened, (s.rc.limits.get r).closed with
                | true, false => (.opened, 0)
                | false, true => (.closed, 0)
                | false, false => (.unknown, 0)
                | true, true => (if faultLimitOf s r ≤ 1 then .lockedOut else .fault, 1))))

/-- A booking puts the DELIVERY increment on the current tank route, the OPEN tank route with the latest stamp, and what
the INLET increment exceeds it by on the THROUGH route while that is OPEN, and either on the unaccounted volume of the
manifold batch where there is no such route; a volume put on a PRODUCT route of another product flags the batch
CROSS_DELIVERY, SAFE and MANUAL flag it by the mode; the booking goes on to the Cut Planner; without a manifold batch
nothing changes. The premise leaves out volumes past 64 bits [11]. -/
def Obligations.BookingAddsTheIncrement : Prop :=
  (∀ (inlet delivery : Nat) (s : State), s.running = true →
    (∀ m, manifoldOf s.lt.train = some m → Safety.UniqueIds s →
      (∀ r, m.delivery.routes.get r + inlet + delivery < 2 ^ 64) → m.delivery.unaccounted + inlet + delivery < 2 ^ 64 →
      ∃ d, exec (.periodIncrementBooking inlet delivery) s = .next { s with
            lt := { s.lt with train := modEntry m.id (fun e => { e with delivery := d }) s.lt.train }
            handed := s.handed.erase (.periodIncrementBooking inlet delivery) ++ [.bookingStripCheck] }
        ∧ (∀ r, d.routes.get r = m.delivery.routes.get r + (if currentTank s = some r then delivery else 0)
            + (if throughOpen s = some r then inlet - delivery else 0))
        ∧ d.unaccounted = m.delivery.unaccounted + (if currentTank s = none then delivery else 0)
            + (if throughOpen s = none then inlet - delivery else 0)
        ∧ (d.flags.crossDelivery = true ↔ m.delivery.flags.crossDelivery = true
            ∨ (0 < delivery ∧ ∃ r p, currentTank s = some r ∧ productRoute s.tables r = some p ∧ p ≠ m.product))
        ∧ d = { m.delivery with routes := d.routes, unaccounted := d.unaccounted, flags := { m.delivery.flags with
            crossDelivery := d.flags.crossDelivery
            safe := m.delivery.flags.safe || decide (s.sm.mode = .safe)
            manual := m.delivery.flags.manual || decide (s.sm.mode = .manual) } })
    ∧ (manifoldOf s.lt.train = none →
      exec (.periodIncrementBooking inlet delivery) s = .next (s.take (.periodIncrementBooking inlet delivery))))
  ∧ (∀ s : State,
    let tank := fun x => valveIs s x .opened = true
      ∧ (routeKind s.tables x = some .transmix ∨ ∃ p, routeKind s.tables x = some (.product p))
    (∀ r, currentTank s = some r → tank r ∧ ∀ x, tank x → stampOf s x ≤ stampOf s r)
    ∧ (currentTank s = none → ∀ x, ¬tank x)
    ∧ (∀ r, throughOpen s = some r → valveIs s r .opened = true ∧ routeKind s.tables r = some .through)
    ∧ (throughOpen s = none → ∀ r, throughRoute s.tables = some r → valveIs s r .opened = false))

/-! ### The train and its tickets (chapters 1 and 9) -/

/-- ACK TICKET takes the ticket out of the store; a COMPLETE entry that waits at the front of the train then leaves it,
with its ticket at the back of the store and TICKET_READY posted. The ticket lists the routes that took a litre, in
number order, a route no longer defined left out. ID 0 is refused BAD_VALUE, an ID the store does not hold NOT_FOUND.
-/
def Obligations.AckTicketFreesAPlace : Prop :=
  ∀ (id : Nat) (s : State), s.running = true →
    (id = 0 → exec (.ackTicket id) s = .next (s.refuse 0x09 .badValue 0))
    ∧ (id ≠ 0 → (∀ k ∈ s.ts, k.id ≠ id) → exec (.ackTicket id) s = .next (s.refuse 0x09 .notFound 0))
    ∧ (id ≠ 0 → (∃ k ∈ s.ts, k.id = id) →
      let rest := s.ts.eraseP (fun k => k.id == id)
      ((∀ e, s.lt.train.head? = some e → e.complete = false) →
        exec (.ackTicket id) s = .next { s with
          ts := rest
          el := { s.el with attn := if rest = [] then attnWanted { s with ts := [] } else s.el.attn }
          li := { s.li with reply := some ⟨0x89, encUnsigned 1 rest.length⟩, assembler := .closed } })
      ∧ (∀ e back, s.lt.train = e :: back → e.complete = true →
        ∃ t k, exec (.ackTicket id) s = .next t ∧ t.lt.train = back ∧ t.ts = rest ++ [k]
          ∧ k.id = e.id ∧ k.product = e.product ∧ k.adjust = e.adjust ∧ k.flags = e.delivery.flags
          ∧ k.unaccounted = min (e.delivery.unaccounted / 1000) 4294967295
          ∧ k.routes = (allRoutes.filter (fun r => (s.tables.routes.get r).isSome
                && decide (1000 ≤ e.delivery.routes.get r))).map
              (fun r => ⟨r, min (e.delivery.routes.get r / 1000) 4294967295⟩)
          ∧ t = { s with
              lt := { s.lt with train := back }, ts := t.ts, el := { s.el with attn := t.el.attn }
              handed := s.handed ++ [.eventPosted .ticketReady e.id (rest.length + 1 : Nat)]
              li := { s.li with reply := some ⟨0x89, encUnsigned 1 (rest.length + 1)⟩, assembler := .closed } }))

/-- The entry a launch leaves at the back of the train: as launched, with no adjustment, disposition or delivery yet. -/
def Safety.Launched (e : Entry) (id product density launched : Nat) : Prop :=
  e.id = id ∧ e.product = product ∧ e.density = density
  ∧ e.launched = (if launched = 0 then none else some launched) ∧ e.adjust = 0 ∧ e.complete = false
  ∧ e.disposition = none ∧ e.delivery.routes = .all 0 ∧ e.delivery.unaccounted = 0 ∧ e.delivery.endS = none
  ∧ e.stripMark = false ∧ e.protectStands = false ∧ e.firstTrigger = none ∧ e.enterTrigger = none ∧ e.measured = false

/-- What R12 asks of the fields of a launch. -/
def Safety.LaunchFields (s : State) (id product density launched : Nat) : Prop :=
  id ≠ 0 ∧ 1 ≤ product ∧ product ≤ 24 ∧ 5000 ≤ density ∧ density ≤ 11000 ∧ launched ≤ 2000000000
  ∧ ∃ p, productOf s.tables product = some p ∧ p.dmin ≤ density ∧ density ≤ p.dmax

/-- BATCH LAUNCH behind a closed back entry adds an entry with a FAR leading interface at the back entry's reference
position plus its expected volume; into an empty train it adds an inherited entry based at the current S, which
becomes the manifold batch, and the plan line-up becomes its body line-up under the default disposition. -/
def Obligations.LaunchAddsAnEntry : Prop :=
  ∀ (id product density launched : Nat) (s : State), s.running = true → s.sm.mode ≠ .unconfigured →
    Safety.LaunchFields s id product density launched → (∀ e ∈ s.lt.train, e.id ≠ id) → (∀ k ∈ s.ts, k.id ≠ id) →
    (∀ b v, s.lt.train.getLast? = some b → b.volume = some v → s.lt.train.length < 48 →
      ∃ e i, Safety.Launched e id product density launched ∧ e.inherited = false ∧ e.base = none
        ∧ e.delivery.startS = none ∧ e.delivery.flags = .none
        ∧ e.leading = some i ∧ i.pos = b.reference + v ∧ i.track = .far ∧ i.snapshot = none ∧ i.standstills = 0
        ∧ exec (.batchLaunch id product density launched) s = .next { s with
            lt := { s.lt with train := s.lt.train ++ [e] }
            handed := s.handed ++ [.eventPosted .batchAdded id 0]
            li := { s.li with
              reply := some ⟨0x90, encUnsigned 1 (s.lt.train.length + 1) ++ encUnsigned 8 (b.reference + v)⟩
              assembler := .closed } })
    ∧ (s.lt.train = [] →
      ∃ e t more, Safety.Launched e id product density launched ∧ e.inherited = true ∧ e.base = some s.lt.curS
        ∧ e.delivery.startS = some s.lt.curS ∧ e.delivery.flags = { TicketFlags.none with inherited := true }
        ∧ e.leading = none
        ∧ exec (.batchLaunch id product density launched) s = .next t
        ∧ t.lt = { s.lt with train := [e] }
        ∧ t.handed = s.handed ++ .eventPosted .batchAdded id 1 :: more
        ∧ (∀ r, s.tables.params.defaultDisposition = .pass → throughRoute s.tables = some r →
            t.cp.plan = some ⟨[r], id, .body⟩)
        ∧ (∀ r, s.tables.params.defaultDisposition = .transmixAll → firstTransmix s.tables = some r →
            t.cp.plan = some ⟨[r], id, .body⟩)
        ∧ (s.sm.mode = .hold ∨ s.sm.mode = .manual → t.rc = s.rc)
        ∧ t = { s with
            lt := t.lt, cp := { s.cp with plan := t.cp.plan }, rc := t.rc, handed := t.handed
            li := { s.li with
              reply := some ⟨0x90, encUnsigned 1 1 ++ encUnsigned 8 s.lt.curS⟩, assembler := .closed } })

/-- BATCH LAUNCH is refused in the order of R12's table. In UNCONFIGURED every train notice is refused WRONG_MODE before
any other check. -/
def Obligations.NoticesAreRefused : Prop :=
  (∀ (id product density launched : Nat) (s : State), s.running = true → s.sm.mode ≠ .unconfigured →
      let answer := fun c => exec (.batchLaunch id product density launched) s = .next (s.refuse 0x10 c 0)
      (id = 0 ∨ product = 0 ∨ 24 < product ∨ density < 5000 ∨ 11000 < density ∨ 2000000000 < launched → answer .badValue)
      ∧ (id ≠ 0 → 1 ≤ product → product ≤ 24 → 5000 ≤ density → density ≤ 11000 → launched ≤ 2000000000 →
        (productOf s.tables product = none → answer .unknownProduct)
        ∧ (∀ p, productOf s.tables product = some p → density < p.dmin ∨ p.dmax < density → answer .badValue))
      ∧ (Safety.LaunchFields s id product density launched →
        ((∃ e ∈ s.lt.train, e.id = id) ∨ (∃ k ∈ s.ts, k.id = id) → answer .duplicateId)
        ∧ ((∀ e ∈ s.lt.train, e.id ≠ id) → (∀ k ∈ s.ts, k.id ≠ id) →
          (∀ b, s.lt.train.getLast? = some b → b.launched = none → answer .tailOpen)
          ∧ (∀ b v, s.lt.train.getLast? = some b → b.launched = some v → 48 ≤ s.lt.train.length → answer .trainFull))))
  ∧ (∀ (a b c d : Nat) (x : Int) (s : State), s.running = true → s.sm.mode = .unconfigured →
      exec (.batchLaunch a b c d) s = .next (s.refuse 0x10 .wrongMode 0)
      ∧ exec (.batchClose a b) s = .next (s.refuse 0x11 .wrongMode 0)
      ∧ exec (.batchAdjust a x) s = .next (s.refuse 0x12 .wrongMode 0)
      ∧ exec (.batchPlan a b c d) s = .next (s.refuse 0x13 .wrongMode 0)
      ∧ exec (.batchWithdraw a) s = .next (s.refuse 0x14 .wrongMode 0)
      ∧ exec (.interfaceDecide a b) s = .next (s.refuse 0x15 .wrongMode 0))

/-- Two entries that differ at most in the position of a FAR leading interface. -/
def Safety.OnlyFarMoved (x y : Entry) : Prop :=
  y = { x with leading := y.leading }
  ∧ (x.leading = none → y.leading = none)
  ∧ (∀ i, x.leading = some i → ∃ p, y.leading = some { i with pos := p } ∧ (i.track ≠ .far → p = i.pos))

/-- BATCH CLOSE gives the open entry its launched volume, and BATCH ADJUST of an entry whose interfaces are FAR or absent
its adjustment; every FAR position behind is derived afresh and nothing else of the train changes. -/
def Obligations.CloseAndAdjustDeriveTheTrain : Prop :=
  ∀ (id : Nat) (e : Entry) (s : State), s.running = true → s.sm.mode ≠ .unconfigured →
    findEntry id s.lt.train = some e →
    let moved := fun (c : Instr) (f : Entry → Entry) (k : EventKind) (detail : Int) => ∃ t, exec c s = .next t
      ∧ List.Forall₂ Safety.OnlyFarMoved (modEntry id f s.lt.train) t.lt.train ∧ Safety.Derived t.lt.train
      ∧ t = { s with
          lt := { s.lt with train := t.lt.train }
          handed := s.handed ++ [.eventPosted k id detail]
          li := { s.li with reply := some ⟨requestClass c + 0x80, []⟩, assembler := .closed } }
    (∀ l : Nat, e.launched = none → 1 ≤ l → l ≤ 2000000000 → 1 ≤ (l : Int) + e.adjust → (l : Int) + e.adjust ≤ 4000000000 →
      moved (.batchClose id l) (fun e => { e with launched := some l }) .batchClosed l)
    ∧ (∀ l v : Nat, e.launched = some v → exec (.batchClose id l) s = .next (s.refuse 0x11 .notOpen 0))
    ∧ (∀ d : Int, d ≠ 0 → -1000000000 ≤ d → d ≤ 1000000000 →
      ((∀ i, e.leading = some i → i.track = .far) →
        (∀ b i, behindOf id s.lt.train = some b → b.leading = some i → i.track = .far) →
        (∀ l, e.launched = some l → 1 ≤ (l : Int) + e.adjust + d ∧ (l : Int) + e.adjust + d ≤ 4000000000) →
        (e.launched = none → -2000000000 ≤ e.adjust + d ∧ e.adjust + d ≤ 2000000000) →
        moved (.batchAdjust id d) (fun e => { e with adjust := e.adjust + d }) .batchAdjusted d)
      ∧ ((∃ i, e.leading = some i ∧ i.track ≠ .far)
          ∨ (∃ b i, behindOf id s.lt.train = some b ∧ b.leading = some i ∧ i.track ≠ .far) →
        exec (.batchAdjust id d) s = .next (s.refuse 0x12 .frozen 0)))

/-- BATCH PLAN records PASS, TAKE and STRIP for an entry that may still be planned, and clears its strip mark; where the
entry is inherited, the manifold batch, and the plan line-up is its body line-up, that line-up is formed afresh
(stated for PASS where no target stands). A route of another product is refused PRODUCT_MISMATCH, an entry planned too
late FROZEN. BATCH WITHDRAW takes an entry whose leading interface is FAR, behind the manifold batch, out of the
train, derives every FAR position behind it afresh and posts BATCH_WITHDRAWN with its index; any other entry is
refused FROZEN. -/
def Obligations.PlanAndWithdrawChangeTheEntry : Prop :=
  (∀ (id : Nat) (e : Entry) (r : RouteNo) (s : State), s.running = true → s.sm.mode ≠ .unconfigured →
      findEntry id s.lt.train = some e →
      let planned := fun (kind route volume : Nat) (d : Disposition) (shown : List Byte) =>
        (e.inherited = false → exec (.batchPlan id kind route volume) s = .next { s with
          lt := { s.lt with
            train := modEntry id (fun e => { e with disposition := some d, stripMark := false }) s.lt.train }
          li := { s.li with reply := some ⟨0x93, shown⟩, assembler := .closed } })
      (e.complete = false → (∀ i, e.leading = some i → i.track = .far) →
        (∀ b i, e.inherited = true → behindOf id s.lt.train = some b → b.leading = some i → i.track = .far) →
        (∀ x, throughRoute s.tables = some x →
          planned 1 0 0 .pass (encUnsigned 1 1 ++ encUnsigned 1 0 ++ encUnsigned 4 0)
          ∧ (e.inherited = true → manifoldId s.lt.train = id → s.sm.mode ≠ .tracking → s.sm.mode ≠ .safe →
            e.leading = none → (∀ b i, behindOf id s.lt.train = some b → b.leading = some i → i.snapshot = none) →
            (∃ p, s.cp.plan = some p ∧ p.kind = .body ∧ p.owner = id) →
            exec (.batchPlan id 1 0 0) s = .next { s with
              lt := { s.lt with
                train := modEntry id (fun e => { e with disposition := some .pass, stripMark := false }) s.lt.train }
              cp := { s.cp with plan := some ⟨[x], id, .body⟩ }
              li := { s.li with
                reply := some ⟨0x93, encUnsigned 1 1 ++ encUnsigned 1 0 ++ encUnsigned 4 0⟩, assembler := .closed } })
          ∧ (∀ v, 1 ≤ v → v ≤ 50000000 → productRoute s.tables r = some e.product →
            planned 3 (routeNumber r) v (.strip r v)
              (encUnsigned 1 3 ++ encUnsigned 1 (routeNumber r) ++ encUnsigned 4 v)))
        ∧ (∀ c, productRoute s.tables r = some c →
          (c = e.product → planned 2 (routeNumber r) 0 (.take r)
            (encUnsigned 1 2 ++ encUnsigned 1 (routeNumber r) ++ encUnsigned 4 0))
          ∧ (c ≠ e.product →
            exec (.batchPlan id 2 (routeNumber r) 0) s = .next (s.refuse 0x13 .productMismatch 0))))
      ∧ (e.complete = true ∨ (∃ i, e.leading = some i ∧ i.track ≠ .far) →
        exec (.batchPlan id 1 0 0) s = .next (s.refuse 0x13 .frozen 0)))
  ∧ (∀ (id : Nat) (e : Entry) (s : State), s.running = true → s.sm.mode ≠ .unconfigured → findEntry id s.lt.train = some e →
      (∀ i k, e.complete = false → (manifoldOf s.lt.train).map (·.id) ≠ some id → e.leading = some i → i.track = .far →
        s.lt.train[k]? = some e → (∀ j x, j < k → s.lt.train[j]? = some x → x.id ≠ id) →
        ∃ t, exec (.batchWithdraw id) s = .next t
          ∧ List.Forall₂ Safety.OnlyFarMoved (s.lt.train.eraseIdx k) t.lt.train ∧ Safety.Derived t.lt.train
          ∧ t = { s with
              lt := { s.lt with train := t.lt.train }
              handed := s.handed ++ [.eventPosted .batchWithdrawn id (k + 1 : Nat)]
              li := { s.li with reply := some ⟨0x94, []⟩, assembler := .closed } })
      ∧ (e.complete = true ∨ (manifoldOf s.lt.train).map (·.id) = some id ∨ (∃ i, e.leading = some i ∧ i.track ≠ .far) →
        exec (.batchWithdraw id) s = .next (s.refuse 0x14 .frozen 0)))

/-- INTERFACE DECIDE on a channel whose excursion record is open: REJECT records the decision and changes nothing else;
ACCEPT anchors the first FAR or WINDOW interface of the train at the excursion's start, brought to the advance
coordinate, or just behind the entry ahead, with method HOST, and closes the record with the decision and with the S
the channel last took [5] as its end. The interface stands at that position with its residual, unless a completion
takes its batch out of the train. With no open record, or no such interface, NOT_FOUND. ACCEPT takes over the
channel's protection, stated behind an inherited batch: a PROTECT in the list becomes the interface's DIVERT, a plan
line-up of kind PROTECT one of kind TRANSMIX owned by the batch behind, and a protection of neither form is only
released. -/
def Obligations.DecisionOnAnExcursion : Prop :=
  ∀ (ch : Channel) (s : State), s.running = true → s.sm.mode ≠ .unconfigured →
    (∀ x, (s.sd.get ch).excursion = some x → x.isOpen = true →
      exec (.interfaceDecide (channelNumber ch) 2) s = .next { s with
        sd := s.sd.set ch { s.sd.get ch with excursion := some { x with decision := .reject } }
        li := { s.li with reply := some ⟨0x95, []⟩, assembler := .closed } }
      ∧ (firstOpen s.lt.train = none →
        exec (.interfaceDecide (channelNumber ch) 1) s = .next (s.refuse 0x15 .notFound 0))
      ∧ (∀ a e i, firstOpen s.lt.train = some (a, e, i) → Safety.UniqueIds s →
          (i.track = .window → i.snapshot.isSome) →
        let v : Int := if ch = .manifold then (x.start : Int) - s.tables.params.leadVolume else x.start
        let p := if v ≤ (a.reference : Int) then a.reference + 1 else v.toNat
        ∃ t, exec (.interfaceDecide (channelNumber ch) 1) s = .next t
          ∧ t.lt.sLast = p ∧ t.lt.gap = 0 ∧ .eventPosted .interfaceAnchored e.id ((p : Int) - i.pos) ∈ t.handed
          ∧ (behindOf e.id s.lt.train = none → (interfaceOf e.id t.lt.train).isSome)
          ∧ (∀ j, interfaceOf e.id t.lt.train = some j → j.pos = p ∧ j.residual = some ((p : Int) - i.pos)
            ∧ j.method = some .host ∧ (j.track = .anchored ∨ j.track = .cleared)
            ∧ ∃ sn, j.snapshot = some sn ∧ sn.primary = some ch)
          ∧ (t.sd.get ch).excursion
              = some { x with decision := .accept, isOpen := false, endS := some (s.sd.get ch).lastS }
          ∧ t.sd.get (otherChannel ch) = s.sd.get (otherChannel ch)
          ∧ t.li = { s.li with
              reply := some ⟨0x95, encUnsigned 4 e.id ++ encUnsigned 8 p⟩, assembler := .closed }
          ∧ (s.cp.protectedMark.get ch = none → t.cp = s.cp ∧ t.rc = s.rc)
          ∧ (∀ m, s.cp.protectedMark.get ch = some m → a.inherited = true →
            let freed := { s.cp with
              protectedMark := s.cp.protectedMark.set ch none
              protectCount := s.cp.protectCount.set ch (s.cp.protectCount.get ch - 1) }
            let held := fun (y : Action) => y.kind = .protect ∧ y.number = m.number
            let stands := behindOf e.id s.lt.train = none → ∃ b, findEntry e.id t.lt.train = some b ∧ b.protectStands = true
            ((∃ y ∈ s.cp.actions, held y) →
              t.cp = { freed with actions := s.cp.actions.map (fun y => if y.kind = .protect ∧ y.number = m.number then
                { y with kind := .divert, subject := e.id, channel := none } else y) } ∧ stands)
            ∧ ((∀ y ∈ s.cp.actions, ¬held y) →
              (∀ pl, s.cp.plan = some pl → pl.kind = .protect →
                t.cp = { freed with plan := some { pl with kind := .transmix, owner := e.id } } ∧ stands)
              ∧ ((∀ pl, s.cp.plan = some pl → pl.kind ≠ .protect) → t.cp = freed ∧ t.rc = s.rc)))))
    ∧ ((s.sd.get ch).excursion = none ∨ (∃ x, (s.sd.get ch).excursion = some x ∧ x.isOpen = false) →
      ∀ d, d = 1 ∨ d = 2 → exec (.interfaceDecide (channelNumber ch) d) s = .next (s.refuse 0x15 .notFound 0))

/-! ### Metering (chapter 2) -/

/-- A value rounded to nearest, halves away from zero (00_scope.md): `q` is the quotient `a / b` so rounded. -/
def Safety.RoundedQuotient (a b q : Int) : Prop :=
  2 * (b * q - a).natAbs ≤ b.natAbs ∧ (2 * (b * q - a).natAbs = b.natAbs → a.natAbs ≤ (b * q).natAbs)

/-- The correction factor: α × (T − 1500) divided by 100, rounded to nearest with halves away from zero, taken from
1,000,000, limited to 900,000 and 1,100,000; and the five rows of the rule's table. -/
def Obligations.CorrectionFactorIsAsR35 : Prop :=
  (∀ (α : Nat) (T : Int), 900000 ≤ correctionFactor α T ∧ correctionFactor α T ≤ 1100000
    ∧ ∃ term : Int, Safety.RoundedQuotient ((α : Int) * (T - 1500)) 100 term
      ∧ (correctionFactor α T : Int) = max 900000 (min 1100000 (1000000 - term))
      ∧ (1500 < T → correctionFactor α T ≤ 1000000) ∧ (T < 1500 → 1000000 ≤ correctionFactor α T)
      ∧ (50 ≤ α * (T - 1500).natAbs →
          (1500 < T → correctionFactor α T < 1000000) ∧ (T < 1500 → 1000000 < correctionFactor α T))
      ∧ (α = 0 → correctionFactor α T = 1000000))
  ∧ correctionFactor 925 1502 = 999981 ∧ correctionFactor 925 1498 = 1000019 ∧ correctionFactor 950 2740 = 988220
  ∧ correctionFactor 2000 8000 = 900000 ∧ correctionFactor 2000 (-4000) = 1100000

/-- What a period close does to one meter, before (`x`) and after (`y`), with its clamped pulses `n`, weight `w`,
temperature `T` and factor `ctl`: no gross and no standard volume is lost, the residue carrying what a standard
millilitre lacks. -/
def Safety.MeterClosed (x y : Meter) (n w : Nat) (T : Int) (ctl : Nat) : Prop :=
  y.pulses = 0 ∧ y.gross = x.gross + n * w ∧ y.residue < 1000000
  ∧ y.std * 1000000 + y.residue = x.std * 1000000 + x.residue + n * w * ctl
  ∧ y.last.n = n ∧ y.last.gross = n * w ∧ y.last.temp = T ∧ y.last.ctl = ctl ∧ y.last.std = y.std - x.std
  ∧ y.flow = (y.std - x.std) * 18 / 5
  ∧ y.subLatch = y.last.substituted ∧ y.overLatch = y.last.overrange

/-- A pulse adds 1 to the pulse count of its meter, which stays at the largest 32-bit value, and changes nothing else. -/
def Safety.PulseCounted (s : State) : Prop :=
  exec (.meterPulse .inlet) s = .next { s.take (.meterPulse .inlet) with
      mu := { s.mu with inlet := { s.mu.inlet with
        pulses := if s.mu.inlet.pulses < 4294967295 then s.mu.inlet.pulses + 1 else 4294967295 } } }
  ∧ exec (.meterPulse .delivery) s = .next { s.take (.meterPulse .delivery) with
      mu := { s.mu with delivery := { s.mu.delivery with
        pulses := if s.mu.delivery.pulses < 4294967295 then s.mu.delivery.pulses + 1 else 4294967295 } } }

/-- Pulses count, and a period close turns them into gross and standard volume on both meters, declares or ends a
standstill, and hands S to the Line Tracker, the Cut Planner and both channels, and the increments of both meters to
the Route Controller. The premises leave out totalisers past 64 bits [11]. -/
def Obligations.PeriodCloseMetersBothLines : Prop :=
  ∀ s : State, s.running = true → Safety.PulseCounted s
    ∧ ((∀ m, (meterOf s.mu m).gross + (periodRecord s m).1.gross < 2 ^ 64) →
      (∀ m, (meterOf s.mu m).std + (periodRecord s m).1.std < 2 ^ 64) →
      ∃ t more, exec .meterPeriodClose s = .next t
        ∧ (∀ m, Safety.MeterClosed (meterOf s.mu m) (meterOf t.mu m)
            (min (meterOf s.mu m).pulses (pulseLimit s.tables.params m)) (pulseWeight s.tables.params m)
            (periodTemperature s m) (correctionFactor (periodAlpha s) (periodTemperature s m)))
        ∧ (∀ m, (meterOf t.mu m).last.overrange = decide (pulseLimit s.tables.params m < (meterOf s.mu m).pulses)
            ∧ (meterOf t.mu m).last.substituted = (instrumentTemperature s m).isNone)
        ∧ t.handed = s.handed.erase .meterPeriodClose ++ more ++
            [.ltSAdvance t.stationS, .cpSAdvance t.stationS .routeController, .channelSAdvance .advance t.stationS,
              .channelSAdvance .manifold t.stationS,
              .periodIncrementBooking t.mu.inlet.last.std t.mu.delivery.last.std]
        ∧ (∀ m, (meterOf t.mu m).last.overrange = true → (meterOf s.mu m).overLatch = false →
            .eventPosted .meterOverrange (meterNumber m) (min (meterOf s.mu m).pulses 2147483647 : Nat) ∈ more)
        ∧ (∀ m, (meterOf t.mu m).last.substituted = true → (meterOf s.mu m).subLatch = false →
            .eventPosted .tempSubstituted (meterNumber m) (fallback s.tables.params m) ∈ more)
        ∧ t = { s with mu := t.mu, lt := { s.lt with train := t.lt.train }, handed := t.handed }
        ∧ ((∀ m, (meterOf t.mu m).last.substituted = false) → t.lt = s.lt)
        ∧ t.mu.periodDue = s.mu.periodDue
        ∧ (s.mu.flowState = .flowing →
          (s.tables.params.standstillFlow ≤ t.mu.inlet.flow →
            t.mu.flowState = .flowing ∧ t.mu.lowRun = 0 ∧ .standstillCountRaise ∉ more)
          ∧ (t.mu.inlet.flow < s.tables.params.standstillFlow →
            (s.mu.lowRun + 1 < s.tables.params.standstillTime →
              t.mu.flowState = .flowing ∧ t.mu.lowRun = s.mu.lowRun + 1 ∧ .standstillCountRaise ∉ more)
            ∧ (s.tables.params.standstillTime ≤ s.mu.lowRun + 1 →
              t.mu.flowState = .standstill ∧ t.mu.lowRun = 0 ∧ t.mu.resume = 0
              ∧ .eventPosted .standstill 0 t.mu.inlet.flow ∈ more ∧ .standstillCountRaise ∈ more)))
        ∧ (s.mu.flowState = .standstill →
          (s.mu.resume + t.mu.inlet.last.std < s.tables.params.resumeVolume * 1000 →
            t.mu.flowState = .standstill ∧ t.mu.resume = s.mu.resume + t.mu.inlet.last.std)
          ∧ (s.tables.params.resumeVolume * 1000 ≤ s.mu.resume + t.mu.inlet.last.std →
            t.mu.flowState = .flowing ∧ t.mu.lowRun = 0 ∧ t.mu.resume = 0
            ∧ .eventPosted .flowing 0 ((s.mu.resume + t.mu.inlet.last.std) / 1000 : Nat) ∈ more)))

/-- A declared standstill raises the standstill count of every leading interface that is FAR, a count at 255 staying
there, and changes neither any other interface, nor any snapshot, nor anything else. -/
def Obligations.StandstillRaisesFarCounts : Prop :=
  ∀ s : State, s.running = true → ∃ t, exec .standstillCountRaise s = .next t
    ∧ t = { s.take .standstillCountRaise with lt := { s.lt with train := t.lt.train } }
    ∧ t.lt.train.length = s.lt.train.length
    ∧ ∀ (k : Nat) (e : Entry), s.lt.train[k]? = some e →
      (∀ i, e.leading = some i → i.track = .far → t.lt.train[k]? = some { e with
        leading := some { i with standstills := if i.standstills < 255 then i.standstills + 1 else 255 } })
      ∧ ((∀ i, e.leading = some i → i.track ≠ .far) → t.lt.train[k]? = some e)

/-! ### Polling (chapter 3) -/

/-- A poll tick with no cycle running begins one with the first configured slot and clears the overrun latch; one that
finds a cycle running defers a cycle, and posts POLL_OVERRUN with the elapsed time where the latch was clear. The sent
request opens the response wait, with the response timeout as it stands at that moment by the model's choice [27], and
counts the poll. -/
def Obligations.PollTickAndRequest : Prop :=
  ∀ (k : SlotNo) (s : State), s.running = true →
    (s.ip.cycle = none →
      (configured (s.tables.slots.get k) = true →
        (∀ j, slotNumber j < slotNumber k → configured (s.tables.slots.get j) = false) →
        exec .pollTick s = .next { s.take .pollTick with
          ip := { s.ip with cycle := some ⟨s.clock.ms, k, .sending⟩, deferred := false, overrunLatch := false } })
      ∧ ((∀ j, configured (s.tables.slots.get j) = false) → exec .pollTick s = .next { s.take .pollTick with
          ip := { s.ip with deferred := false, overrunLatch := false } }))
    ∧ (∀ c, s.ip.cycle = some c → exec .pollTick s = .next { s with
        ip := { s.ip with deferred := true, overrunLatch := true }
        handed := s.handed.erase .pollTick ++ (if s.ip.overrunLatch then []
          else [.eventPosted .pollOverrun 0 (s.clock.ms - c.startMs : Nat)]) })
    ∧ (∀ start, s.ip.cycle = some ⟨start, k, .sending⟩ → exec .pollRequestSent s = .next { s.take .pollRequestSent with
        ip := { s.ip with
          cycle := some ⟨start, k, .waiting (s.clock.ms + s.tables.params.responseTimeout)⟩
          slots := s.ip.slots.set k { s.ip.slots.get k with polls := ((s.ip.slots.get k).polls + 1) % 4294967296 } } })

/-- The cycle after a poll of slot `k`: the next configured slot; or, with none behind it, the cycle's end, or a new cycle
where one was deferred. -/
def Safety.AfterPoll (s : State) (start : Nat) (k : SlotNo) (c : Option Cycle) (deferred : Bool) : Prop :=
  let last := ∀ j, slotNumber k < slotNumber j → configured (s.tables.slots.get j) = false
  (∀ j, slotNumber k < slotNumber j → configured (s.tables.slots.get j) = true →
    (∀ i, slotNumber k < slotNumber i → slotNumber i < slotNumber j → configured (s.tables.slots.get i) = false) →
    c = some ⟨start, j, .sending⟩ ∧ deferred = s.ip.deferred)
  ∧ (last → deferred = false ∧ (s.ip.deferred = false → c = none)
    ∧ (s.ip.deferred = true →
      (∀ j, configured (s.tables.slots.get j) = true →
        (∀ i, slotNumber i < slotNumber j → configured (s.tables.slots.get i) = false) →
        c = some ⟨s.clock.ms, j, .sending⟩)
      ∧ ((∀ j, configured (s.tables.slots.get j) = false) → c = none)))

/-- A response that passes every check, with the wait open and nothing assembled: the slot takes the value with the S
standing; not FAILED, it becomes GOOD, its health falls by one and a density slot's channel is handed the reading;
FAILED, its recovery run grows, and at the recovery count it is GOOD again, posts SLOT_RECOVERED and hands its channel
the recovery and then the reading. One accepted SUSPECT leaves the health, gives that quality and is handed as such;
on a FAILED slot it ends the recovery run. Bytes before a start byte are discarded, and fewer than nine from it are
held: that one row brings any number of bytes is the model's choice [34]. With no wait open the bytes are discarded.
-/
def Obligations.GoodResponseIsTaken : Prop :=
  ∀ (bs : List Byte) (k : SlotNo) (start d : Nat) (s : State), s.running = true →
    (s.ip.cycle = some ⟨start, k, .waiting d⟩ → s.ip.assembled = [] →
      let c := s.tables.slots.get k
      let x := s.ip.slots.get k
      let v := responseValue bs
      let i := Instr.instrumentResponse bs
      let reading := fun q => match channelOfRole c.role with
        | some ch => [Instr.channelReading ch v q s.stationS]
        | none => []
      (∃ cyc dfd, Safety.AfterPoll s start k cyc dfd
        ∧ ∀ r, judgeResponse s.tables c x bs = r →
          let y := { x with last := some ⟨v, s.stationS⟩, rateRef := some v, result := r }
          let becomes := fun (z : SlotState) (more : List Instr) => exec i s = .next { s with
            ip := { s.ip with cycle := cyc, deferred := dfd, slots := s.ip.slots.set k z }
            handed := s.handed.erase i ++ more }
          (r = .good →
            (x.quality ≠ .failed → becomes { y with quality := .good, health := x.health - 1 } (reading .good))
            ∧ (x.quality = .failed → x.recovery + 1 < c.recoveryCount → becomes { y with recovery := x.recovery + 1 } [])
            ∧ (x.quality = .failed → c.recoveryCount ≤ x.recovery + 1 →
              becomes { y with quality := .good, health := 0, recovery := 0 }
                (.eventPosted .slotRecovered (slotNumber k) (min x.failures 2147483647 : Nat)
                  :: (match channelOfRole c.role with
                      | some ch => [.channelSlotRecovered ch]
                      | none => []) ++ reading .good)))
          ∧ (∀ cause, r = .suspect cause →
            (x.quality ≠ .failed → becomes { y with quality := .suspect } (reading .suspect))
            ∧ (x.quality = .failed → becomes { y with recovery := 0 } [])))
      ∧ (∀ pre q, bs = pre ++ q → (∀ b ∈ pre, b ≠ 0x5A#8) → (q = [] ∨ q.head? = some 0x5A#8) → q.length < 9 →
        exec i s = .next { s.take i with ip := { s.ip with assembled := q } }))
    ∧ ((∀ c, s.ip.cycle = some c → c.phase = .sending) →
      exec (.instrumentResponse bs) s = .next (s.take (.instrumentResponse bs)))

/-- A response timeout that has run out with the wait open, and a whole response that fails the FRAME check or is dropped,
are failed polls: the failure count steps; below the threshold the health counter rises and a value is HELD; at it the
slot is FAILED with health 1, its reference cleared, SLOT_FAILED posted with the cause and its channel told; a FAILED
slot's health rises to 15 at most and its recovery run ends. A partial frame is discarded. A response with another
address or a CRC that does not match fails the FRAME check. A timeout left over from a poll that has ended does
nothing [46]. -/
def Obligations.TimeoutIsAFailedPoll : Prop :=
  ∀ (k : SlotNo) (start d : Nat) (s : State), s.running = true → s.ip.cycle = some ⟨start, k, .waiting d⟩ →
    let c := s.tables.slots.get k
    let x := s.ip.slots.get k
    (∃ cyc dfd, Safety.AfterPoll s start k cyc dfd
      ∧ ∀ (i : Instr) (r : LastResult),
        (i = .responseTimeout ∧ r = .noResponse ∧ (d ≤ s.clock.ms ∨ .responseTimeout ∉ s.handed))
          ∨ (∃ bs, i = .instrumentResponse bs ∧ s.ip.assembled = [] ∧ responseShape bs = true
            ∧ r = judgeResponse s.tables c x bs ∧ (r = .frameFault ∨ ∃ cause, r = .dropped cause)) →
        let y := { x with result := r, failures := (x.failures + 1) % 4294967296 }
        let becomes := fun (z : SlotState) (more : List Instr) => exec i s = .next { s with
          ip := { s.ip with cycle := cyc, deferred := dfd, assembled := [], slots := s.ip.slots.set k z }
          handed := s.handed.erase i ++ more }
        (x.quality ≠ .failed → x.health + 1 < c.failThreshold →
          becomes { y with health := x.health + 1, quality := if x.quality = .noValue then .noValue else .held } [])
        ∧ (x.quality ≠ .failed → c.failThreshold ≤ x.health + 1 →
          becomes { y with health := 1, quality := .failed, recovery := 0, rateRef := none }
            (.eventPosted .slotFailed (slotNumber k) (match r with
                | .noResponse => 1
                | .frameFault => 2
                | .dropped .status => 3
                | .dropped .range => 4
                | .dropped .rate => 5
                | _ => 0)
              :: (match channelOfRole c.role with
                  | some ch => [.channelSlotLost ch]
                  | none => [])))
        ∧ (x.quality = .failed → becomes { y with health := min 15 (x.health + 1), recovery := 0 } []))
    ∧ (∀ bs, responseShape bs = true → field bs 1 1 ≠ c.address ∨ field bs 7 2 ≠ (crc16 (fieldBytes bs 1 6)).toNat →
      judgeResponse s.tables c x bs = .frameFault)
    ∧ (s.clock.ms < d → .responseTimeout ∈ s.handed → exec .responseTimeout s = .next (s.take .responseTimeout))

/-! ### The signature channels (chapter 4) -/

/-- The mix fraction: 1000 × (ρ − ρA) over ρB − ρA, rounded to nearest with halves away from zero, limited to 0 and 1000;
a reading on the ahead side of ρA gives 0 and one beyond ρB 1000; SUSPECT readings as GOOD ones; and the rule's table.
-/
def Obligations.MixFractionIsAsR65 : Prop :=
  (∀ (ρA ρB ρ : Int), ρA ≠ ρB → mixFraction ⟨ρA, ρB⟩ ρ ≤ 1000
    ∧ (∃ q : Int, Safety.RoundedQuotient (1000 * (ρ - ρA)) (ρB - ρA) q
        ∧ (mixFraction ⟨ρA, ρB⟩ ρ : Int) = max 0 (min 1000 q))
    ∧ ((ρA < ρB ∧ ρ ≤ ρA) ∨ (ρB < ρA ∧ ρA ≤ ρ) → mixFraction ⟨ρA, ρB⟩ ρ = 0)
    ∧ ((ρA < ρB ∧ ρB ≤ ρ) ∨ (ρB < ρA ∧ ρ ≤ ρB) → mixFraction ⟨ρA, ρB⟩ ρ = 1000))
  ∧ (∀ (c : ChannelState) (p : RefPair) (ρ : Int) (q : ReadingQuality) (tag : Nat), c.pair = some p →
      currentFraction { c with current := some ⟨ρ, q, tag⟩ } = some (mixFraction p ρ))
  ∧ [8360, 8322, 8012, 7915, 7510, 7450].map (mixFraction ⟨8350, 7480⟩) = [0, 32, 389, 500, 966, 1000]

/-- A reading as its channel keeps it: the current reading and the S of the event. -/
def Safety.Noted (c : ChannelState) (v : Int) (q : ReadingQuality) (tag : Nat) : ChannelState :=
  { c with current := some ⟨v, q, tag⟩, lastS := max c.lastS tag }

/-- What a channel that gives an interface up hands on: where it is MANIFOLD and the interface PRIMARY, that it has ceased
to hold one (R96). -/
def Safety.Ceased (ch : Channel) (ho : HandOff) : List Instr :=
  if ch = .manifold ∧ ho.role = .primary then [.manifoldPrimaryCeased] else []

/-- The levels a fraction reaches that have no crossing yet, in the order h, 500, t; none for a CONFIRMING interface. -/
def Safety.Reached (ho : HandOff) (c : ChannelState) (f : Nat) : List Level :=
  if ho.role = .primary then allLevels.filter (fun l => decide (levelFraction ho l ≤ f) && (c.crossings.get l).isNone) else []

/-- The crossings once the levels reached are recorded at `tag`. -/
def Safety.Crossed (ho : HandOff) (c : ChannelState) (f tag : Nat) (x : Levels (Option Nat)) : Prop :=
  ∀ l, x.get l = if ho.role = .primary ∧ c.crossings.get l = none ∧ levelFraction ho l ≤ f then some tag
    else c.crossings.get l

/-- A channel come to CLEAN with a body window: nothing followed, and all else as it stands. -/
def Safety.CleanOf (c : ChannelState) (body : List Int) : ChannelState :=
  { c with
    mode := .clean, body := body, active := none, ghost := none, pair := none, depStart := none, expiryMark := false
    settleStart := none, settleBuf := [], crossings := .all none }

/-- The channel at an excursion's end: CLEAN with its body window, the record closed at `now`. -/
def Safety.ExcursionOver (c : ChannelState) (x : Excursion) (now : Nat) : ChannelState :=
  { Safety.CleanOf c c.body with excursion := some { x with endS := some now, isOpen := false }, inBand := none }

/-- The settle buffer with a reading, the most recent 16, a SUSPECT one left out. -/
def Safety.Settling (buf : List Int) (v : Int) (q : ReadingQuality) : List Int :=
  if q = .good then (buf ++ [v]).drop (buf.length + 1 - 16) else buf

/-- The body window a settle buffer seeds: its readings within the body band of the last. -/
def Safety.Seeded (band : Nat) (buf body : List Int) : Prop :=
  (buf = [] → body = []) ∧ ∀ pre g, buf = pre ++ [g] → body = buf.filter (fun x => decide ((x - g).natAbs ≤ band))

/-- The crossings a channel recorded for an interface discarded: those on their way, and those in the record of an
interface whose primary channel it is, and of no other [56]; no other entry changes. -/
def Safety.CrossingsGone (ch : Channel) (id : Nat) (c : ChannelState) (i : Instr) (more : List Instr) (s t : State) : Prop :=
  t.handed = (s.handed.erase i).filter (fun y => !crossingOf ch id y) ++ more
  ∧ (∀ b, b ≠ id → findEntry b t.lt.train = findEntry b s.lt.train)
  ∧ (∀ j, interfaceOf id s.lt.train = some j → ∃ x, interfaceOf id t.lt.train = some { j with crossings := x }
    ∧ ∀ l, x.get l = if (j.snapshot.bind (·.primary)) = some ch ∧ j.crossings.get l = c.crossings.get l then none
        else j.crossings.get l)

/-- What a reading does in LOCKED and in DEPARTING, with an interface followed. -/
def Safety.ReadsDeparture (ch : Channel) (v : Int) (q : ReadingQuality) (tag : Nat) (s : State) : Prop :=
  let i := Instr.channelReading ch v q tag
  let c := Safety.Noted (s.sd.get ch) v q tag
  let becomes := fun (c' : ChannelState) (more : List Instr) => exec i s = .next { s with
    sd := s.sd.set ch c', handed := s.handed.erase i ++ more }
  let hys := s.tables.params.hysteresis
  ∀ ho p, c.active = some ho → c.pair = some p →
    let f := mixFraction p v
    (c.mode = .locked →
      (f + hys < ho.fd → becomes { c with mode := .watch }
        [.eventPosted .detectorCleared ho.batch (if ch = .manifold then f + 10000 else f)])
      ∧ (ho.fd ≤ f + hys → becomes c []))
    ∧ (∀ d, c.mode = .departing → c.depStart = some d →
      (f + hys < ho.fd → c.waiting = none →
        let ended := .eventPosted .falseDeparture ho.batch ((tag : Int) - d)
        let leaves := fun (c' : ChannelState) (more : List Instr) => ∃ t, exec i s = .next t
          ∧ Safety.CrossingsGone ch ho.batch c i more s t
          ∧ t = { s with sd := s.sd.set ch c', lt := { s.lt with train := t.lt.train }, handed := t.handed }
        (c.expiryMark = false → leaves { c with mode := .watch, depStart := none, crossings := .all none } [ended])
        ∧ (c.expiryMark = true →
          leaves (Safety.CleanOf c c.body) (ended :: .missReturned ch ho.batch :: Safety.Ceased ch ho)))
      ∧ (ho.fd ≤ f + hys → ∃ x, Safety.Crossed ho c f tag x
        ∧ (tag < d + s.tables.params.holdVolume → becomes { c with crossings := x }
            ((Safety.Reached ho c f).map (fun l => .crossingToLineTracker ch ho.batch l tag)))
        ∧ (d + s.tables.params.holdVolume ≤ tag →
          becomes { c with mode := .mixed, expiryMark := false, crossings := x }
            ((Safety.Reached ho c f).map (fun l => .crossingToLineTracker ch ho.batch l tag)
              ++ match ho.role with
                | .primary => .anchorHanded ho.batch d (if ch = .advance then .advance else .manifold)
                    :: allLevels.filterMap (fun l => (x.get l).map
                        (fun n => .crossingToCutPlanner ch ho.batch l n false .routeController))
                | .confirming => [.confirmDepartureHanded ho.batch d]))))

/-- What a reading does in MIXED and SETTLING, with an interface followed. -/
def Safety.ReadsMixed (ch : Channel) (v : Int) (q : ReadingQuality) (tag : Nat) (s : State) : Prop :=
  let i := Instr.channelReading ch v q tag
  let c := Safety.Noted (s.sd.get ch) v q tag
  let becomes := fun (c' : ChannelState) (more : List Instr) => exec i s = .next { s with
    sd := s.sd.set ch c', handed := s.handed.erase i ++ more }
  let hys := s.tables.params.hysteresis
  ∀ ho p d, c.active = some ho → c.pair = some p → c.depStart = some d →
    let f := mixFraction p v
    ((c.mode = .mixed ∨ c.mode = .settling) → c.waiting = none → d + ho.maxMix < tag →
      let forced := if ho.role = .primary then allLevels.filter (fun l => (c.crossings.get l).isNone) else []
      becomes { Safety.CleanOf c [] with mode := .acquire, acquire := [] }
        (forced.map (fun l => .crossingToLineTracker ch ho.batch l tag)
          ++ forced.map (fun l => .crossingToCutPlanner ch ho.batch l tag true .routeController)
          ++ .eventPosted .longMix ho.batch forced.length :: Safety.Ceased ch ho))
    ∧ (c.mode = .mixed → tag ≤ d + ho.maxMix → ∃ x, Safety.Crossed ho c f tag x
      ∧ becomes { c with
            crossings := x
            mode := if ho.fa ≤ f then .settling else .mixed
            settleStart := if ho.fa ≤ f then some tag else c.settleStart
            settleBuf := if ho.fa ≤ f then (if q = .good then [v] else []) else c.settleBuf }
          ((Safety.Reached ho c f).map (fun l => .crossingToLineTracker ch ho.batch l tag)
            ++ (Safety.Reached ho c f).map (fun l => .crossingToCutPlanner ch ho.batch l tag false .routeController)))
    ∧ (∀ b, c.mode = .settling → c.settleStart = some b → tag ≤ d + ho.maxMix →
      (f + hys < ho.fa → becomes { c with mode := .mixed, settleStart := none, settleBuf := [] } [])
      ∧ (ho.fa ≤ f + hys →
        (tag < b + s.tables.params.settleVolume → becomes { c with settleBuf := Safety.Settling c.settleBuf v q } [])
        ∧ (b + s.tables.params.settleVolume ≤ tag → c.waiting = none →
          ∃ body, Safety.Seeded s.tables.params.bodyBand (Safety.Settling c.settleBuf v q) body
            ∧ becomes (Safety.CleanOf c body) (Safety.Ceased ch ho))))

/-- What a reading does in EXCURSION, with no interface held. -/
def Safety.ReadsExcursion (ch : Channel) (v : Int) (q : ReadingQuality) (tag : Nat) (s : State) : Prop :=
  let i := Instr.channelReading ch v q tag
  let c := Safety.Noted (s.sd.get ch) v q tag
  let becomes := fun (c' : ChannelState) (more : List Instr) => exec i s = .next { s with
    sd := s.sd.set ch c', handed := s.handed.erase i ++ more }
  ∀ x m, c.mode = .excursion → c.excursion = some x → c.active = none → c.waiting = none → c.body ≠ [] →
    Safety.RoundedQuotient c.body.sum c.body.length m → 0 < s.tables.params.settleVolume →
    (s.tables.params.bodyBand < (v - m).natAbs → becomes { c with inBand := none } [])
    ∧ ((v - m).natAbs ≤ s.tables.params.bodyBand →
      (c.inBand = none → becomes { c with inBand := some tag } [])
      ∧ (∀ b, c.inBand = some b →
        (tag < b + s.tables.params.settleVolume → becomes c [])
        ∧ (b + s.tables.params.settleVolume ≤ tag → becomes (Safety.ExcursionOver c x tag)
            [.eventPosted .excursionEnded (channelNumber ch) ((tag : Int) - x.start),
              .excursionEndHanded ch tag x.decision .routeController])))

/-- What a reading does in each state of a channel: the first GOOD reading leaves OFF; a SUSPECT one empties the acquire
run, and the fourth GOOD one in band brings CLEAN with the run as body window; in CLEAN a reading in band closes a
measure and a GOOD one joins the window, one out of band opens a measure; in WATCH a fraction below fd changes
nothing, and one at fd or above begins a departure, its crossings handed to the Line Tracker; in LOCKED one below fd
less the hysteresis clears the detector; in DEPARTING such a one ends the departure as false and discards its
crossings, any other records levels, and past the hold volume confirms the departure; in MIXED levels are recorded and
handed to both blocks, and fa brings SETTLING; past the long-mix limit both states declare the zone long; in SETTLING
a fall below fa less the hysteresis brings MIXED back, and the settle volume brings CLEAN on the product behind; in
EXCURSION readings in band open a run, one out of band closes it, and the settle volume ends the excursion. Where the
hold volume and the long-mix limit meet other tests of one reading, the order is that of [16] and [17]; the reading
that confirms a departure is not taken again in MIXED, by the model's choice [64]. The S at which a late reading
declares a zone long or ends an excursion is its own tag, by the model's choice [66]. That a false departure leaves
the crossings in the record of an interface whose primary channel is the other one is the model's choice [56]. -/
def Obligations.ReadingsMoveTheChannel : Prop :=
  ∀ (ch : Channel) (v : Int) (q : ReadingQuality) (tag : Nat) (s : State), s.running = true →
    Safety.ReadsDeparture ch v q tag s ∧ Safety.ReadsMixed ch v q tag s ∧ Safety.ReadsExcursion ch v q tag s ∧
    let i := Instr.channelReading ch v q tag
    let c := Safety.Noted (s.sd.get ch) v q tag
    let becomes := fun (c' : ChannelState) (more : List Instr) => exec i s = .next { s with
      sd := s.sd.set ch c', handed := s.handed.erase i ++ more }
    (c.mode = .off → q = .good → becomes { c with mode := .acquire, acquire := [v] } [.channelLeftOffReport ch])
    ∧ (c.mode = .off → q = .suspect → becomes c [])
    ∧ (c.mode = .acquire → q = .suspect → becomes { c with acquire := [] } [])
    ∧ (c.mode = .acquire → q = .good → c.acquire.length < 3 → becomes { c with acquire := c.acquire ++ [v] } [])
    ∧ (∀ a b d m, c.mode = .acquire → q = .good → c.acquire = [a, b, d] → c.active = none → c.waiting = none →
        Safety.RoundedQuotient (a + b + d + v) 4 m →
        ((a - m).natAbs ≤ s.tables.params.bodyBand ∧ (b - m).natAbs ≤ s.tables.params.bodyBand
          ∧ (d - m).natAbs ≤ s.tables.params.bodyBand ∧ (v - m).natAbs ≤ s.tables.params.bodyBand →
          ∃ c', becomes c' [] ∧ c'.mode = .clean ∧ c'.body = [a, b, d, v] ∧ c'.acquire = [] ∧ c'.active = none)
        ∧ (s.tables.params.bodyBand < (v - m).natAbs → becomes { c with acquire := [a, b, d, v] } []))
    ∧ (∀ m, c.mode = .clean → c.body ≠ [] → Safety.RoundedQuotient c.body.sum c.body.length m →
        ((v - m).natAbs ≤ s.tables.params.bodyBand → becomes { c with
            body := if q = .good then (c.body ++ [v]).drop (c.body.length + 1 - 16) else c.body
            measure := none } [])
        ∧ (s.tables.params.bodyBand < (v - m).natAbs → c.measure = none → 0 < s.tables.params.holdVolume →
            becomes { c with measure := some ⟨tag, v⟩ } []))
    ∧ (∀ ho p, c.mode = .watch → c.active = some ho → c.pair = some p →
        (mixFraction p v < ho.fd → becomes c [])
        ∧ (ho.fd ≤ mixFraction p v → c.crossings = .all none →
          ∃ c', c'.mode = .departing ∧ c'.depStart = some tag
            ∧ Safety.Crossed ho c (mixFraction p v) tag c'.crossings
            ∧ becomes c' ((Safety.Reached ho c (mixFraction p v)).map
                (fun l => .crossingToLineTracker ch ho.batch l tag))))

/-- What an S advance completes: the hold volume of an open measure brings EXCURSION, with its record, BODY_EXCURSION and
the start handed to the Cut Planner; the hold volume of a departure brings MIXED (the same S advance tests nothing
there, by the model's choice [64]), the anchor handed first and then the crossings recorded; past the long-mix limit a
mixed zone forces the levels without a crossing at this S, the S of the event by the model's choice [66], and the
channel goes to ACQUIRE; the settle volume brings a SETTLING channel to CLEAN on the product behind and ends an
excursion in band. With no volume completed only the S is noted. -/
def Obligations.SAdvanceCompletesVolumes : Prop :=
  ∀ (ch : Channel) (newS : Nat) (s : State), s.running = true →
    let i := Instr.channelSAdvance ch newS
    let c := { s.sd.get ch with lastS := max (s.sd.get ch).lastS newS }
    let base := s.handed.erase i
    (∀ m mean, c.mode = .clean → c.measure = some m → (∀ x, c.excursion = some x → x.isOpen = false) → c.body ≠ [] →
        Safety.RoundedQuotient c.body.sum c.body.length mean →
      (m.start + s.tables.params.holdVolume ≤ newS → exec i s = .next { s with
        sd := s.sd.set ch { c with
          mode := .excursion, measure := none, inBand := none
          excursion := some ⟨m.start, m.first - mean, none, .none, true⟩ }
        handed := base ++ [.eventPosted .bodyExcursion (channelNumber ch) (m.first - mean),
          .excursionStartHanded ch m.start .routeController] })
      ∧ (newS < m.start + s.tables.params.holdVolume → exec i s = .next { s with
        sd := s.sd.set ch c, handed := base }))
    ∧ (∀ ho d, c.mode = .departing → c.active = some ho → ho.role = .primary → c.depStart = some d →
      (d + s.tables.params.holdVolume ≤ newS → exec i s = .next { s with
        sd := s.sd.set ch { c with mode := .mixed, expiryMark := false }
        handed := base ++ .anchorHanded ho.batch d (if ch = .advance then .advance else .manifold)
          :: allLevels.filterMap (fun l => (c.crossings.get l).map
              (fun x => .crossingToCutPlanner ch ho.batch l x false .routeController)) })
      ∧ (newS < d + s.tables.params.holdVolume → exec i s = .next { s with sd := s.sd.set ch c, handed := base }))
    ∧ (∀ ho d, c.mode = .mixed → c.active = some ho → ho.role = .primary → c.depStart = some d →
      (d + ho.maxMix < newS →
        let forced := allLevels.filter (fun l => (c.crossings.get l).isNone)
        ∃ t more, exec i s = .next t ∧ (t.sd.get ch).mode = .acquire ∧ (t.sd.get ch).active = none
          ∧ (t.sd.get ch).body = [] ∧ (t.sd.get ch).pair = none ∧ (t.sd.get ch).waiting = c.waiting
          ∧ t.handed = base ++ forced.map (fun l => .crossingToLineTracker ch ho.batch l newS)
            ++ forced.map (fun l => .crossingToCutPlanner ch ho.batch l newS true .routeController)
            ++ .eventPosted .longMix ho.batch forced.length :: more
          ∧ t = { s with sd := s.sd.set ch (t.sd.get ch), handed := t.handed })
      ∧ (newS ≤ d + ho.maxMix → exec i s = .next { s with sd := s.sd.set ch c, handed := base }))
    ∧ (∀ ho d b, c.mode = .settling → c.active = some ho → c.depStart = some d → c.settleStart = some b → c.waiting = none →
        newS ≤ d + ho.maxMix →
      (b + s.tables.params.settleVolume ≤ newS → ∃ body, Safety.Seeded s.tables.params.bodyBand c.settleBuf body
        ∧ exec i s = .next { s with sd := s.sd.set ch (Safety.CleanOf c body), handed := base ++ Safety.Ceased ch ho })
      ∧ (newS < b + s.tables.params.settleVolume → exec i s = .next { s with sd := s.sd.set ch c, handed := base }))
    ∧ (∀ x, c.mode = .excursion → c.excursion = some x → c.active = none → c.waiting = none →
      (∀ b, c.inBand = some b → b + s.tables.params.settleVolume ≤ newS → exec i s = .next { s with
        sd := s.sd.set ch (Safety.ExcursionOver c x newS)
        handed := base ++ [.eventPosted .excursionEnded (channelNumber ch) ((newS : Int) - x.start),
          .excursionEndHanded ch newS x.decision .routeController] })
      ∧ ((∀ b, c.inBand = some b → newS < b + s.tables.params.settleVolume) →
        exec i s = .next { s with sd := s.sd.set ch c, handed := base }))

/-- The volumetric cut points of a position and a mix, in the order h, 500, t (R95). -/
def Safety.Points (s : State) (pos mix : Nat) : List CutPoint :=
  [⟨.h, pos - mix * s.tables.params.volumetricFactor / 1000 / 2⟩, ⟨.mid, pos⟩,
    ⟨.t, pos + mix * s.tables.params.volumetricFactor / 1000 / 2⟩]

/-- What a CLEAN channel `c` that is handed an interface with the reference pair `p` becomes, and what it hands on (R64,
R70): WATCH; with its current reading at fd or above LOCKED with DETECTOR_LOCKED; or, with too little contrast, CLEAN
with low contrast reported. -/
def Safety.Takes (ch : Channel) (ho : HandOff) (p : RefPair) (c d : ChannelState) (s : State) (more : List Instr) : Prop :=
  let f := c.current.map (fun r => mixFraction p r.value)
  let holds := d.active = some ho ∧ d.waiting = none ∧ d.pair = some p ∧ d.measure = none ∧ d.body = c.body
    ∧ d.current = c.current
  (s.tables.params.minContrast ≤ (p.behind - p.ahead).natAbs →
    ((∀ n, f = some n → n < ho.fd) → d.mode = .watch ∧ holds ∧ more = [])
    ∧ (∀ n, f = some n → ho.fd ≤ n → d.mode = .locked ∧ holds
      ∧ more = [.eventPosted .detectorLocked ho.batch (if ch = .manifold then n + 10000 else n)]))
  ∧ ((p.behind - p.ahead).natAbs < s.tables.params.minContrast → d.mode = .clean ∧ d.active = none ∧ d.waiting = none
      ∧ d.body = c.body
      ∧ more = .lowContrastReport ch ho.batch ho.role (p.behind - p.ahead).natAbs :: Safety.Ceased ch ho)

/-- The reference pair of a hand-off (R64): the nominal density behind, and ahead the body mean of a channel with 4
readings or more in its body window, else the nominal density. -/
def Safety.PairFor (c : ChannelState) (ho : HandOff) (p : RefPair) (s : State) : Prop :=
  ∃ e a, findEntry ho.batch s.lt.train = some e ∧ aheadOf ho.batch s.lt.train = some a ∧ p.behind = (e.density : Int)
    ∧ (c.body.length < 4 → p.ahead = (a.density : Int))
    ∧ (4 ≤ c.body.length → Safety.RoundedQuotient c.body.sum c.body.length p.ahead)

/-- What becomes of a CONFIRMING interface of batch `k` that gives way to a PRIMARY one (R70, R97) [42]: where the
confirmation record names it, its confirmation ends with detail 3, first of all that is handed on, and the record is
emptied (other candidates may be passed over at that S); else nothing changes. Crossings of its own go only where
MANIFOLD is its primary. -/
def Safety.GivesWay (k : Nat) (s t : State) (pre : List Instr) : Prop :=
  let named := s.lt.confirm.map (·.batch) = some k
  (named → t.lt.confirm = none ∧ ∃ more, pre = .eventPosted .mfNoConfirm k 3 :: more)
  ∧ (¬named → t.lt.confirm = s.lt.confirm ∧ pre = [] ∧ ∀ b, b ≠ k → findEntry b t.lt.train = findEntry b s.lt.train)
  ∧ (∀ j, interfaceOf k s.lt.train = some j → ∃ x, (primaryOf s k ≠ some .manifold → x = j.crossings)
      ∧ interfaceOf k t.lt.train = some { j with
          crossings := x, mfResult := if s.lt.confirm.map (·.batch) = some k then some .noConfirm else j.mfResult })
  ∧ (∀ b e, findEntry b s.lt.train = some e → ∃ f, findEntry b t.lt.train = some f ∧ f = { e with leading := f.leading })

/-- A PRIMARY interface handed to the MANIFOLD channel beside a CONFIRMING one (R70): in WATCH, LOCKED and DEPARTING it
replaces the one followed and is taken as in CLEAN, the crossings recorded in DEPARTING discarded; one that waits it
replaces as waiting; in MIXED and SETTLING the one followed, already judged, is given up and its mixed zone followed
on, while the PRIMARY one waits. -/
def Safety.PrimaryReplaces (ho k : HandOff) (s : State) : Prop :=
  let c := s.sd.manifold
  let h := Instr.channelInterfaceHanded .manifold ho
  (∀ p, c.mode = .watch ∨ c.mode = .locked ∨ c.mode = .departing → c.active = some k → c.waiting = none →
      Safety.PairFor c ho p s →
    ∃ t pre more, exec h s = .next t ∧ Safety.Takes .manifold ho p c t.sd.manifold s more ∧ Safety.GivesWay k.batch s t pre
      ∧ t = { s with
          sd := { s.sd with manifold := t.sd.manifold }
          lt := { s.lt with train := t.lt.train, confirm := t.lt.confirm }
          handed := (if c.mode = .departing then (s.handed.erase h).filter (fun y => !crossingOf .manifold k.batch y)
            else s.handed.erase h) ++ pre ++ more })
  ∧ (c.mode = .acquire ∨ c.mode = .excursion ∨ c.mode = .mixed ∨ c.mode = .settling → c.active = none →
      c.waiting = some k →
    ∃ t pre, exec h s = .next t ∧ Safety.GivesWay k.batch s t pre
      ∧ t = { s with
          sd := { s.sd with manifold := { c with waiting := some ho } }
          lt := { s.lt with train := t.lt.train, confirm := t.lt.confirm }
          handed := s.handed.erase h ++ pre })
  ∧ (c.mode = .mixed ∨ c.mode = .settling → c.active = some k → c.waiting = none →
    exec h s = .next { s.take h with
      sd := { s.sd with manifold := { c with active := none, ghost := some k, waiting := some ho } } })

/-- A channel gone OFF: everything but its excursion record, as `x`, and the S of its last event emptied (R68). -/
def Safety.GoneOff (c : ChannelState) (x : Option Excursion) : ChannelState :=
  { Safety.CleanOf c [] with
    mode := .off, acquire := [], current := none, waiting := none, measure := none, inBand := none, excursion := x }

/-- What a lost slot does to a channel that holds an interface, with no excursion record open (R68, R76): it goes OFF and
reports the interface lost. In DEPARTING the crossings recorded are discarded [35]. In MIXED and SETTLING, for an
ANCHORED PRIMARY interface whose primary channel it is [56], the levels with no crossing recorded and no point
supplied are marked supplied, and their volumetric points from the anchored position are handed to the Cut Planner. -/
def Safety.LosesItsSlot (ch : Channel) (ho : HandOff) (s : State) : Prop :=
  let c := s.sd.get ch
  let l := Instr.channelSlotLost ch
  let lost := .channelLostReport ch ho.batch :: Safety.Ceased ch ho
  let off := { s with sd := s.sd.set ch (Safety.GoneOff c c.excursion) }
  let plain := exec l s = .next { off with handed := s.handed.erase l ++ lost }
  (∀ x, c.excursion = some x → x.isOpen = false) →
    (c.active = none → c.waiting = some ho → c.mode ≠ .off → plain)
    ∧ (c.active = some ho → c.waiting = none →
      (c.mode = .watch ∨ c.mode = .locked → plain)
      ∧ (c.mode = .departing → ∃ t, exec l s = .next t ∧ Safety.CrossingsGone ch ho.batch c l lost s t
        ∧ t = { off with lt := { s.lt with train := t.lt.train }, handed := t.handed })
      ∧ (c.mode = .mixed ∨ c.mode = .settling →
        (ho.role = .confirming ∨ primaryOf s ho.batch ≠ some ch → plain)
        ∧ (∀ j sn, ho.role = .primary → interfaceOf ho.batch s.lt.train = some j → j.track = .anchored →
            j.snapshot = some sn → sn.primary = some ch →
          let opens := fun (v : Level) => (c.crossings.get v).isNone && (j.crossings.get v).isNone && !j.supplied.get v
          let points := (Safety.Points s j.pos sn.mix).filter (fun p => opens p.level)
          ∃ t x, exec l s = .next t
            ∧ interfaceOf ho.batch t.lt.train = some { j with supplied := x }
            ∧ (∀ v, x.get v = (j.supplied.get v || opens v))
            ∧ (∀ b, b ≠ ho.batch → findEntry b t.lt.train = findEntry b s.lt.train)
            ∧ t = { off with
                lt := { s.lt with train := t.lt.train }
                handed := s.handed.erase l
                  ++ (if points = [] then [] else [.volumetricPointsToCutPlanner ho.batch points .routeController])
                  ++ lost })))

/-- How a channel takes, loses and gives up an interface: a CLEAN one, which holds none, fixes the pair from the nominal
densities or the body mean and goes to WATCH, or, with its current reading at fd or above, to LOCKED with
DETECTOR_LOCKED, or reports low contrast; one in ACQUIRE, EXCURSION, MIXED or SETTLING holds it as waiting, with no
test of a volume, by the model's choice [63]; a PRIMARY one replaces a CONFIRMING one [42]; an OFF one reports it lost
[42]. A PRIMARY hand-off to MANIFOLD that is not kept, the channel being OFF or the contrast too low, counts as held
from its handing on, so that its end is reported [36]. A lost slot brings OFF and reports the interface lost, with the
open levels of an anchored one supplied and the crossings recorded in DEPARTING discarded [35], both for the
interface's primary channel alone, by the model's choice [56]; a recovery brings ACQUIRE; a slot loss leaves an OFF
channel as it stands [50]. The window's expiry returns a watched or waiting interface as missed and marks one that
departs; a release gives it up in silence, past DEPARTING with the mixed zone still followed. -/
def Obligations.ChannelTakesAndLosesInterfaces : Prop :=
  ∀ (ch : Channel) (ho : HandOff) (s : State), s.running = true →
    let c := s.sd.get ch
    let h := Instr.channelInterfaceHanded ch ho
    let expiry := Instr.channelWindowExpiry ch ho.batch
    let release := Instr.channelRelease ch ho.batch
    let ceased := Safety.Ceased ch ho
    let becomes := fun (i : Instr) (d : ChannelState) (more : List Instr) => exec i s = .next { s with
      sd := s.sd.set ch d, handed := s.handed.erase i ++ more }
    (∀ p, c.mode = .clean → c.active = none → c.waiting = none → Safety.PairFor c ho p s →
      ∃ d more, becomes h d more ∧ Safety.Takes ch ho p c d s more)
    ∧ (c.mode = .acquire ∨ c.mode = .excursion ∨ c.mode = .mixed ∨ c.mode = .settling → c.waiting = none →
      (ho.role = .primary → ∀ k, c.active = some k → k.role = .primary) → ho.role = .primary ∨ holdsPrimary s = false →
      becomes h { c with waiting := some ho } [])
    ∧ (∀ k, ch = .manifold → ho.role = .primary → k.role = .confirming → Safety.PrimaryReplaces ho k s)
    ∧ (c.mode = .off → ch = .advance ∨ holdsPrimary s = false → exec h s = .next { s with
        handed := s.handed.erase h ++ .channelLostReport ch ho.batch :: ceased })
    ∧ Safety.LosesItsSlot ch ho s
    ∧ (c.mode = .watch ∨ c.mode = .locked → c.active = some ho → c.waiting = none →
      becomes expiry (Safety.CleanOf c c.body) (.missReturned ch ho.batch :: ceased)
      ∧ becomes release (Safety.CleanOf c c.body) ceased)
    ∧ (c.mode = .departing → c.active = some ho →
      ((c.waiting.map (·.batch)) ≠ some ho.batch → becomes expiry { c with expiryMark := true } [])
      ∧ (c.waiting = none → ∃ t, exec release s = .next t ∧ Safety.CrossingsGone ch ho.batch c release ceased s t
        ∧ t = { s with
            sd := s.sd.set ch (Safety.CleanOf c c.body), lt := { s.lt with train := t.lt.train }, handed := t.handed }))
    ∧ (c.mode = .mixed ∨ c.mode = .settling → c.active = some ho → c.waiting = none →
      ∃ t, exec release s = .next t ∧ Safety.CrossingsGone ch ho.batch c release ceased s t
        ∧ t = { s with
            sd := s.sd.set ch { c with active := none, ghost := some ho, crossings := .all none }
            lt := { s.lt with train := t.lt.train }, handed := t.handed })
    ∧ (c.active = none → c.waiting = some ho →
      becomes expiry { c with waiting := none } (.missReturned ch ho.batch :: ceased)
      ∧ becomes release { c with waiting := none } ceased)
    ∧ (c.mode = .off →
      becomes (.channelSlotRecovered ch) { c with mode := .acquire, acquire := [] } [.channelLeftOffReport ch]
      ∧ exec (.channelSlotLost ch) s = .next (s.take (.channelSlotLost ch)))

/-! ### The tracker, its windows and its confirmations (chapters 1 and 5) -/

/-- The predicted mix of an interface, from its pair and its standstill count (R84). -/
def Safety.Mix (s : State) (a e : Entry) (i : Interface) : Nat :=
  min (pairOf s.tables a.product e.product).maxMix
    ((pairOf s.tables a.product e.product).baseMix + i.standstills * (pairOf s.tables a.product e.product).growth)

/-- The halfwidth of an interface (R85). -/
def Safety.Halfwidth (s : State) (a e : Entry) (i : Interface) : Nat :=
  min s.tables.params.maxHalfwidth
    (s.tables.params.minHalfwidth + s.tables.params.toleranceRate * (i.pos - s.lt.sLast) / 1000
      + Safety.Mix s a e i / 2 + s.lt.gap)

/-- The density of the product ahead by which a channel's contrast is formed (R90): the body mean of a CLEAN channel whose
body window holds 4 readings or more, else the nominal density of the entry ahead. -/
def Safety.DensityAhead (c : ChannelState) (a : Entry) (ρ : Int) : Prop :=
  (c.mode = .clean → 4 ≤ c.body.length → Safety.RoundedQuotient c.body.sum c.body.length ρ)
  ∧ (c.mode ≠ .clean ∨ c.body.length < 4 → ρ = a.density)

/-- A new S considers the first FAR interface. Its primary channel is ADVANCE unless that is OFF, else MANIFOLD unless
that is OFF, whose window stands one lead volume later, else none. Below its window nothing is recorded; inside it,
with a primary channel and contrast enough, formed from that channel's body mean where it is CLEAN with 4 readings or
more and else from the nominal density, the window opens with its edges, the snapshot is frozen, and the interface is
handed to the channel with the clamped levels; with too little contrast, with no channel, or past the window, it is
placed VOLUMETRIC and its points handed. Where it is past the window or there is no channel R90 forms no contrast:
that the snapshot then has none, a clear low-contrast flag, and the primary channel R87 gives at that moment, is the
model's choice [21]. Stated for a train of an inherited batch and one entry behind it. -/
def Obligations.SAdvanceOpensTheWindow : Prop :=
  ∀ (newS : Nat) (a e : Entry) (i : Interface) (s : State), s.running = true → s.lt.train = [a, e] → a.leading = none →
    a.complete = false → a.id ≠ e.id → e.leading = some i → i.track = .far → s.lt.window = none → s.lt.confirm = none →
    let c := Instr.ltSAdvance newS
    let H := Safety.Halfwidth s a e i
    let p := pairOf s.tables a.product e.product
    let h := min s.tables.params.fa (max s.tables.params.fd p.h)
    let taken := fun (sn : Snapshot) => sn.mix = Safety.Mix s a e i ∧ sn.halfwidth = H ∧ sn.h = h
      ∧ sn.t = max h (min s.tables.params.fa p.t) ∧ sn.maxMix = p.maxMix ∧ sn.fd = s.tables.params.fd
      ∧ sn.fa = s.tables.params.fa ∧ sn.rule = resolveRule s.tables a.product e.product
    let notYet := exec c s = .next { s.take c with lt := { s.lt with curS := newS } }
    let placed := fun (k : EventKind) (detail : Int) (ch : Option Channel) (contrast : Option Nat) =>
      ∃ t j sn, exec c s = .next t ∧ t.lt.window = none
      ∧ interfaceOf e.id t.lt.train = some j ∧ j.pos = i.pos ∧ j.method = some .volumetric ∧ j.residual = i.residual
      ∧ (j.track = .volumetric ∨ j.track = .cleared) ∧ j.snapshot = some sn ∧ taken sn ∧ sn.primary = ch
      ∧ sn.contrast = contrast ∧ sn.lowContrast = contrast.isSome
      ∧ t.lt.sLast = s.lt.sLast ∧ t.lt.gap = s.lt.gap
      ∧ .eventPosted k e.id detail ∈ t.handed
      ∧ .volumetricPointsToCutPlanner e.id (Safety.Points s i.pos (Safety.Mix s a e i)) .routeController ∈ t.handed
    (∀ ch ρ, (s.sd.get ch).mode ≠ .off → (ch = .manifold → (s.sd.get .advance).mode = .off) →
        Safety.DensityAhead (s.sd.get ch) a ρ →
      let contrast := ((e.density : Int) - ρ).natAbs
      let centre : Nat := i.pos + if ch = .manifold then s.tables.params.leadVolume else 0
      (newS + H < centre → notYet)
      ∧ (centre ≤ newS + H → newS ≤ centre + H → s.tables.params.minContrast ≤ contrast →
        ∃ t sn pre, exec c s = .next t
          ∧ t.lt.curS = newS
          ∧ t.lt.window = some ⟨e.id, ch, (centre : Int) - H, (centre : Int) + H, false, false⟩
          ∧ interfaceOf e.id t.lt.train = some { i with track := .window, snapshot := some sn }
          ∧ taken sn ∧ sn.contrast = some contrast ∧ sn.lowContrast = false ∧ sn.primary = some ch
          ∧ t.handed = s.handed.erase c ++ pre ++ [.eventPosted .windowOpen e.id H,
              .channelInterfaceHanded ch ⟨e.id, .primary, h, max h (min s.tables.params.fa p.t), p.maxMix,
                s.tables.params.fd, s.tables.params.fa⟩]
          ∧ (.eventPosted .defaultDisposition a.id 1 ∈ pre ↔ a.disposition = none)
          ∧ (.eventPosted .defaultDisposition e.id 2 ∈ pre ↔ e.disposition = none))
      ∧ (centre ≤ newS + H → newS ≤ centre + H → contrast < s.tables.params.minContrast →
        placed .lowContrast contrast (some ch) (some contrast))
      ∧ (centre + H < newS → placed .interfaceMissed 2 (some ch) none))
    ∧ ((s.sd.get .advance).mode = .off → (s.sd.get .manifold).mode = .off →
      (newS + H < i.pos → notYet)
      ∧ (i.pos ≤ newS + H → newS ≤ i.pos + H → placed .interfaceMissed 3 none none)
      ∧ (i.pos + H < newS → placed .interfaceMissed 2 none none))

/-- The completion check, at an action's leaving, at a switch's end and at a new S: the manifold batch completes once S is
at its trailing interface's clear point with no action of that interface in the list and no switch in progress; its
ticket is issued, or it waits COMPLETE while the Ticket Store is full; the entry behind becomes the manifold batch at
this S. While a condition fails nothing happens. Stated for a train of two entries. -/
def Obligations.CompletionAtEachOfItsEvents : Prop :=
  ∀ (c : Instr) (now x : Nat) (m b : Entry) (i : Interface) (sn : Snapshot) (s : State), s.running = true →
    s.lt.train = [m, b] → m.complete = false → b.complete = false → m.id ≠ b.id → b.leading = some i →
    i.track = .anchored ∨ i.track = .volumetric → i.snapshot = some sn →
    ((c = .actionLeftList x ∨ c = .switchEndHanded) ∧ now = s.lt.curS)
      ∨ (c = .ltSAdvance now ∧ s.lt.window = none ∧ s.lt.confirm = none ∧ m.leading = none ∧ i.mfResult.isSome) →
    let ready := i.pos + s.tables.params.leadVolume + sn.mix / 2 ≤ now
      ∧ (∀ a ∈ s.cp.actions, a.subject = b.id → a.kind ≠ .divert ∧ a.kind ≠ .enter) ∧ s.rc.switching = none
    let flags := if stripShort s.tables s.lt.train m then { m.delivery.flags with stripShort := true }
      else m.delivery.flags
    let b' := { b with
      leading := some { i with track := .cleared }, delivery := { b.delivery with startS := some now } }
    (¬ready → exec c s = .next { s.take c with lt := { s.lt with curS := now } })
    ∧ (ready → s.ts.length < 32 → ∃ t k, exec c s = .next t
        ∧ k.id = m.id ∧ k.product = m.product ∧ k.endS = now ∧ k.startS = m.delivery.startS.getD 0 ∧ k.flags = flags
        ∧ k.trailing = i.method
        ∧ t = { s with
            lt := { s.lt with train := [b'], curS := now }
            ts := s.ts ++ [k]
            el := { s.el with attn := t.el.attn }
            handed := s.handed.erase c
              ++ [.eventPosted .batchComplete m.id 1, .eventPosted .ticketReady m.id (s.ts.length + 1 : Nat)] })
    ∧ (ready → 32 ≤ s.ts.length → exec c s = .next { s with
        lt := { s.lt with
          train := [{ m with complete := true, delivery := { m.delivery with endS := some now, flags := flags } }, b']
          curS := now }
        handed := s.handed.erase c ++ [.eventPosted .batchComplete m.id 1, .eventPosted .ticketsFull m.id 1] })

/-- The anchored position: for ADVANCE and HOST the anchor value, for MANIFOLD the value less the lead volume, formed with
a signed intermediate; where that is not greater than the reference position of the entry ahead, that position plus 1.
-/
def Obligations.AnchoredPositionIsAsR17 : Prop :=
  ∀ (tb : Tables) (src : AnchorSource) (v : Int) (ref : Nat),
    let x : Int := match src with
      | .advance => v
      | .host => v
      | .manifold => v - tb.params.leadVolume
    ((ref : Int) < x → (anchoredPosition tb src v ref : Int) = x)
    ∧ (x ≤ (ref : Int) → anchoredPosition tb src v ref = ref + 1)
    ∧ ref < anchoredPosition tb src v ref

/-- An anchor for a FAR or WINDOW interface: S_last takes the anchored position, the gap is 0, INTERFACE_ANCHORED is
posted with the residual, and the interface of the back entry stands at the anchored position with its residual and
method. An anchor for an interface in any other state, or for none, is not taken. -/
def Obligations.AnchorPlacesTheInterface : Prop :=
  ∀ (id v : Nat) (src : AnchorSource) (s : State), s.running = true →
    let c := Instr.anchorHanded id v src
    (∀ a i, Safety.UniqueIds s → aheadOf id s.lt.train = some a → interfaceOf id s.lt.train = some i →
        i.track = .far ∨ i.track = .window →
      let p := anchoredPosition s.tables src v a.reference
      ∃ t, exec c s = .next t ∧ t.lt.sLast = p ∧ t.lt.gap = 0
        ∧ .eventPosted .interfaceAnchored id ((p : Int) - i.pos) ∈ t.handed
        ∧ (∀ w, t.lt.window = some w → w.batch ≠ id)
        ∧ (behindOf id s.lt.train = none → ∃ j, interfaceOf id t.lt.train = some j ∧ j.pos = p
            ∧ j.residual = some ((p : Int) - i.pos) ∧ (j.track = .anchored ∨ j.track = .cleared)
            ∧ j.method = some (match src with | .advance => .advance | .manifold => .manifold | .host => .host)))
    ∧ ((∀ i, interfaceOf id s.lt.train = some i → i.track ≠ .far ∧ i.track ≠ .window) →
      exec c s = .next (s.take c))

/-- What the primary channel hands of a window's interface: a crossing is entered once for each level, one of another
channel discarded; a miss, and low contrast, place it VOLUMETRIC at the position it has, with their event and its
points, and low contrast records the channel's contrast and the flag in the snapshot; a loss leaves the window LOST,
and the channel's leaving OFF hands the interface to it again, and it alone: on MANIFOLD a LOST confirmation beside it
is not handed again, by the model's choice [31]. A completion may take the interface's batch out of the train, not the
back entry. -/
def Obligations.ChannelReportsReachTheWindow : Prop :=
  ∀ (ch : Channel) (id v : Nat) (l : Level) (i : Interface) (s : State), s.running = true → Safety.UniqueIds s →
    interfaceOf id s.lt.train = some i →
    (∃ t, exec (.crossingToLineTracker ch id l v) s = .next t
      ∧ interfaceOf id t.lt.train = some { i with
          crossings := if (i.snapshot.bind (·.primary)) = some ch ∧ i.crossings.get l = none then
            i.crossings.set l (some v) else i.crossings }
      ∧ (∀ b, b ≠ id → findEntry b t.lt.train = findEntry b s.lt.train)
      ∧ t = { s.take (.crossingToLineTracker ch id l v) with lt := { s.lt with train := t.lt.train } })
    ∧ (∀ (w : WindowRecord) (sn : Snapshot), s.lt.window = some w → w.batch = id → w.channel = ch →
        i.snapshot = some sn → i.track = .window →
      let placed := fun (c : Instr) (k : EventKind) (detail : Int) (sn' : Snapshot) => ∃ t, exec c s = .next t
        ∧ .eventPosted k id detail ∈ t.handed
        ∧ .volumetricPointsToCutPlanner id (Safety.Points s i.pos sn.mix) .routeController ∈ t.handed
        ∧ (∀ w', t.lt.window = some w' → w'.batch ≠ id)
        ∧ (behindOf id s.lt.train = none → (interfaceOf id t.lt.train).isSome)
        ∧ (∀ j, interfaceOf id t.lt.train = some j → (j.track = .volumetric ∨ j.track = .cleared)
          ∧ j = { i with track := j.track, method := some .volumetric, snapshot := some sn', mfResult := j.mfResult })
      placed (.missReturned ch id) .interfaceMissed 1 sn
      ∧ placed (.lowContrastReport ch id .primary v) .lowContrast v { sn with contrast := some v, lowContrast := true }
      ∧ (w.expiryHanded = false → (∀ k, s.lt.confirm = some k → k.batch ≠ id) →
        exec (.channelLostReport ch id) s = .next { s.take (.channelLostReport ch id) with
          lt := { s.lt with window := some { w with lost := true } } })
      ∧ (w.lost = true → (s.lt.curS : Int) ≤ w.upper →
        exec (.channelLeftOffReport ch) s = .next { s with
          lt := { s.lt with window := some { w with lost := false } }
          handed := s.handed.erase (.channelLeftOffReport ch)
            ++ [.channelInterfaceHanded ch ⟨id, .primary, sn.h, sn.t, sn.maxMix, sn.fd, sn.fa⟩] }))

/-- A confirmation: the departure start of the confirming interface is recorded with its result and posted with the
disagreement, and one earlier than the tolerance asks the Cut Planner for the first action; a miss and low contrast
end it NO_CONFIRM; when the MANIFOLD channel ceases to hold a PRIMARY interface, the candidate within its edges is
handed. -/
def Obligations.ConfirmationIsJudged : Prop :=
  ∀ (id d v : Nat) (i : Interface) (s : State), s.running = true → Safety.UniqueIds s →
    interfaceOf id s.lt.train = some i →
    (∀ k, s.lt.confirm = some k → k.batch = id →
      let r : Int := (d : Int) - (i.pos + s.tables.params.leadVolume : Nat)
      (∃ t, exec (.confirmDepartureHanded id d) s = .next t
        ∧ interfaceOf id t.lt.train = some { i with
            mfStart := some d, mfResult := some (if r.natAbs ≤ k.tolerance then .confirmed else .disagree) }
        ∧ (if r.natAbs ≤ k.tolerance then .eventPosted .mfConfirmed id r ∈ t.handed
            else .eventPosted .mfDisagree id r ∈ t.handed)
        ∧ (r < -(k.tolerance : Int) → .earlyDisagreeAdvance id .routeController ∈ t.handed)
        ∧ (∀ k', t.lt.confirm = some k' → k'.batch ≠ id))
      ∧ ((∀ w, s.lt.window = some w → w.batch ≠ id) →
        (∃ t, exec (.missReturned .manifold id) s = .next t ∧ .eventPosted .mfNoConfirm id 1 ∈ t.handed
          ∧ interfaceOf id t.lt.train = some { i with mfResult := some .noConfirm })
        ∧ (∃ t, exec (.lowContrastReport .manifold id .confirming v) s = .next t
          ∧ .eventPosted .mfNoConfirm id 4 ∈ t.handed
          ∧ interfaceOf id t.lt.train = some { i with mfResult := some .noConfirm })))
    ∧ (∀ sn, s.lt.confirm = none → confirmCandidate s.lt.train = some (id, i.pos, sn) →
        s.handed = [.manifoldPrimaryCeased] → (s.sd.get .manifold).mode ≠ .off → holdsPrimary s = false →
      let centre : Int := (i.pos : Int) + s.tables.params.leadVolume
      let reach : Int := s.tables.params.confirmTolerance + sn.mix / 2
      (centre - reach ≤ s.lt.curS → (s.lt.curS : Int) ≤ centre + reach →
        exec .manifoldPrimaryCeased s = .next { s with
          lt := { s.lt with
            confirm := some ⟨id, centre - reach, centre + reach, s.tables.params.confirmTolerance, false, false⟩ }
          handed := [.channelInterfaceHanded .manifold ⟨id, .confirming, sn.h, sn.t, sn.maxMix, sn.fd, sn.fa⟩] })
      ∧ ((s.lt.curS : Int) < centre - reach →
        exec .manifoldPrimaryCeased s = .next { s with handed := [] }))

/-! ### The Cut Planner (chapter 6) -/

/-- An action has been put in the cut action list at its place by trigger: after those not later, before the first later
one. -/
def Safety.Inserted (x : Action) (before after : List Action) : Prop :=
  ∃ pre post, before = pre ++ post ∧ after = pre ++ x :: post ∧ (∀ y ∈ pre, y.trigger ≤ x.trigger)
    ∧ (∀ y, post.head? = some y → x.trigger < y.trigger)

/-- The number after one, passing from 65,535 to 1 (R112). -/
def Safety.NextNumber (n : Nat) : Nat := if n < 65535 then n + 1 else 1

/-- The first action of an interface, a DIVERT at its h crossing, measures the batch ahead: a clean volume below the
minimum merges that batch while its ENTER stands in the list, which becomes a DIVERT, and the new DIVERT is not
stored, though it takes an action number and its trigger stands as the interface's first, by the model's choice [22];
the ENTER in the list is converted in its place, so that the merge is made with 16 actions held too, by the model's
choice [23]; with that ENTER gone SHORT_BATCH is posted and the DIVERT is stored; a clean volume that is not short is
only measured. -/
def Safety.ShortBatchMerges (ch : Channel) (v : Nat) (first : Precedence) (e a : Entry) (sn : Snapshot) (s : State) : Prop :=
  ∀ (x : Int) (r : RouteNo), a.inherited = false → a.measured = false → a.complete = false → a.enterTrigger = some x →
    e.firstTrigger = none → sn.rule = .transmix → firstTransmix s.tables = some r →
    let c := Instr.crossingToCutPlanner ch e.id .h v false first
    let tr : Int := (v : Int) + (if ch = .advance then s.tables.params.leadVolume else 0) - compensation s [r]
    let clean := tr - x
    let enter := fun (y : Action) => y.kind = .enter ∧ y.subject = a.id
    let train := fun (merged : Bool) => modEntry a.id (fun k => { k with
        measured := true
        delivery := { k.delivery with flags := { k.delivery.flags with merged := k.delivery.flags.merged || merged } } })
      (modEntry e.id (fun b => { b with firstTrigger := some tr }) s.lt.train)
    let stored := fun (more : List Instr) => (s.cp.curS : Int) < tr → s.cp.actions.length < 16 → ∃ t, exec c s = .next t
      ∧ Safety.Inserted ⟨s.cp.nextNum, .divert, e.id, tr, .transmix, [r], .none, none⟩ s.cp.actions t.cp.actions
      ∧ t = { s with
          cp := { s.cp with actions := t.cp.actions, nextNum := Safety.NextNumber s.cp.nextNum }
          lt := { s.lt with train := train false }
          handed := s.handed.erase c.canonical ++ more }
    (clean < s.tables.params.minClean →
      ((∃ y ∈ s.cp.actions, enter y) → (∀ y ∈ s.cp.actions, ¬(y.kind = .divert ∧ y.subject = e.id)) →
        exec c s = .next { s with
          cp := { s.cp with
            actions := s.cp.actions.map (fun y => if y.kind = .enter ∧ y.subject = a.id then
              { y with kind := .divert, lineup := .transmix, routes := [r], flags := { y.flags with merged := true } } else y)
            nextNum := Safety.NextNumber s.cp.nextNum }
          lt := { s.lt with train := train true }
          handed := s.handed.erase c.canonical ++ [.eventPosted .shortBatchMerged a.id clean] })
      ∧ ((∀ y ∈ s.cp.actions, ¬enter y) → stored [.eventPosted .shortBatch a.id clean]))
    ∧ (s.tables.params.minClean ≤ clean → stored [])

/-- The body line-up of a batch with a valid governing disposition (R107): the THROUGH route for PASS, the PRODUCT route
for TAKE, both for STRIP until its strip mark is set and then the THROUGH route, the first TRANSMIX route for
TRANSMIX_ALL. -/
def Safety.BodyRoutes (tb : Tables) (e : Entry) : Disposition → List RouteNo → Prop
  | .pass, b => ∃ x, throughRoute tb = some x ∧ b = [x]
  | .take r, b => productRoute tb r = some e.product ∧ b = [r]
  | .strip r _, b => productRoute tb r = some e.product ∧ ∃ x, throughRoute tb = some x
      ∧ b = if e.stripMark then [x] else [x, r]
  | .transmixAll, b => ∃ r, firstTransmix tb = some r ∧ b = [r]

/-- The ENTER of a batch at its t crossing, under a TRANSMIX rule, with an action of the interface behind it scheduled
before, measures that batch (R123): a clean volume below the minimum merges it, so that the ENTER is stored as a
DIVERT with MERGED, the DIVERT of the trailing interface that stands in the list without MERGED is removed [57], its
leaving handed on, and SHORT_BATCH_MERGED posted; a clean volume that is not short is only measured. -/
def Safety.EnterMerges (ch : Channel) (v : Nat) (first : Precedence) (e a : Entry) (sn : Snapshot) (s : State) : Prop :=
  ∀ (b : Entry) (y : Int) (r : RouteNo) (rs : List RouteNo), e.inherited = false → e.measured = false → e.complete = false →
    behindOf e.id s.lt.train = some b → b.firstTrigger = some y → e.firstTrigger ≠ none ∨ a.inherited = true →
    sn.rule = .transmix → firstTransmix s.tables = some r → Safety.BodyRoutes s.tables e sn.dispBehind rs →
    let c := Instr.crossingToCutPlanner ch e.id .t v false first
    let tr : Int := (v : Int) + (if ch = .advance then s.tables.params.leadVolume else 0) - compensation s rs
    let clean := y - tr
    let goes := fun (z : Action) => z.kind = .divert ∧ z.subject = b.id ∧ z.flags.merged = false
    let train := fun (merged left : Bool) => modEntry b.id (fun k => { k with firstLeft := k.firstLeft || left })
      (modEntry e.id (fun k => { k with
        measured := true
        firstTrigger := some (k.firstTrigger.getD tr)
        enterTrigger := some tr
        delivery := { k.delivery with flags := { k.delivery.flags with merged := k.delivery.flags.merged || merged } } })
        s.lt.train)
    (s.cp.curS : Int) < tr → s.cp.actions.length < 16 →
      (clean < s.tables.params.minClean → ∃ t, exec c s = .next t
        ∧ Safety.Inserted ⟨s.cp.nextNum, .divert, e.id, tr, .transmix, [r], { ActionFlags.none with merged := true }, none⟩
            (s.cp.actions.filter (fun z => ¬goes z)) t.cp.actions
        ∧ t = { s with
            cp := { s.cp with actions := t.cp.actions, nextNum := Safety.NextNumber s.cp.nextNum }
            lt := { s.lt with train := train true (s.cp.actions.any (fun z => goes z)) }
            handed := s.handed.erase c.canonical
              ++ (if ∃ z ∈ s.cp.actions, goes z then [.actionLeftList b.id] else [])
              ++ [.eventPosted .shortBatchMerged e.id clean] })
      ∧ (s.tables.params.minClean ≤ clean → ∃ t, exec c s = .next t
        ∧ Safety.Inserted ⟨s.cp.nextNum, .enter, e.id, tr, .bodyOf e.id, rs, .none, none⟩ s.cp.actions t.cp.actions
        ∧ t = { s.take c with
            cp := { s.cp with actions := t.cp.actions, nextNum := Safety.NextNumber s.cp.nextNum }
            lt := { s.lt with train := train false false } })

/-- A crossing handed by an interface's primary channel under a TRANSMIX rule: the h level schedules a DIVERT to the first
TRANSMIX route, its trigger the crossing brought to the manifold and less the compensation, stored in order, or due at
once when that S has passed, or lost to a full list with ACTION_OVERFLOW and a demand for HOLD; the t level an ENTER
to the body line-up of its batch, whatever its disposition, the 500 level nothing; a forced crossing is due at once
and flags its batch FORCED; a crossing of the other channel schedules nothing [38]. Volumetric points schedule a
DIVERT at h and an ENTER at t under a TRANSMIX rule, and under a rule without transmix one ENTER at its level. Stated
for an interface behind an inherited batch, whose clean volume is not measured; behind another batch the first DIVERT
measures the clean volume, and merges a short batch, where by the model's choice the DIVERT that is not stored takes
an action number and stands as the interface's first trigger [22], and a full list does not prevent the merge [23]; so
does an ENTER with an action of the interface behind it already scheduled, which removes the trailing DIVERT from the
list [57]. -/
def Obligations.CrossingsAndPointsBecomeActions : Prop :=
  ∀ (ch : Channel) (id v : Nat) (first : Precedence) (e a : Entry) (i : Interface) (sn : Snapshot) (s : State),
    s.running = true → s.sm.mode ≠ .unconfigured → Safety.UniqueIds s → id ≠ 0 → findEntry id s.lt.train = some e →
    e.leading = some i → i.snapshot = some sn → sn.primary = some ch → aheadOf id s.lt.train = some a →
    e.protectStands = false → Safety.ShortBatchMerges ch v first e a sn s ∧ Safety.EnterMerges ch v first e a sn s ∧ (a.inherited = true →
    let scheduled := fun (c : Instr) (x : Action) (f : Entry → Entry) => ∃ t, exec c s = .next t
      ∧ Safety.Inserted x s.cp.actions t.cp.actions
      ∧ t = { s.take c with
          cp := { s.cp with actions := t.cp.actions, nextNum := Safety.NextNumber s.cp.nextNum }
          lt := { s.lt with train := modEntry id f s.lt.train } }
    let unmeasured := ∀ b, behindOf id s.lt.train = some b → b.firstTrigger = none
    (∀ r, sn.rule = .transmix → firstTransmix s.tables = some r →
      let c := Instr.crossingToCutPlanner ch id .h v false first
      let tr : Int := (v : Int) + (if ch = .advance then s.tables.params.leadVolume else 0) - compensation s [r]
      ((s.cp.curS : Int) < tr → s.cp.actions.length < 16 →
        scheduled c ⟨s.cp.nextNum, .divert, id, tr, .transmix, [r], .none, none⟩
          (fun e => { e with firstTrigger := some (e.firstTrigger.getD tr) }))
      ∧ (tr ≤ (s.cp.curS : Int) → ∃ t, exec c s = .next t
        ∧ t.cp.plan = some ⟨[r], id, .transmix⟩ ∧ t.cp.actions = s.cp.actions
        ∧ .eventPosted .actionDue id s.cp.nextNum ∈ t.handed
        ∧ (first = .routeController → .actionLeftList id ∈ t.handed))
      ∧ ((s.cp.curS : Int) < tr → 16 ≤ s.cp.actions.length → ∃ t, exec c s = .next t
        ∧ t.cp.actions = s.cp.actions ∧ t.cp.plan = s.cp.plan
        ∧ t.handed = s.handed.erase c.canonical ++ [.eventPosted .actionOverflow id 1, .holdDemand]))
    ∧ (∀ r, sn.rule = .transmix → firstTransmix s.tables = some r →
      ∃ t, exec (.crossingToCutPlanner ch id .h v true first) s = .next t
        ∧ t.cp.plan = some ⟨[r], id, .transmix⟩ ∧ t.cp.actions = s.cp.actions
        ∧ .eventPosted .actionDue id s.cp.nextNum ∈ t.handed
        ∧ (e.complete = false → ∀ b, findEntry id t.lt.train = some b → b.delivery.flags.forced = true))
    ∧ (∀ rs, sn.rule = .transmix → Safety.BodyRoutes s.tables e sn.dispBehind rs → unmeasured →
      let tr : Int := (v : Int) + (if ch = .advance then s.tables.params.leadVolume else 0) - compensation s rs
      (s.cp.curS : Int) < tr → s.cp.actions.length < 16 →
      scheduled (.crossingToCutPlanner ch id .t v false first)
        ⟨s.cp.nextNum, .enter, id, tr, .bodyOf id, rs, .none, none⟩
        (fun e => { e with firstTrigger := some (e.firstTrigger.getD tr), enterTrigger := some tr }))
    ∧ (sn.rule = .transmix → exec (.crossingToCutPlanner ch id .mid v false first) s
        = .next (s.take (.crossingToCutPlanner ch id .mid v false first)))
    ∧ (∀ l f, exec (.crossingToCutPlanner (otherChannel ch) id l v f first) s
        = .next (s.take (.crossingToCutPlanner (otherChannel ch) id l v f first)))
    ∧ (∀ (rs : List RouteNo) (p1 p2 p3 at_ : Nat), Safety.BodyRoutes s.tables e sn.dispBehind rs → unmeasured →
        (sn.rule = .toBehind ∧ at_ = p1) ∨ (sn.rule = .split ∧ at_ = p2) ∨ (sn.rule = .toAhead ∧ at_ = p3) →
      let tr : Int := (at_ : Int) + s.tables.params.leadVolume - compensation s rs
      (s.cp.curS : Int) < tr → s.cp.actions.length < 16 →
      scheduled (.volumetricPointsToCutPlanner id [⟨.h, p1⟩, ⟨.mid, p2⟩, ⟨.t, p3⟩] first)
        ⟨s.cp.nextNum, .enter, id, tr, .bodyOf id, rs, { ActionFlags.none with volumetric := true }, none⟩
        (fun e => { e with firstTrigger := some (e.firstTrigger.getD tr), enterTrigger := some tr }))
    ∧ (∀ (r : RouteNo) (rs : List RouteNo) (p1 p2 p3 : Nat), sn.rule = .transmix → firstTransmix s.tables = some r →
        Safety.BodyRoutes s.tables e sn.dispBehind rs → unmeasured →
      let c := Instr.volumetricPointsToCutPlanner id [⟨.h, p1⟩, ⟨.mid, p2⟩, ⟨.t, p3⟩] first
      let flags := { ActionFlags.none with volumetric := true }
      let tr : Int := (p1 : Int) + s.tables.params.leadVolume - compensation s [r]
      (s.cp.curS : Int) < tr → s.cp.actions.length < 15 →
      ∃ t mid, exec c s = .next t
        ∧ Safety.Inserted ⟨s.cp.nextNum, .divert, id, tr, .transmix, [r], flags, none⟩ s.cp.actions mid
        ∧ (let s1 := { s with cp := { s.cp with actions := mid } }
          let te : Int := (p3 : Int) + s.tables.params.leadVolume - compensation s1 rs
          (s.cp.curS : Int) < te →
            Safety.Inserted ⟨Safety.NextNumber s.cp.nextNum, .enter, id, te, .bodyOf id, rs, flags, none⟩ mid t.cp.actions
            ∧ t = { s.take c with
                cp := { s.cp with actions := t.cp.actions, nextNum := Safety.NextNumber (Safety.NextNumber s.cp.nextNum) }
                lt := { s.lt with train := modEntry id (fun e => { e with
                  firstTrigger := some (e.firstTrigger.getD tr), enterTrigger := some te }) s.lt.train } })))

/-- What a PROTECT and a RETURN at the front of the list do as they fall due, alone, at a new S (R117, R118, R121). A
PROTECT takes a plan line-up of none, BODY or SAFE to the first TRANSMIX route, owner the manifold batch, which is
flagged PROTECTED while it stands in the train (stated under unique batch IDs, which every step keeps: O6), and leaves
one of TRANSMIX or PROTECT. A RETURN takes one of PROTECT, with no protection outstanding but those it releases, to
the body line-up of the manifold batch, and leaves any other. Without a manifold batch neither changes it. A RETURN of
a channel releases its own protection and those of that channel that lost their RETURN [24]. -/
def Safety.ProtectionFallsDue (a : Action) (newS : Nat) (first : Precedence) (s : State) : Prop :=
  let c := Instr.cpSAdvance newS first
  let counts := s.cp.protectCount
  let released := match a.channel with
    | none => 0
    | some x => min (counts.get x) (1 + s.cp.orphans.get x)
  let due := fun (owner : Nat) (plan : Option Plan) => ∃ t, exec c s = .next t ∧ t.cp.plan = plan
    ∧ .eventPosted .actionDue owner a.number ∈ t.handed
    ∧ (match a.kind, a.channel with
      | .return_, some x => t.cp.protectCount = counts.set x (counts.get x - (1 + s.cp.orphans.get x))
          ∧ t.cp.orphans = s.cp.orphans.set x 0
      | _, _ => t.cp.protectCount = counts ∧ t.cp.orphans = s.cp.orphans)
  a.subject = 0 →
    (a.kind = .protect ∨ a.kind = .return_ → manifoldOf s.lt.train = none → due 0 s.cp.plan)
    ∧ (∀ m, manifoldOf s.lt.train = some m →
      (a.kind = .protect → a.lineup = .transmix →
        (∀ r, firstTransmix s.tables = some r → (∀ p, s.cp.plan = some p → p.kind = .body ∨ p.kind = .safe) →
          due m.id (some ⟨[r], m.id, .protect⟩)
          ∧ (Safety.UniqueIds s → ∀ t f, exec c s = .next t → findEntry m.id t.lt.train = some f →
            f.delivery.flags.protected_ = true))
        ∧ (∀ p, s.cp.plan = some p → p.kind = .transmix ∨ p.kind = .protect → due m.id s.cp.plan))
      ∧ (a.kind = .return_ → a.lineup = .bodyOfManifold →
        (∀ p rs, s.cp.plan = some p → p.kind = .protect → counts.advance + counts.manifold = released →
          Safety.BodyRoutes s.tables m (governing s.tables s.lt.train m) rs → due m.id (some ⟨rs, m.id, .body⟩))
        ∧ ((∀ p, s.cp.plan = some p → p.kind ≠ .protect) ∨ counts.advance + counts.manifold ≠ released →
          due m.id s.cp.plan)))

/-- At a new S every action whose trigger it has reached leaves the list with ACTION_DUE, and no other leaves; a DIVERT
makes the plan line-up the first TRANSMIX route, or the safe route with PLAN_INVALID where there is none, and an ENTER
makes it the body line-up of its batch; a PROTECT and a RETURN move it as R118's table says, and a RETURN releases the
protections of its channel [24]. An early disagreement brings an interface's first action to the current S, once. -/
def Obligations.ActionsFallDue : Prop :=
  ∀ (newS : Nat) (first : Precedence) (s : State), s.running = true →
    (Safety.Ordered s → ∃ t, exec (.cpSAdvance newS first) s = .next t ∧ t.cp.curS = newS
      ∧ t.cp.actions = s.cp.actions.filter (fun a => decide ((newS : Int) < a.trigger))
      ∧ (∀ a ∈ s.cp.actions, a.trigger ≤ newS → a.subject ≠ 0 →
          .eventPosted .actionDue a.subject a.number ∈ t.handed)
      ∧ ((∀ a ∈ s.cp.actions, (newS : Int) < a.trigger) →
          t = { s.take (.cpSAdvance newS first) with cp := { s.cp with curS := newS } }))
    ∧ (∀ a rest, s.cp.actions = a :: rest → a.trigger ≤ newS → (∀ b ∈ rest, (newS : Int) < b.trigger) →
      (a.kind = .divert → a.lineup = .transmix →
        (∀ r, firstTransmix s.tables = some r → ∃ t, exec (.cpSAdvance newS first) s = .next t
          ∧ t.cp.plan = some ⟨[r], a.subject, .transmix⟩)
        ∧ (firstTransmix s.tables = none → ∃ t, exec (.cpSAdvance newS first) s = .next t
          ∧ .eventPosted .planInvalid a.subject 0 ∈ t.handed
          ∧ t.cp.plan = some ⟨s.tables.params.safeRoute.toList.filter (fun r => (s.tables.routes.get r).isSome),
              a.subject, .safe⟩))
      ∧ (∀ e rs, a.kind = .enter → a.lineup = .bodyOf a.subject → findEntry a.subject s.lt.train = some e →
          Safety.BodyRoutes s.tables e (governing s.tables s.lt.train e) rs →
          ∃ t, exec (.cpSAdvance newS first) s = .next t ∧ t.cp.plan = some ⟨rs, a.subject, .body⟩)
      ∧ Safety.ProtectionFallsDue a newS first s)
    ∧ (∀ (id : Nat) (e : Entry), findEntry id s.lt.train = some e → id ≠ 0 →
      (∀ a pre post, e.firstLeft = false → s.cp.actions = pre ++ a :: post → belongs id a = true →
          (∀ b ∈ pre, belongs id b = false) →
        ∃ t, exec (.earlyDisagreeAdvance id first) s = .next t ∧ t.cp.actions = pre ++ post
          ∧ .eventPosted .actionDue id a.number ∈ t.handed)
      ∧ (e.firstLeft = true ∨ (∀ a ∈ s.cp.actions, belongs id a = false) →
        exec (.earlyDisagreeAdvance id first) s = .next (s.take (.earlyDisagreeAdvance id first))))

/-- The start of an excursion whose record is open schedules a PROTECT to the first TRANSMIX route, marks the excursion as
protected and counts the protection, on MANIFOLD due at once and on ADVANCE a lead volume later; without a TRANSMIX
route it does nothing. Its end schedules a RETURN to the manifold batch's body for a protected excursion and clears
the mark; for another it does nothing. The RETURN and the stored PROTECT are stated for ADVANCE. -/
def Obligations.ExcursionsAreProtected : Prop :=
  ∀ (v : Nat) (d : Decision) (first : Precedence) (s : State), s.running = true → s.sm.mode ≠ .unconfigured →
    (∀ r, firstTransmix s.tables = some r →
      (let c := Instr.excursionStartHanded .advance v first
        let tr : Int := (v : Int) + s.tables.params.leadVolume - compensation s [r]
        s.sd.advance.excursion.map (fun x => (x.start, x.isOpen)) = some (v, true) → s.cp.protectedMark.advance = none →
        (s.cp.curS : Int) < tr → s.cp.actions.length < 16 →
        ∃ t, exec c s = .next t
          ∧ Safety.Inserted ⟨s.cp.nextNum, .protect, 0, tr, .transmix, [r], .none, some .advance⟩ s.cp.actions
              t.cp.actions
          ∧ t = { s.take c with cp := { s.cp with
              actions := t.cp.actions, nextNum := Safety.NextNumber s.cp.nextNum
              protectCount := ⟨s.cp.protectCount.advance + 1, s.cp.protectCount.manifold⟩
              protectedMark := ⟨some ⟨s.cp.nextNum, tr⟩, s.cp.protectedMark.manifold⟩ } })
      ∧ (∀ m, manifoldOf s.lt.train = some m → (∀ p, s.cp.plan = some p → p.kind = .body ∨ p.kind = .safe) →
          s.sd.manifold.excursion.map (fun x => (x.start, x.isOpen)) = some (v, true) → s.cp.protectedMark.manifold = none →
        ∃ t, exec (.excursionStartHanded .manifold v first) s = .next t
          ∧ t.cp.plan = some ⟨[r], m.id, .protect⟩ ∧ t.cp.actions = s.cp.actions
          ∧ .eventPosted .actionDue m.id s.cp.nextNum ∈ t.handed
          ∧ t.cp.protectCount = ⟨s.cp.protectCount.advance, s.cp.protectCount.manifold + 1⟩
          ∧ t.cp.protectedMark.manifold = some ⟨s.cp.nextNum, s.cp.curS⟩))
    ∧ (firstTransmix s.tables = none → ∀ ch, exec (.excursionStartHanded ch v first) s
        = .next (s.take (.excursionStartHanded ch v first)))
    ∧ (let c := Instr.excursionEndHanded .advance v d first
        let rs := formLineup s .bodyOfManifold
        let tr : Int := (v : Int) + s.tables.params.leadVolume - compensation s rs
        s.cp.protectedMark.advance.isSome → (s.cp.curS : Int) < tr → s.cp.actions.length < 16 →
        ∃ t, exec c s = .next t
          ∧ Safety.Inserted ⟨s.cp.nextNum, .return_, 0, tr, .bodyOfManifold, rs, .none, some .advance⟩ s.cp.actions
              t.cp.actions
          ∧ t = { s.take c with cp := { s.cp with
              actions := t.cp.actions, nextNum := Safety.NextNumber s.cp.nextNum
              protectedMark := ⟨none, s.cp.protectedMark.manifold⟩ } })
    ∧ (∀ ch, s.cp.protectedMark.get ch = none → exec (.excursionEndHanded ch v d first) s
        = .next (s.take (.excursionEndHanded ch v d first)))

/-- After a booking, a STRIP of the manifold batch whose route has taken the strip volume sets its strip mark with
STRIP_COMPLETE, and where the plan line-up is that batch's body line-up it becomes the THROUGH route alone; otherwise
nothing happens. The change of plan is stated in HOLD and MANUAL, where no target stands. -/
def Obligations.StripEndsAtItsVolume : Prop :=
  ∀ (m : Entry) (s : State), s.running = true → Safety.UniqueIds s → manifoldOf s.lt.train = some m →
    (∀ r v, governing s.tables s.lt.train m = .strip r v →
      (m.stripMark = false → v * 1000 ≤ m.delivery.routes.get r →
        (∀ x, throughRoute s.tables = some x → s.sm.mode = .hold ∨ s.sm.mode = .manual →
            s.cp.plan.map (fun p => (p.kind, p.owner)) = some (.body, m.id) →
          exec .bookingStripCheck s = .next { s with
            lt := { s.lt with train := modEntry m.id (fun e => { e with stripMark := true }) s.lt.train }
            cp := { s.cp with plan := some ⟨[x], m.id, .body⟩ }
            handed := s.handed.erase .bookingStripCheck
              ++ [.eventPosted .stripComplete m.id (m.delivery.routes.get r / 1000 : Nat)] })
        ∧ (s.cp.plan.map (fun p => (p.kind, p.owner)) ≠ some (.body, m.id) →
          exec .bookingStripCheck s = .next { s with
            lt := { s.lt with train := modEntry m.id (fun e => { e with stripMark := true }) s.lt.train }
            handed := s.handed.erase .bookingStripCheck
              ++ [.eventPosted .stripComplete m.id (m.delivery.routes.get r / 1000 : Nat)] }))
      ∧ (m.stripMark = true ∨ m.delivery.routes.get r < v * 1000 →
        exec .bookingStripCheck s = .next (s.take .bookingStripCheck)))
    ∧ ((∀ r v, governing s.tables s.lt.train m ≠ .strip r v) →
        exec .bookingStripCheck s = .next (s.take .bookingStripCheck))

/-! ### Power and starts (chapter 8) -/

/-- What a start of a kind with a cause comes to: the tables of the image or the factory values, HOLD where that image is
complete and UNCONFIGURED else, no switch, window, confirmation or reply, the slots and the link counts at their
beginnings, ATTN released; after a cold start an empty train, list, store and log and S at 0; after a warm start all
of these kept, a DIVERT or ENTER of the list at least where no interface is ANCHORED, whose volumetric points R123
could merge it with. -/
def Safety.StartTaken (s t : State) (k : StartKind) (c : StartCause) : Prop :=
  t.powered = true ∧ t.sm.starting = true ∧ t.sm.kind = k ∧ t.sm.cause = c ∧ t.sm.requested = none
  ∧ t.el.attn = false ∧ t.li.assembler = .closed ∧ t.li.reply = none ∧ t.li.badCrc = 0 ∧ t.li.refusals = 0
  ∧ t.tables = s.cs.image.getD .factory
  ∧ t.sm.mode = (match s.cs.image with
      | some tb => if missingMask tb = 0 then .hold else .unconfigured
      | none => .unconfigured)
  ∧ t.li.edited = s.cs.image.isNone ∧ t.cs = ⟨s.cs.image, none⟩
  ∧ t.rc.switching = none ∧ t.rc.latch = false ∧ t.lt.window = none ∧ t.lt.confirm = none
  ∧ t.ip.slots = .all .start ∧ t.ip.cycle = none ∧ t.mu.flowState = .standstill ∧ t.mu.inlet.pulses = 0
  ∧ t.mu.inlet.flow = 0
  ∧ (k = .cold → t.lt.train = [] ∧ t.lt.sLast = 0 ∧ t.ts = [] ∧ t.el.records = [] ∧ t.stationS = 0 ∧ t.cp.actions = []
      ∧ t.cp.plan = none ∧ t.mu.inlet.gross = 0
      ∧ .eventPosted .startCold (startCauseCode c) (modeCode t.sm.mode) ∈ t.handed)
  ∧ (k = .warm → t.lt.train.map (·.id) = s.lt.train.map (·.id) ∧ t.lt.sLast = s.lt.sLast
      ∧ t.lt.gap = t.tables.params.gapParameter ∧ t.ts = s.ts ∧ t.el.records = s.el.records
      ∧ t.mu.inlet.std = s.mu.inlet.std ∧ t.mu.inlet.gross = s.mu.inlet.gross ∧ t.mu.inlet.residue = s.mu.inlet.residue
      ∧ t.mu.delivery.std = s.mu.delivery.std
      ∧ (∀ e ∈ t.lt.train, ∀ i, e.leading = some i → i.track ≠ .window)
      ∧ (t.sm.mode = .hold → (∀ e ∈ s.lt.train, ∀ i, e.leading = some i → i.track ≠ .anchored) →
          ∀ a ∈ s.cp.actions, a.kind = .divert ∨ a.kind = .enter → a ∈ t.cp.actions)
      ∧ (∀ r v, (t.tables.routes.get r).isSome → s.rc.valves.get r = some v → v.state = .lockedOut →
          (t.rc.valves.get r).map (fun v => (v.state, v.faults)) = some (.lockedOut, v.faults))
      ∧ .eventPosted .startWarm (startCauseCode c) (modeCode t.sm.mode) ∈ t.handed
      ∧ .eventPosted .trackingGap 0 (if c = .powerOn then 0 else s.mu.inlet.pulses) ∈ t.handed)

/-- Power coming on to a unit without power, and failing on one with power [9], with the operands of [28]: coming on takes
a warm start where the retained memory was left valid and its backup held, else a cold one, with the clock at 0;
failing keeps what is retained, drops what is on its way [18] and, in the middle of a change, leaves the check
invalid; RSTIN takes a warm start when asserted and lets it end when released; a requested start is accepted, a cold
one in HOLD and UNCONFIGURED alone, and taken afterwards [10]. -/
def Obligations.PowerResetAndRequestsTakeStarts : Prop :=
  ∀ s : State,
    (∀ b, s.powered = false → ∃ t, exec (.powerOn b) s = .next t
        ∧ Safety.StartTaken s t (if s.sm.check = true ∧ b = false then .warm else .cold) .powerOn
        ∧ t.clock = ⟨0, 0, 0, false⟩ ∧ t.sm.powerOnTest = (s.sm.check && !b))
    ∧ (∀ b, s.powered = true → exec (.powerOn b) s = .next (s.take (.powerOn b)))
    ∧ (∀ b, s.powered = true → exec (.powerLoss b) s = .next { s with
        powered := false, cs := ⟨s.cs.image, none⟩
        sm := { s.sm with check := s.sm.check && !b, starting := false, requested := none }
        el := { s.el with attn := false }, li := { s.li with assembler := .closed, reply := none }, handed := [] })
    ∧ (∀ b, s.powered = false → exec (.powerLoss b) s = .next (s.take (.powerLoss b)))
    ∧ (s.powered = true → s.rstin = false → ∃ t, exec .rstinAsserted s = .next t ∧ Safety.StartTaken s t .warm .rstin
        ∧ t.rstin = true ∧ t.clock = s.clock ∧ .startEnd ∉ t.handed)
    ∧ (s.powered = true → s.rstin = true → s.sm.starting = true → exec .rstinReleased s = .next { s with
        rstin := false, handed := s.handed.erase .rstinReleased ++ [.startEnd] })
    ∧ (s.running = true → exec .warmStart s = .next { s with
        sm := { s.sm with requested := some .warm }
        li := { s.li with reply := some ⟨0xA4, []⟩, assembler := .closed } })
    ∧ (s.running = true → s.sm.mode = .hold ∨ s.sm.mode = .unconfigured → exec .coldStart s = .next { s with
        sm := { s.sm with requested := some .cold }
        li := { s.li with reply := some ⟨0xA5, []⟩, assembler := .closed } })
    ∧ (s.running = true → s.sm.mode ≠ .hold → s.sm.mode ≠ .unconfigured →
        exec .coldStart s = .next (s.refuse 0x25 .wrongMode 0))
    ∧ (∀ k, s.running = true → s.sm.requested = some k → ∃ t, exec .requestedStartTaken s = .next t
        ∧ Safety.StartTaken s t k .request ∧ t.clock = s.clock ∧ (s.rstin = false → .startEnd ∈ t.handed))
    ∧ (s.running = true → s.sm.requested = none →
        exec .requestedStartTaken s = .next (s.take .requestedStartTaken))

/-- The end of a start, with RSTIN released: the unit runs, the retained-memory check is valid, the assembler hunts, a
poll tick falls due and the first period runs from now, ATTN is judged, and every route that is not LOCKED_OUT takes
its state from its limits as they stand now, by the model's choice [19], keeping its fault count unless both limits
are active. With no start under way nothing happens [9]. -/
def Obligations.StartEndOpensTheWork : Prop :=
  ∀ s : State, s.powered = true → s.rstin = false →
    (s.sm.starting = true → s.sm.mode = .hold ∨ s.sm.mode = .unconfigured →
      ∃ t, exec .startEnd s = .next t ∧ t.running = true
        ∧ t.sm = { s.sm with check := true, starting := false } ∧ t.li = { s.li with assembler := .hunting }
        ∧ t.mu = { s.mu with periodDue := s.clock.ms + 1000 }
        ∧ t.ip = { s.ip with tickDue := s.clock.ms + s.tables.params.pollPeriod }
        ∧ .pollTick ∈ t.handed ∧ Safety.AttnLaw t
        ∧ (∀ r v, s.rc.valves.get r = some v →
          (v.state = .lockedOut → t.rc.valves.get r = some v)
          ∧ (v.state ≠ .lockedOut → (t.rc.valves.get r).map (fun v => (v.state, v.faults))
              = some (match (s.rc.limits.get r).opened, (s.rc.limits.get r).closed with
                  | true, false => (.opened, v.faults)
                  | false, true => (.closed, v.faults)
                  | false, false => (.unknown, v.faults)
                  | true, true => (if faultLimitOf s r ≤ min 7 (v.faults + 1) then .lockedOut else .fault,
                      min 7 (v.faults + 1))))))
    ∧ (s.sm.starting = false → exec .startEnd s = .next (s.take .startEnd))
end

