-- ==== Sys2Proof/Laws/State.lean ====
section
/-! SUPPORT. Laws/State.lean: what each named update does to each field of State, and the items by route, slot, channel and
level. -/

namespace Sys2Proof.Machine

/-! ### State.hand -/

@[simp] theorem State.hand_powered (i : Instr) (s : State) : (s.hand i).powered = s.powered := rfl
@[simp] theorem State.hand_rstin (i : Instr) (s : State) : (s.hand i).rstin = s.rstin := rfl
@[simp] theorem State.hand_clock (i : Instr) (s : State) : (s.hand i).clock = s.clock := rfl
@[simp] theorem State.hand_tables (i : Instr) (s : State) : (s.hand i).tables = s.tables := rfl
@[simp] theorem State.hand_cs (i : Instr) (s : State) : (s.hand i).cs = s.cs := rfl
@[simp] theorem State.hand_mu (i : Instr) (s : State) : (s.hand i).mu = s.mu := rfl
@[simp] theorem State.hand_ip (i : Instr) (s : State) : (s.hand i).ip = s.ip := rfl
@[simp] theorem State.hand_sd (i : Instr) (s : State) : (s.hand i).sd = s.sd := rfl
@[simp] theorem State.hand_lt (i : Instr) (s : State) : (s.hand i).lt = s.lt := rfl
@[simp] theorem State.hand_cp (i : Instr) (s : State) : (s.hand i).cp = s.cp := rfl
@[simp] theorem State.hand_rc (i : Instr) (s : State) : (s.hand i).rc = s.rc := rfl
@[simp] theorem State.hand_sm (i : Instr) (s : State) : (s.hand i).sm = s.sm := rfl
@[simp] theorem State.hand_ts (i : Instr) (s : State) : (s.hand i).ts = s.ts := rfl
@[simp] theorem State.hand_el (i : Instr) (s : State) : (s.hand i).el = s.el := rfl
@[simp] theorem State.hand_li (i : Instr) (s : State) : (s.hand i).li = s.li := rfl
@[simp] theorem State.hand_handed (i : Instr) (s : State) : (s.hand i).handed = s.handed ++ [i] := rfl
@[simp] theorem State.hand_pending (i : Instr) (s : State) : (s.hand i).pending = s.pending := rfl
@[simp] theorem State.hand_running (i : Instr) (s : State) : (s.hand i).running = s.running := rfl
@[simp] theorem State.hand_stationS (i : Instr) (s : State) : (s.hand i).stationS = s.stationS := rfl

/-! ### State.take -/

@[simp] theorem State.take_powered (i : Instr) (s : State) : (s.take i).powered = s.powered := rfl
@[simp] theorem State.take_rstin (i : Instr) (s : State) : (s.take i).rstin = s.rstin := rfl
@[simp] theorem State.take_clock (i : Instr) (s : State) : (s.take i).clock = s.clock := rfl
@[simp] theorem State.take_tables (i : Instr) (s : State) : (s.take i).tables = s.tables := rfl
@[simp] theorem State.take_cs (i : Instr) (s : State) : (s.take i).cs = s.cs := rfl
@[simp] theorem State.take_mu (i : Instr) (s : State) : (s.take i).mu = s.mu := rfl
@[simp] theorem State.take_ip (i : Instr) (s : State) : (s.take i).ip = s.ip := rfl
@[simp] theorem State.take_sd (i : Instr) (s : State) : (s.take i).sd = s.sd := rfl
@[simp] theorem State.take_lt (i : Instr) (s : State) : (s.take i).lt = s.lt := rfl
@[simp] theorem State.take_cp (i : Instr) (s : State) : (s.take i).cp = s.cp := rfl
@[simp] theorem State.take_rc (i : Instr) (s : State) : (s.take i).rc = s.rc := rfl
@[simp] theorem State.take_sm (i : Instr) (s : State) : (s.take i).sm = s.sm := rfl
@[simp] theorem State.take_ts (i : Instr) (s : State) : (s.take i).ts = s.ts := rfl
@[simp] theorem State.take_el (i : Instr) (s : State) : (s.take i).el = s.el := rfl
@[simp] theorem State.take_li (i : Instr) (s : State) : (s.take i).li = s.li := rfl
@[simp] theorem State.take_handed (i : Instr) (s : State) : (s.take i).handed = s.handed.erase i.canonical := rfl
@[simp] theorem State.take_pending (i : Instr) (s : State) : (s.take i).pending = s.pending := rfl
@[simp] theorem State.take_running (i : Instr) (s : State) : (s.take i).running = s.running := rfl
@[simp] theorem State.take_stationS (i : Instr) (s : State) : (s.take i).stationS = s.stationS := rfl

/-! ### State.post -/

@[simp] theorem State.post_powered (k : EventKind) (n : Nat) (d : Int) (s : State) : (s.post k n d).powered = s.powered := rfl
@[simp] theorem State.post_rstin (k : EventKind) (n : Nat) (d : Int) (s : State) : (s.post k n d).rstin = s.rstin := rfl
@[simp] theorem State.post_clock (k : EventKind) (n : Nat) (d : Int) (s : State) : (s.post k n d).clock = s.clock := rfl
@[simp] theorem State.post_tables (k : EventKind) (n : Nat) (d : Int) (s : State) : (s.post k n d).tables = s.tables := rfl
@[simp] theorem State.post_cs (k : EventKind) (n : Nat) (d : Int) (s : State) : (s.post k n d).cs = s.cs := rfl
@[simp] theorem State.post_mu (k : EventKind) (n : Nat) (d : Int) (s : State) : (s.post k n d).mu = s.mu := rfl
@[simp] theorem State.post_ip (k : EventKind) (n : Nat) (d : Int) (s : State) : (s.post k n d).ip = s.ip := rfl
@[simp] theorem State.post_sd (k : EventKind) (n : Nat) (d : Int) (s : State) : (s.post k n d).sd = s.sd := rfl
@[simp] theorem State.post_lt (k : EventKind) (n : Nat) (d : Int) (s : State) : (s.post k n d).lt = s.lt := rfl
@[simp] theorem State.post_cp (k : EventKind) (n : Nat) (d : Int) (s : State) : (s.post k n d).cp = s.cp := rfl
@[simp] theorem State.post_rc (k : EventKind) (n : Nat) (d : Int) (s : State) : (s.post k n d).rc = s.rc := rfl
@[simp] theorem State.post_sm (k : EventKind) (n : Nat) (d : Int) (s : State) : (s.post k n d).sm = s.sm := rfl
@[simp] theorem State.post_ts (k : EventKind) (n : Nat) (d : Int) (s : State) : (s.post k n d).ts = s.ts := rfl
@[simp] theorem State.post_el (k : EventKind) (n : Nat) (d : Int) (s : State) : (s.post k n d).el = s.el := rfl
@[simp] theorem State.post_li (k : EventKind) (n : Nat) (d : Int) (s : State) : (s.post k n d).li = s.li := rfl
@[simp] theorem State.post_handed (k : EventKind) (n : Nat) (d : Int) (s : State) : (s.post k n d).handed = s.handed ++ [.eventPosted k n d] := rfl
@[simp] theorem State.post_pending (k : EventKind) (n : Nat) (d : Int) (s : State) : (s.post k n d).pending = s.pending := rfl
@[simp] theorem State.post_running (k : EventKind) (n : Nat) (d : Int) (s : State) : (s.post k n d).running = s.running := rfl
@[simp] theorem State.post_stationS (k : EventKind) (n : Nat) (d : Int) (s : State) : (s.post k n d).stationS = s.stationS := rfl

/-! ### State.reply -/

@[simp] theorem State.reply_powered (c : Nat) (p : List Byte) (s : State) : (s.reply c p).powered = s.powered := rfl
@[simp] theorem State.reply_rstin (c : Nat) (p : List Byte) (s : State) : (s.reply c p).rstin = s.rstin := rfl
@[simp] theorem State.reply_clock (c : Nat) (p : List Byte) (s : State) : (s.reply c p).clock = s.clock := rfl
@[simp] theorem State.reply_tables (c : Nat) (p : List Byte) (s : State) : (s.reply c p).tables = s.tables := rfl
@[simp] theorem State.reply_cs (c : Nat) (p : List Byte) (s : State) : (s.reply c p).cs = s.cs := rfl
@[simp] theorem State.reply_mu (c : Nat) (p : List Byte) (s : State) : (s.reply c p).mu = s.mu := rfl
@[simp] theorem State.reply_ip (c : Nat) (p : List Byte) (s : State) : (s.reply c p).ip = s.ip := rfl
@[simp] theorem State.reply_sd (c : Nat) (p : List Byte) (s : State) : (s.reply c p).sd = s.sd := rfl
@[simp] theorem State.reply_lt (c : Nat) (p : List Byte) (s : State) : (s.reply c p).lt = s.lt := rfl
@[simp] theorem State.reply_cp (c : Nat) (p : List Byte) (s : State) : (s.reply c p).cp = s.cp := rfl
@[simp] theorem State.reply_rc (c : Nat) (p : List Byte) (s : State) : (s.reply c p).rc = s.rc := rfl
@[simp] theorem State.reply_sm (c : Nat) (p : List Byte) (s : State) : (s.reply c p).sm = s.sm := rfl
@[simp] theorem State.reply_ts (c : Nat) (p : List Byte) (s : State) : (s.reply c p).ts = s.ts := rfl
@[simp] theorem State.reply_el (c : Nat) (p : List Byte) (s : State) : (s.reply c p).el = s.el := rfl
@[simp] theorem State.reply_li (c : Nat) (p : List Byte) (s : State) : (s.reply c p).li = { s.li with reply := some ⟨c, p⟩, assembler := .closed } := rfl
@[simp] theorem State.reply_handed (c : Nat) (p : List Byte) (s : State) : (s.reply c p).handed = s.handed := rfl
@[simp] theorem State.reply_pending (c : Nat) (p : List Byte) (s : State) : (s.reply c p).pending = s.pending := rfl
@[simp] theorem State.reply_running (c : Nat) (p : List Byte) (s : State) : (s.reply c p).running = s.running := rfl
@[simp] theorem State.reply_stationS (c : Nat) (p : List Byte) (s : State) : (s.reply c p).stationS = s.stationS := rfl

/-! ### State.accept -/

@[simp] theorem State.accept_powered (c : Nat) (p : List Byte) (s : State) : (s.accept c p).powered = s.powered := rfl
@[simp] theorem State.accept_rstin (c : Nat) (p : List Byte) (s : State) : (s.accept c p).rstin = s.rstin := rfl
@[simp] theorem State.accept_clock (c : Nat) (p : List Byte) (s : State) : (s.accept c p).clock = s.clock := rfl
@[simp] theorem State.accept_tables (c : Nat) (p : List Byte) (s : State) : (s.accept c p).tables = s.tables := rfl
@[simp] theorem State.accept_cs (c : Nat) (p : List Byte) (s : State) : (s.accept c p).cs = s.cs := rfl
@[simp] theorem State.accept_mu (c : Nat) (p : List Byte) (s : State) : (s.accept c p).mu = s.mu := rfl
@[simp] theorem State.accept_ip (c : Nat) (p : List Byte) (s : State) : (s.accept c p).ip = s.ip := rfl
@[simp] theorem State.accept_sd (c : Nat) (p : List Byte) (s : State) : (s.accept c p).sd = s.sd := rfl
@[simp] theorem State.accept_lt (c : Nat) (p : List Byte) (s : State) : (s.accept c p).lt = s.lt := rfl
@[simp] theorem State.accept_cp (c : Nat) (p : List Byte) (s : State) : (s.accept c p).cp = s.cp := rfl
@[simp] theorem State.accept_rc (c : Nat) (p : List Byte) (s : State) : (s.accept c p).rc = s.rc := rfl
@[simp] theorem State.accept_sm (c : Nat) (p : List Byte) (s : State) : (s.accept c p).sm = s.sm := rfl
@[simp] theorem State.accept_ts (c : Nat) (p : List Byte) (s : State) : (s.accept c p).ts = s.ts := rfl
@[simp] theorem State.accept_el (c : Nat) (p : List Byte) (s : State) : (s.accept c p).el = s.el := rfl
@[simp] theorem State.accept_li (c : Nat) (p : List Byte) (s : State) : (s.accept c p).li = { s.li with reply := some ⟨c + 0x80, p⟩, assembler := .closed } := rfl
@[simp] theorem State.accept_handed (c : Nat) (p : List Byte) (s : State) : (s.accept c p).handed = s.handed := rfl
@[simp] theorem State.accept_pending (c : Nat) (p : List Byte) (s : State) : (s.accept c p).pending = s.pending := rfl
@[simp] theorem State.accept_running (c : Nat) (p : List Byte) (s : State) : (s.accept c p).running = s.running := rfl
@[simp] theorem State.accept_stationS (c : Nat) (p : List Byte) (s : State) : (s.accept c p).stationS = s.stationS := rfl

/-! ### State.refuse -/

@[simp] theorem State.refuse_powered (c : Nat) (k : RefusalCode) (d : Int) (s : State) : (s.refuse c k d).powered = s.powered := rfl
@[simp] theorem State.refuse_rstin (c : Nat) (k : RefusalCode) (d : Int) (s : State) : (s.refuse c k d).rstin = s.rstin := rfl
@[simp] theorem State.refuse_clock (c : Nat) (k : RefusalCode) (d : Int) (s : State) : (s.refuse c k d).clock = s.clock := rfl
@[simp] theorem State.refuse_tables (c : Nat) (k : RefusalCode) (d : Int) (s : State) : (s.refuse c k d).tables = s.tables := rfl
@[simp] theorem State.refuse_cs (c : Nat) (k : RefusalCode) (d : Int) (s : State) : (s.refuse c k d).cs = s.cs := rfl
@[simp] theorem State.refuse_mu (c : Nat) (k : RefusalCode) (d : Int) (s : State) : (s.refuse c k d).mu = s.mu := rfl
@[simp] theorem State.refuse_ip (c : Nat) (k : RefusalCode) (d : Int) (s : State) : (s.refuse c k d).ip = s.ip := rfl
@[simp] theorem State.refuse_sd (c : Nat) (k : RefusalCode) (d : Int) (s : State) : (s.refuse c k d).sd = s.sd := rfl
@[simp] theorem State.refuse_lt (c : Nat) (k : RefusalCode) (d : Int) (s : State) : (s.refuse c k d).lt = s.lt := rfl
@[simp] theorem State.refuse_cp (c : Nat) (k : RefusalCode) (d : Int) (s : State) : (s.refuse c k d).cp = s.cp := rfl
@[simp] theorem State.refuse_rc (c : Nat) (k : RefusalCode) (d : Int) (s : State) : (s.refuse c k d).rc = s.rc := rfl
@[simp] theorem State.refuse_sm (c : Nat) (k : RefusalCode) (d : Int) (s : State) : (s.refuse c k d).sm = s.sm := rfl
@[simp] theorem State.refuse_ts (c : Nat) (k : RefusalCode) (d : Int) (s : State) : (s.refuse c k d).ts = s.ts := rfl
@[simp] theorem State.refuse_el (c : Nat) (k : RefusalCode) (d : Int) (s : State) : (s.refuse c k d).el = s.el := rfl
@[simp] theorem State.refuse_li (c : Nat) (k : RefusalCode) (d : Int) (s : State) : (s.refuse c k d).li = { s.li with
      refusals := satInc Config.count16Max s.li.refusals, assembler := .closed
      reply := some ⟨0x7F, bytesOf 1 c ++ bytesOf 1 (refusalNumber k) ++ encSigned 4 d⟩ } := rfl
@[simp] theorem State.refuse_handed (c : Nat) (k : RefusalCode) (d : Int) (s : State) : (s.refuse c k d).handed = s.handed := rfl
@[simp] theorem State.refuse_pending (c : Nat) (k : RefusalCode) (d : Int) (s : State) : (s.refuse c k d).pending = s.pending := rfl
@[simp] theorem State.refuse_running (c : Nat) (k : RefusalCode) (d : Int) (s : State) : (s.refuse c k d).running = s.running := rfl
@[simp] theorem State.refuse_stationS (c : Nat) (k : RefusalCode) (d : Int) (s : State) : (s.refuse c k d).stationS = s.stationS := rfl

/-! ### State.setTrain -/

@[simp] theorem State.setTrain_powered (t : List Entry) (s : State) : (s.setTrain t).powered = s.powered := rfl
@[simp] theorem State.setTrain_rstin (t : List Entry) (s : State) : (s.setTrain t).rstin = s.rstin := rfl
@[simp] theorem State.setTrain_clock (t : List Entry) (s : State) : (s.setTrain t).clock = s.clock := rfl
@[simp] theorem State.setTrain_tables (t : List Entry) (s : State) : (s.setTrain t).tables = s.tables := rfl
@[simp] theorem State.setTrain_cs (t : List Entry) (s : State) : (s.setTrain t).cs = s.cs := rfl
@[simp] theorem State.setTrain_mu (t : List Entry) (s : State) : (s.setTrain t).mu = s.mu := rfl
@[simp] theorem State.setTrain_ip (t : List Entry) (s : State) : (s.setTrain t).ip = s.ip := rfl
@[simp] theorem State.setTrain_sd (t : List Entry) (s : State) : (s.setTrain t).sd = s.sd := rfl
@[simp] theorem State.setTrain_lt (t : List Entry) (s : State) : (s.setTrain t).lt = { s.lt with train := t } := rfl
@[simp] theorem State.setTrain_cp (t : List Entry) (s : State) : (s.setTrain t).cp = s.cp := rfl
@[simp] theorem State.setTrain_rc (t : List Entry) (s : State) : (s.setTrain t).rc = s.rc := rfl
@[simp] theorem State.setTrain_sm (t : List Entry) (s : State) : (s.setTrain t).sm = s.sm := rfl
@[simp] theorem State.setTrain_ts (t : List Entry) (s : State) : (s.setTrain t).ts = s.ts := rfl
@[simp] theorem State.setTrain_el (t : List Entry) (s : State) : (s.setTrain t).el = s.el := rfl
@[simp] theorem State.setTrain_li (t : List Entry) (s : State) : (s.setTrain t).li = s.li := rfl
@[simp] theorem State.setTrain_handed (t : List Entry) (s : State) : (s.setTrain t).handed = s.handed := rfl
@[simp] theorem State.setTrain_pending (t : List Entry) (s : State) : (s.setTrain t).pending = s.pending := rfl
@[simp] theorem State.setTrain_running (t : List Entry) (s : State) : (s.setTrain t).running = s.running := rfl
@[simp] theorem State.setTrain_stationS (t : List Entry) (s : State) : (s.setTrain t).stationS = s.stationS := rfl

/-! ### State.setWindow -/

@[simp] theorem State.setWindow_powered (w : Option WindowRecord) (s : State) : (s.setWindow w).powered = s.powered := rfl
@[simp] theorem State.setWindow_rstin (w : Option WindowRecord) (s : State) : (s.setWindow w).rstin = s.rstin := rfl
@[simp] theorem State.setWindow_clock (w : Option WindowRecord) (s : State) : (s.setWindow w).clock = s.clock := rfl
@[simp] theorem State.setWindow_tables (w : Option WindowRecord) (s : State) : (s.setWindow w).tables = s.tables := rfl
@[simp] theorem State.setWindow_cs (w : Option WindowRecord) (s : State) : (s.setWindow w).cs = s.cs := rfl
@[simp] theorem State.setWindow_mu (w : Option WindowRecord) (s : State) : (s.setWindow w).mu = s.mu := rfl
@[simp] theorem State.setWindow_ip (w : Option WindowRecord) (s : State) : (s.setWindow w).ip = s.ip := rfl
@[simp] theorem State.setWindow_sd (w : Option WindowRecord) (s : State) : (s.setWindow w).sd = s.sd := rfl
@[simp] theorem State.setWindow_lt (w : Option WindowRecord) (s : State) : (s.setWindow w).lt = { s.lt with window := w } := rfl
@[simp] theorem State.setWindow_cp (w : Option WindowRecord) (s : State) : (s.setWindow w).cp = s.cp := rfl
@[simp] theorem State.setWindow_rc (w : Option WindowRecord) (s : State) : (s.setWindow w).rc = s.rc := rfl
@[simp] theorem State.setWindow_sm (w : Option WindowRecord) (s : State) : (s.setWindow w).sm = s.sm := rfl
@[simp] theorem State.setWindow_ts (w : Option WindowRecord) (s : State) : (s.setWindow w).ts = s.ts := rfl
@[simp] theorem State.setWindow_el (w : Option WindowRecord) (s : State) : (s.setWindow w).el = s.el := rfl
@[simp] theorem State.setWindow_li (w : Option WindowRecord) (s : State) : (s.setWindow w).li = s.li := rfl
@[simp] theorem State.setWindow_handed (w : Option WindowRecord) (s : State) : (s.setWindow w).handed = s.handed := rfl
@[simp] theorem State.setWindow_pending (w : Option WindowRecord) (s : State) : (s.setWindow w).pending = s.pending := rfl
@[simp] theorem State.setWindow_running (w : Option WindowRecord) (s : State) : (s.setWindow w).running = s.running := rfl
@[simp] theorem State.setWindow_stationS (w : Option WindowRecord) (s : State) : (s.setWindow w).stationS = s.stationS := rfl

/-! ### State.setConfirm -/

@[simp] theorem State.setConfirm_powered (c : Option ConfirmRecord) (s : State) : (s.setConfirm c).powered = s.powered := rfl
@[simp] theorem State.setConfirm_rstin (c : Option ConfirmRecord) (s : State) : (s.setConfirm c).rstin = s.rstin := rfl
@[simp] theorem State.setConfirm_clock (c : Option ConfirmRecord) (s : State) : (s.setConfirm c).clock = s.clock := rfl
@[simp] theorem State.setConfirm_tables (c : Option ConfirmRecord) (s : State) : (s.setConfirm c).tables = s.tables := rfl
@[simp] theorem State.setConfirm_cs (c : Option ConfirmRecord) (s : State) : (s.setConfirm c).cs = s.cs := rfl
@[simp] theorem State.setConfirm_mu (c : Option ConfirmRecord) (s : State) : (s.setConfirm c).mu = s.mu := rfl
@[simp] theorem State.setConfirm_ip (c : Option ConfirmRecord) (s : State) : (s.setConfirm c).ip = s.ip := rfl
@[simp] theorem State.setConfirm_sd (c : Option ConfirmRecord) (s : State) : (s.setConfirm c).sd = s.sd := rfl
@[simp] theorem State.setConfirm_lt (c : Option ConfirmRecord) (s : State) : (s.setConfirm c).lt = { s.lt with confirm := c } := rfl
@[simp] theorem State.setConfirm_cp (c : Option ConfirmRecord) (s : State) : (s.setConfirm c).cp = s.cp := rfl
@[simp] theorem State.setConfirm_rc (c : Option ConfirmRecord) (s : State) : (s.setConfirm c).rc = s.rc := rfl
@[simp] theorem State.setConfirm_sm (c : Option ConfirmRecord) (s : State) : (s.setConfirm c).sm = s.sm := rfl
@[simp] theorem State.setConfirm_ts (c : Option ConfirmRecord) (s : State) : (s.setConfirm c).ts = s.ts := rfl
@[simp] theorem State.setConfirm_el (c : Option ConfirmRecord) (s : State) : (s.setConfirm c).el = s.el := rfl
@[simp] theorem State.setConfirm_li (c : Option ConfirmRecord) (s : State) : (s.setConfirm c).li = s.li := rfl
@[simp] theorem State.setConfirm_handed (c : Option ConfirmRecord) (s : State) : (s.setConfirm c).handed = s.handed := rfl
@[simp] theorem State.setConfirm_pending (c : Option ConfirmRecord) (s : State) : (s.setConfirm c).pending = s.pending := rfl
@[simp] theorem State.setConfirm_running (c : Option ConfirmRecord) (s : State) : (s.setConfirm c).running = s.running := rfl
@[simp] theorem State.setConfirm_stationS (c : Option ConfirmRecord) (s : State) : (s.setConfirm c).stationS = s.stationS := rfl

/-! ### State.setPlan -/

@[simp] theorem State.setPlan_powered (p : Option Plan) (s : State) : (s.setPlan p).powered = s.powered := rfl
@[simp] theorem State.setPlan_rstin (p : Option Plan) (s : State) : (s.setPlan p).rstin = s.rstin := rfl
@[simp] theorem State.setPlan_clock (p : Option Plan) (s : State) : (s.setPlan p).clock = s.clock := rfl
@[simp] theorem State.setPlan_tables (p : Option Plan) (s : State) : (s.setPlan p).tables = s.tables := rfl
@[simp] theorem State.setPlan_cs (p : Option Plan) (s : State) : (s.setPlan p).cs = s.cs := rfl
@[simp] theorem State.setPlan_mu (p : Option Plan) (s : State) : (s.setPlan p).mu = s.mu := rfl
@[simp] theorem State.setPlan_ip (p : Option Plan) (s : State) : (s.setPlan p).ip = s.ip := rfl
@[simp] theorem State.setPlan_sd (p : Option Plan) (s : State) : (s.setPlan p).sd = s.sd := rfl
@[simp] theorem State.setPlan_lt (p : Option Plan) (s : State) : (s.setPlan p).lt = s.lt := rfl
@[simp] theorem State.setPlan_cp (p : Option Plan) (s : State) : (s.setPlan p).cp = { s.cp with plan := p } := rfl
@[simp] theorem State.setPlan_rc (p : Option Plan) (s : State) : (s.setPlan p).rc = s.rc := rfl
@[simp] theorem State.setPlan_sm (p : Option Plan) (s : State) : (s.setPlan p).sm = s.sm := rfl
@[simp] theorem State.setPlan_ts (p : Option Plan) (s : State) : (s.setPlan p).ts = s.ts := rfl
@[simp] theorem State.setPlan_el (p : Option Plan) (s : State) : (s.setPlan p).el = s.el := rfl
@[simp] theorem State.setPlan_li (p : Option Plan) (s : State) : (s.setPlan p).li = s.li := rfl
@[simp] theorem State.setPlan_handed (p : Option Plan) (s : State) : (s.setPlan p).handed = s.handed := rfl
@[simp] theorem State.setPlan_pending (p : Option Plan) (s : State) : (s.setPlan p).pending = s.pending := rfl
@[simp] theorem State.setPlan_running (p : Option Plan) (s : State) : (s.setPlan p).running = s.running := rfl
@[simp] theorem State.setPlan_stationS (p : Option Plan) (s : State) : (s.setPlan p).stationS = s.stationS := rfl

/-! ### State.setActions -/

@[simp] theorem State.setActions_powered (a : List Action) (s : State) : (s.setActions a).powered = s.powered := rfl
@[simp] theorem State.setActions_rstin (a : List Action) (s : State) : (s.setActions a).rstin = s.rstin := rfl
@[simp] theorem State.setActions_clock (a : List Action) (s : State) : (s.setActions a).clock = s.clock := rfl
@[simp] theorem State.setActions_tables (a : List Action) (s : State) : (s.setActions a).tables = s.tables := rfl
@[simp] theorem State.setActions_cs (a : List Action) (s : State) : (s.setActions a).cs = s.cs := rfl
@[simp] theorem State.setActions_mu (a : List Action) (s : State) : (s.setActions a).mu = s.mu := rfl
@[simp] theorem State.setActions_ip (a : List Action) (s : State) : (s.setActions a).ip = s.ip := rfl
@[simp] theorem State.setActions_sd (a : List Action) (s : State) : (s.setActions a).sd = s.sd := rfl
@[simp] theorem State.setActions_lt (a : List Action) (s : State) : (s.setActions a).lt = s.lt := rfl
@[simp] theorem State.setActions_cp (a : List Action) (s : State) : (s.setActions a).cp = { s.cp with actions := a } := rfl
@[simp] theorem State.setActions_rc (a : List Action) (s : State) : (s.setActions a).rc = s.rc := rfl
@[simp] theorem State.setActions_sm (a : List Action) (s : State) : (s.setActions a).sm = s.sm := rfl
@[simp] theorem State.setActions_ts (a : List Action) (s : State) : (s.setActions a).ts = s.ts := rfl
@[simp] theorem State.setActions_el (a : List Action) (s : State) : (s.setActions a).el = s.el := rfl
@[simp] theorem State.setActions_li (a : List Action) (s : State) : (s.setActions a).li = s.li := rfl
@[simp] theorem State.setActions_handed (a : List Action) (s : State) : (s.setActions a).handed = s.handed := rfl
@[simp] theorem State.setActions_pending (a : List Action) (s : State) : (s.setActions a).pending = s.pending := rfl
@[simp] theorem State.setActions_running (a : List Action) (s : State) : (s.setActions a).running = s.running := rfl
@[simp] theorem State.setActions_stationS (a : List Action) (s : State) : (s.setActions a).stationS = s.stationS := rfl

/-! ### State.setChannel -/

@[simp] theorem State.setChannel_powered (c : Channel) (x : ChannelState) (s : State) : (s.setChannel c x).powered = s.powered := rfl
@[simp] theorem State.setChannel_rstin (c : Channel) (x : ChannelState) (s : State) : (s.setChannel c x).rstin = s.rstin := rfl
@[simp] theorem State.setChannel_clock (c : Channel) (x : ChannelState) (s : State) : (s.setChannel c x).clock = s.clock := rfl
@[simp] theorem State.setChannel_tables (c : Channel) (x : ChannelState) (s : State) : (s.setChannel c x).tables = s.tables := rfl
@[simp] theorem State.setChannel_cs (c : Channel) (x : ChannelState) (s : State) : (s.setChannel c x).cs = s.cs := rfl
@[simp] theorem State.setChannel_mu (c : Channel) (x : ChannelState) (s : State) : (s.setChannel c x).mu = s.mu := rfl
@[simp] theorem State.setChannel_ip (c : Channel) (x : ChannelState) (s : State) : (s.setChannel c x).ip = s.ip := rfl
@[simp] theorem State.setChannel_sd (c : Channel) (x : ChannelState) (s : State) : (s.setChannel c x).sd = s.sd.set c x := rfl
@[simp] theorem State.setChannel_lt (c : Channel) (x : ChannelState) (s : State) : (s.setChannel c x).lt = s.lt := rfl
@[simp] theorem State.setChannel_cp (c : Channel) (x : ChannelState) (s : State) : (s.setChannel c x).cp = s.cp := rfl
@[simp] theorem State.setChannel_rc (c : Channel) (x : ChannelState) (s : State) : (s.setChannel c x).rc = s.rc := rfl
@[simp] theorem State.setChannel_sm (c : Channel) (x : ChannelState) (s : State) : (s.setChannel c x).sm = s.sm := rfl
@[simp] theorem State.setChannel_ts (c : Channel) (x : ChannelState) (s : State) : (s.setChannel c x).ts = s.ts := rfl
@[simp] theorem State.setChannel_el (c : Channel) (x : ChannelState) (s : State) : (s.setChannel c x).el = s.el := rfl
@[simp] theorem State.setChannel_li (c : Channel) (x : ChannelState) (s : State) : (s.setChannel c x).li = s.li := rfl
@[simp] theorem State.setChannel_handed (c : Channel) (x : ChannelState) (s : State) : (s.setChannel c x).handed = s.handed := rfl
@[simp] theorem State.setChannel_pending (c : Channel) (x : ChannelState) (s : State) : (s.setChannel c x).pending = s.pending := rfl
@[simp] theorem State.setChannel_running (c : Channel) (x : ChannelState) (s : State) : (s.setChannel c x).running = s.running := rfl
@[simp] theorem State.setChannel_stationS (c : Channel) (x : ChannelState) (s : State) : (s.setChannel c x).stationS = s.stationS := rfl

/-! ### State.setValve -/

@[simp] theorem State.setValve_powered (r : RouteNo) (v : Option Valve) (s : State) : (s.setValve r v).powered = s.powered := rfl
@[simp] theorem State.setValve_rstin (r : RouteNo) (v : Option Valve) (s : State) : (s.setValve r v).rstin = s.rstin := rfl
@[simp] theorem State.setValve_clock (r : RouteNo) (v : Option Valve) (s : State) : (s.setValve r v).clock = s.clock := rfl
@[simp] theorem State.setValve_tables (r : RouteNo) (v : Option Valve) (s : State) : (s.setValve r v).tables = s.tables := rfl
@[simp] theorem State.setValve_cs (r : RouteNo) (v : Option Valve) (s : State) : (s.setValve r v).cs = s.cs := rfl
@[simp] theorem State.setValve_mu (r : RouteNo) (v : Option Valve) (s : State) : (s.setValve r v).mu = s.mu := rfl
@[simp] theorem State.setValve_ip (r : RouteNo) (v : Option Valve) (s : State) : (s.setValve r v).ip = s.ip := rfl
@[simp] theorem State.setValve_sd (r : RouteNo) (v : Option Valve) (s : State) : (s.setValve r v).sd = s.sd := rfl
@[simp] theorem State.setValve_lt (r : RouteNo) (v : Option Valve) (s : State) : (s.setValve r v).lt = s.lt := rfl
@[simp] theorem State.setValve_cp (r : RouteNo) (v : Option Valve) (s : State) : (s.setValve r v).cp = s.cp := rfl
@[simp] theorem State.setValve_rc (r : RouteNo) (v : Option Valve) (s : State) : (s.setValve r v).rc = { s.rc with valves := s.rc.valves.set r v } := rfl
@[simp] theorem State.setValve_sm (r : RouteNo) (v : Option Valve) (s : State) : (s.setValve r v).sm = s.sm := rfl
@[simp] theorem State.setValve_ts (r : RouteNo) (v : Option Valve) (s : State) : (s.setValve r v).ts = s.ts := rfl
@[simp] theorem State.setValve_el (r : RouteNo) (v : Option Valve) (s : State) : (s.setValve r v).el = s.el := rfl
@[simp] theorem State.setValve_li (r : RouteNo) (v : Option Valve) (s : State) : (s.setValve r v).li = s.li := rfl
@[simp] theorem State.setValve_handed (r : RouteNo) (v : Option Valve) (s : State) : (s.setValve r v).handed = s.handed := rfl
@[simp] theorem State.setValve_pending (r : RouteNo) (v : Option Valve) (s : State) : (s.setValve r v).pending = s.pending := rfl
@[simp] theorem State.setValve_running (r : RouteNo) (v : Option Valve) (s : State) : (s.setValve r v).running = s.running := rfl
@[simp] theorem State.setValve_stationS (r : RouteNo) (v : Option Valve) (s : State) : (s.setValve r v).stationS = s.stationS := rfl

/-! ### State.setSwitch -/

@[simp] theorem State.setSwitch_powered (w : Option Switch) (s : State) : (s.setSwitch w).powered = s.powered := rfl
@[simp] theorem State.setSwitch_rstin (w : Option Switch) (s : State) : (s.setSwitch w).rstin = s.rstin := rfl
@[simp] theorem State.setSwitch_clock (w : Option Switch) (s : State) : (s.setSwitch w).clock = s.clock := rfl
@[simp] theorem State.setSwitch_tables (w : Option Switch) (s : State) : (s.setSwitch w).tables = s.tables := rfl
@[simp] theorem State.setSwitch_cs (w : Option Switch) (s : State) : (s.setSwitch w).cs = s.cs := rfl
@[simp] theorem State.setSwitch_mu (w : Option Switch) (s : State) : (s.setSwitch w).mu = s.mu := rfl
@[simp] theorem State.setSwitch_ip (w : Option Switch) (s : State) : (s.setSwitch w).ip = s.ip := rfl
@[simp] theorem State.setSwitch_sd (w : Option Switch) (s : State) : (s.setSwitch w).sd = s.sd := rfl
@[simp] theorem State.setSwitch_lt (w : Option Switch) (s : State) : (s.setSwitch w).lt = s.lt := rfl
@[simp] theorem State.setSwitch_cp (w : Option Switch) (s : State) : (s.setSwitch w).cp = s.cp := rfl
@[simp] theorem State.setSwitch_rc (w : Option Switch) (s : State) : (s.setSwitch w).rc = { s.rc with switching := w } := rfl
@[simp] theorem State.setSwitch_sm (w : Option Switch) (s : State) : (s.setSwitch w).sm = s.sm := rfl
@[simp] theorem State.setSwitch_ts (w : Option Switch) (s : State) : (s.setSwitch w).ts = s.ts := rfl
@[simp] theorem State.setSwitch_el (w : Option Switch) (s : State) : (s.setSwitch w).el = s.el := rfl
@[simp] theorem State.setSwitch_li (w : Option Switch) (s : State) : (s.setSwitch w).li = s.li := rfl
@[simp] theorem State.setSwitch_handed (w : Option Switch) (s : State) : (s.setSwitch w).handed = s.handed := rfl
@[simp] theorem State.setSwitch_pending (w : Option Switch) (s : State) : (s.setSwitch w).pending = s.pending := rfl
@[simp] theorem State.setSwitch_running (w : Option Switch) (s : State) : (s.setSwitch w).running = s.running := rfl
@[simp] theorem State.setSwitch_stationS (w : Option Switch) (s : State) : (s.setSwitch w).stationS = s.stationS := rfl

/-! ### State.setLatch -/

@[simp] theorem State.setLatch_powered (b : Bool) (s : State) : (s.setLatch b).powered = s.powered := rfl
@[simp] theorem State.setLatch_rstin (b : Bool) (s : State) : (s.setLatch b).rstin = s.rstin := rfl
@[simp] theorem State.setLatch_clock (b : Bool) (s : State) : (s.setLatch b).clock = s.clock := rfl
@[simp] theorem State.setLatch_tables (b : Bool) (s : State) : (s.setLatch b).tables = s.tables := rfl
@[simp] theorem State.setLatch_cs (b : Bool) (s : State) : (s.setLatch b).cs = s.cs := rfl
@[simp] theorem State.setLatch_mu (b : Bool) (s : State) : (s.setLatch b).mu = s.mu := rfl
@[simp] theorem State.setLatch_ip (b : Bool) (s : State) : (s.setLatch b).ip = s.ip := rfl
@[simp] theorem State.setLatch_sd (b : Bool) (s : State) : (s.setLatch b).sd = s.sd := rfl
@[simp] theorem State.setLatch_lt (b : Bool) (s : State) : (s.setLatch b).lt = s.lt := rfl
@[simp] theorem State.setLatch_cp (b : Bool) (s : State) : (s.setLatch b).cp = s.cp := rfl
@[simp] theorem State.setLatch_rc (b : Bool) (s : State) : (s.setLatch b).rc = { s.rc with latch := b } := rfl
@[simp] theorem State.setLatch_sm (b : Bool) (s : State) : (s.setLatch b).sm = s.sm := rfl
@[simp] theorem State.setLatch_ts (b : Bool) (s : State) : (s.setLatch b).ts = s.ts := rfl
@[simp] theorem State.setLatch_el (b : Bool) (s : State) : (s.setLatch b).el = s.el := rfl
@[simp] theorem State.setLatch_li (b : Bool) (s : State) : (s.setLatch b).li = s.li := rfl
@[simp] theorem State.setLatch_handed (b : Bool) (s : State) : (s.setLatch b).handed = s.handed := rfl
@[simp] theorem State.setLatch_pending (b : Bool) (s : State) : (s.setLatch b).pending = s.pending := rfl
@[simp] theorem State.setLatch_running (b : Bool) (s : State) : (s.setLatch b).running = s.running := rfl
@[simp] theorem State.setLatch_stationS (b : Bool) (s : State) : (s.setLatch b).stationS = s.stationS := rfl

/-! ### State.setSlot -/

@[simp] theorem State.setSlot_powered (k : SlotNo) (x : SlotState) (s : State) : (s.setSlot k x).powered = s.powered := rfl
@[simp] theorem State.setSlot_rstin (k : SlotNo) (x : SlotState) (s : State) : (s.setSlot k x).rstin = s.rstin := rfl
@[simp] theorem State.setSlot_clock (k : SlotNo) (x : SlotState) (s : State) : (s.setSlot k x).clock = s.clock := rfl
@[simp] theorem State.setSlot_tables (k : SlotNo) (x : SlotState) (s : State) : (s.setSlot k x).tables = s.tables := rfl
@[simp] theorem State.setSlot_cs (k : SlotNo) (x : SlotState) (s : State) : (s.setSlot k x).cs = s.cs := rfl
@[simp] theorem State.setSlot_mu (k : SlotNo) (x : SlotState) (s : State) : (s.setSlot k x).mu = s.mu := rfl
@[simp] theorem State.setSlot_ip (k : SlotNo) (x : SlotState) (s : State) : (s.setSlot k x).ip = { s.ip with slots := s.ip.slots.set k x } := rfl
@[simp] theorem State.setSlot_sd (k : SlotNo) (x : SlotState) (s : State) : (s.setSlot k x).sd = s.sd := rfl
@[simp] theorem State.setSlot_lt (k : SlotNo) (x : SlotState) (s : State) : (s.setSlot k x).lt = s.lt := rfl
@[simp] theorem State.setSlot_cp (k : SlotNo) (x : SlotState) (s : State) : (s.setSlot k x).cp = s.cp := rfl
@[simp] theorem State.setSlot_rc (k : SlotNo) (x : SlotState) (s : State) : (s.setSlot k x).rc = s.rc := rfl
@[simp] theorem State.setSlot_sm (k : SlotNo) (x : SlotState) (s : State) : (s.setSlot k x).sm = s.sm := rfl
@[simp] theorem State.setSlot_ts (k : SlotNo) (x : SlotState) (s : State) : (s.setSlot k x).ts = s.ts := rfl
@[simp] theorem State.setSlot_el (k : SlotNo) (x : SlotState) (s : State) : (s.setSlot k x).el = s.el := rfl
@[simp] theorem State.setSlot_li (k : SlotNo) (x : SlotState) (s : State) : (s.setSlot k x).li = s.li := rfl
@[simp] theorem State.setSlot_handed (k : SlotNo) (x : SlotState) (s : State) : (s.setSlot k x).handed = s.handed := rfl
@[simp] theorem State.setSlot_pending (k : SlotNo) (x : SlotState) (s : State) : (s.setSlot k x).pending = s.pending := rfl
@[simp] theorem State.setSlot_running (k : SlotNo) (x : SlotState) (s : State) : (s.setSlot k x).running = s.running := rfl
@[simp] theorem State.setSlot_stationS (k : SlotNo) (x : SlotState) (s : State) : (s.setSlot k x).stationS = s.stationS := rfl

/-! ### State.setTables -/

@[simp] theorem State.setTables_powered (t : Tables) (s : State) : (s.setTables t).powered = s.powered := rfl
@[simp] theorem State.setTables_rstin (t : Tables) (s : State) : (s.setTables t).rstin = s.rstin := rfl
@[simp] theorem State.setTables_clock (t : Tables) (s : State) : (s.setTables t).clock = s.clock := rfl
@[simp] theorem State.setTables_tables (t : Tables) (s : State) : (s.setTables t).tables = t := rfl
@[simp] theorem State.setTables_cs (t : Tables) (s : State) : (s.setTables t).cs = s.cs := rfl
@[simp] theorem State.setTables_mu (t : Tables) (s : State) : (s.setTables t).mu = s.mu := rfl
@[simp] theorem State.setTables_ip (t : Tables) (s : State) : (s.setTables t).ip = s.ip := rfl
@[simp] theorem State.setTables_sd (t : Tables) (s : State) : (s.setTables t).sd = s.sd := rfl
@[simp] theorem State.setTables_lt (t : Tables) (s : State) : (s.setTables t).lt = s.lt := rfl
@[simp] theorem State.setTables_cp (t : Tables) (s : State) : (s.setTables t).cp = s.cp := rfl
@[simp] theorem State.setTables_rc (t : Tables) (s : State) : (s.setTables t).rc = s.rc := rfl
@[simp] theorem State.setTables_sm (t : Tables) (s : State) : (s.setTables t).sm = s.sm := rfl
@[simp] theorem State.setTables_ts (t : Tables) (s : State) : (s.setTables t).ts = s.ts := rfl
@[simp] theorem State.setTables_el (t : Tables) (s : State) : (s.setTables t).el = s.el := rfl
@[simp] theorem State.setTables_li (t : Tables) (s : State) : (s.setTables t).li = s.li := rfl
@[simp] theorem State.setTables_handed (t : Tables) (s : State) : (s.setTables t).handed = s.handed := rfl
@[simp] theorem State.setTables_pending (t : Tables) (s : State) : (s.setTables t).pending = s.pending := rfl
@[simp] theorem State.setTables_running (t : Tables) (s : State) : (s.setTables t).running = s.running := rfl
@[simp] theorem State.setTables_stationS (t : Tables) (s : State) : (s.setTables t).stationS = s.stationS := rfl

/-! ### State.setMode -/

@[simp] theorem State.setMode_powered (m : StationMode) (s : State) : (s.setMode m).powered = s.powered := rfl
@[simp] theorem State.setMode_rstin (m : StationMode) (s : State) : (s.setMode m).rstin = s.rstin := rfl
@[simp] theorem State.setMode_clock (m : StationMode) (s : State) : (s.setMode m).clock = s.clock := rfl
@[simp] theorem State.setMode_tables (m : StationMode) (s : State) : (s.setMode m).tables = s.tables := rfl
@[simp] theorem State.setMode_cs (m : StationMode) (s : State) : (s.setMode m).cs = s.cs := rfl
@[simp] theorem State.setMode_mu (m : StationMode) (s : State) : (s.setMode m).mu = s.mu := rfl
@[simp] theorem State.setMode_ip (m : StationMode) (s : State) : (s.setMode m).ip = s.ip := rfl
@[simp] theorem State.setMode_sd (m : StationMode) (s : State) : (s.setMode m).sd = s.sd := rfl
@[simp] theorem State.setMode_lt (m : StationMode) (s : State) : (s.setMode m).lt = s.lt := rfl
@[simp] theorem State.setMode_cp (m : StationMode) (s : State) : (s.setMode m).cp = s.cp := rfl
@[simp] theorem State.setMode_rc (m : StationMode) (s : State) : (s.setMode m).rc = s.rc := rfl
@[simp] theorem State.setMode_sm (m : StationMode) (s : State) : (s.setMode m).sm = { s.sm with mode := m } := rfl
@[simp] theorem State.setMode_ts (m : StationMode) (s : State) : (s.setMode m).ts = s.ts := rfl
@[simp] theorem State.setMode_el (m : StationMode) (s : State) : (s.setMode m).el = s.el := rfl
@[simp] theorem State.setMode_li (m : StationMode) (s : State) : (s.setMode m).li = s.li := rfl
@[simp] theorem State.setMode_handed (m : StationMode) (s : State) : (s.setMode m).handed = s.handed := rfl
@[simp] theorem State.setMode_pending (m : StationMode) (s : State) : (s.setMode m).pending = s.pending := rfl
@[simp] theorem State.setMode_running (m : StationMode) (s : State) : (s.setMode m).running = s.running := rfl
@[simp] theorem State.setMode_stationS (m : StationMode) (s : State) : (s.setMode m).stationS = s.stationS := rfl

/-! ### State.setPoller -/

@[simp] theorem State.setPoller_powered (p : Poller) (s : State) : (s.setPoller p).powered = s.powered := rfl
@[simp] theorem State.setPoller_rstin (p : Poller) (s : State) : (s.setPoller p).rstin = s.rstin := rfl
@[simp] theorem State.setPoller_clock (p : Poller) (s : State) : (s.setPoller p).clock = s.clock := rfl
@[simp] theorem State.setPoller_tables (p : Poller) (s : State) : (s.setPoller p).tables = s.tables := rfl
@[simp] theorem State.setPoller_cs (p : Poller) (s : State) : (s.setPoller p).cs = s.cs := rfl
@[simp] theorem State.setPoller_mu (p : Poller) (s : State) : (s.setPoller p).mu = s.mu := rfl
@[simp] theorem State.setPoller_ip (p : Poller) (s : State) : (s.setPoller p).ip = p := rfl
@[simp] theorem State.setPoller_sd (p : Poller) (s : State) : (s.setPoller p).sd = s.sd := rfl
@[simp] theorem State.setPoller_lt (p : Poller) (s : State) : (s.setPoller p).lt = s.lt := rfl
@[simp] theorem State.setPoller_cp (p : Poller) (s : State) : (s.setPoller p).cp = s.cp := rfl
@[simp] theorem State.setPoller_rc (p : Poller) (s : State) : (s.setPoller p).rc = s.rc := rfl
@[simp] theorem State.setPoller_sm (p : Poller) (s : State) : (s.setPoller p).sm = s.sm := rfl
@[simp] theorem State.setPoller_ts (p : Poller) (s : State) : (s.setPoller p).ts = s.ts := rfl
@[simp] theorem State.setPoller_el (p : Poller) (s : State) : (s.setPoller p).el = s.el := rfl
@[simp] theorem State.setPoller_li (p : Poller) (s : State) : (s.setPoller p).li = s.li := rfl
@[simp] theorem State.setPoller_handed (p : Poller) (s : State) : (s.setPoller p).handed = s.handed := rfl
@[simp] theorem State.setPoller_pending (p : Poller) (s : State) : (s.setPoller p).pending = s.pending := rfl
@[simp] theorem State.setPoller_running (p : Poller) (s : State) : (s.setPoller p).running = s.running := rfl
@[simp] theorem State.setPoller_stationS (p : Poller) (s : State) : (s.setPoller p).stationS = s.stationS := rfl

/-! ### Items -/

@[simp] theorem PerRoute.get_set {α : Type} (p : PerRoute α) (r : RouteNo) (a : α) : (p.set r a).get r = a := by
  cases r <;> rfl

theorem PerRoute.get_set_ne {α : Type} (p : PerRoute α) {r x : RouteNo} (a : α) (h : x ≠ r) : (p.set r a).get x = p.get x := by
  cases r <;> cases x <;> first | rfl | exact absurd rfl h

@[simp] theorem PerRoute.get_all {α : Type} (a : α) (r : RouteNo) : (PerRoute.all a).get r = a := by cases r <;> rfl

theorem PerRoute.ext_get {α : Type} {p q : PerRoute α} (h : ∀ r, p.get r = q.get r) : p = q := by
  cases p; cases q
  simpa [PerRoute.get, and_assoc] using ⟨h .r1, h .r2, h .r3, h .r4, h .r5, h .r6, h .r7, h .r8⟩

@[simp] theorem PerSlot.get_set {α : Type} (p : PerSlot α) (k : SlotNo) (a : α) : (p.set k a).get k = a := by
  cases k <;> rfl

theorem PerSlot.get_set_ne {α : Type} (p : PerSlot α) {k x : SlotNo} (a : α) (h : x ≠ k) : (p.set k a).get x = p.get x := by
  cases k <;> cases x <;> first | rfl | exact absurd rfl h

@[simp] theorem PerSlot.get_all {α : Type} (a : α) (k : SlotNo) : (PerSlot.all a).get k = a := by cases k <;> rfl

theorem PerSlot.ext_get {α : Type} {p q : PerSlot α} (h : ∀ k, p.get k = q.get k) : p = q := by
  cases p; cases q
  simpa [PerSlot.get] using ⟨h .one, h .two, h .three, h .four⟩

@[simp] theorem PerChannel.get_set {α : Type} (p : PerChannel α) (c : Channel) (a : α) : (p.set c a).get c = a := by
  cases c <;> rfl

theorem PerChannel.get_set_ne {α : Type} (p : PerChannel α) {c x : Channel} (a : α) (h : x ≠ c) : (p.set c a).get x = p.get x := by
  cases c <;> cases x <;> first | rfl | exact absurd rfl h

@[simp] theorem PerChannel.get_all {α : Type} (a : α) (c : Channel) : (PerChannel.all a).get c = a := by cases c <;> rfl

theorem PerChannel.ext_get {α : Type} {p q : PerChannel α} (h : ∀ c, p.get c = q.get c) : p = q := by
  cases p; cases q
  simpa [PerChannel.get] using ⟨h .advance, h .manifold⟩

@[simp] theorem Levels.get_set {α : Type} (p : Levels α) (l : Level) (a : α) : (p.set l a).get l = a := by
  cases l <;> rfl

theorem Levels.get_set_ne {α : Type} (p : Levels α) {l x : Level} (a : α) (h : x ≠ l) : (p.set l a).get x = p.get x := by
  cases l <;> cases x <;> first | rfl | exact absurd rfl h

@[simp] theorem Levels.get_all {α : Type} (a : α) (l : Level) : (Levels.all a).get l = a := by cases l <;> rfl

theorem Levels.ext_get {α : Type} {p q : Levels α} (h : ∀ l, p.get l = q.get l) : p = q := by
  cases p; cases q
  simpa [Levels.get] using ⟨h .h, h .mid, h .t⟩

@[simp] theorem PerRoute.get_build {α : Type} (f : RouteNo → α) (r : RouteNo) : (PerRoute.build f).get r = f r := by
  cases r <;> rfl

end Sys2Proof.Machine
end

