-- ==== Sys2Proof/Laws/Frames.lean ====
section
/-! SUPPORT. Laws/Frames.lean: for each shared operation, which blocks it can change. A blanking puts some blocks to their
reset values; an operation that leaves the blanked state as it was changes nothing but those blocks. -/

namespace Sys2Proof.Machine

/-! ### Blankings -/

/-- The state but for the Route Controller and the hand-offs. -/
def State.noRoutes (s : State) : State := { s with rc := State.reset.rc, handed := [] }
/-- The state but for the Line Tracker, the Ticket Store, the Event Log and the hand-offs. -/
def State.noTrack (s : State) : State :=
  { s with lt := State.reset.lt, ts := [], el := State.reset.el, handed := [] }
/-- The state but for the blocks an action that falls due can change. -/
def State.noPlan (s : State) : State :=
  { s with lt := State.reset.lt, cp := State.reset.cp, rc := State.reset.rc, ts := [], el := State.reset.el, handed := [] }
/-- The state but for the mode, the Route Controller and the hand-offs. -/
def State.noMode (s : State) : State := { s with sm := State.reset.sm, rc := State.reset.rc, handed := [] }
/-- The state but for the channels, the Line Tracker, the Cut Planner and the hand-offs. -/
def State.noChannels (s : State) : State :=
  { s with sd := State.reset.sd, lt := State.reset.lt, cp := State.reset.cp, handed := [] }
/-- The state but for the Instrument Poller and the hand-offs. -/
def State.noPoller (s : State) : State := { s with ip := State.reset.ip, handed := [] }

theorem eq_of_noRoutes {s t : State} (h : t.noRoutes = s.noRoutes) : t = { s with rc := t.rc, handed := t.handed } := by
  cases s; cases t; simp_all [State.noRoutes]
theorem eq_of_noTrack {s t : State} (h : t.noTrack = s.noTrack) :
    t = { s with lt := t.lt, ts := t.ts, el := t.el, handed := t.handed } := by
  cases s; cases t; simp_all [State.noTrack]
theorem eq_of_noPlan {s t : State} (h : t.noPlan = s.noPlan) :
    t = { s with lt := t.lt, cp := t.cp, rc := t.rc, ts := t.ts, el := t.el, handed := t.handed } := by
  cases s; cases t; simp_all [State.noPlan]
theorem eq_of_noMode {s t : State} (h : t.noMode = s.noMode) :
    t = { s with sm := t.sm, rc := t.rc, handed := t.handed } := by
  cases s; cases t; simp_all [State.noMode]
theorem eq_of_noChannels {s t : State} (h : t.noChannels = s.noChannels) :
    t = { s with sd := t.sd, lt := t.lt, cp := t.cp, handed := t.handed } := by
  cases s; cases t; simp_all [State.noChannels]
theorem eq_of_noPoller {s t : State} (h : t.noPoller = s.noPoller) : t = { s with ip := t.ip, handed := t.handed } := by
  cases s; cases t; simp_all [State.noPoller]

theorem noPlan_of_noRoutes {s t : State} (h : t.noRoutes = s.noRoutes) : t.noPlan = s.noPlan := by
  have h' : t.noRoutes.noPlan = s.noRoutes.noPlan := by rw [h]
  exact h'
theorem noMode_of_noRoutes {s t : State} (h : t.noRoutes = s.noRoutes) : t.noMode = s.noMode := by
  have h' : t.noRoutes.noMode = s.noRoutes.noMode := by rw [h]
  exact h'
theorem noPlan_of_noTrack {s t : State} (h : t.noTrack = s.noTrack) : t.noPlan = s.noPlan := by
  have h' : t.noTrack.noPlan = s.noTrack.noPlan := by rw [h]
  exact h'

/-! ### Routes -/

@[simp] theorem modValve_noRoutes (r : RouteNo) (f : Valve → Valve) (s : State) : (modValve r f s).noRoutes = s.noRoutes := rfl
@[simp] theorem enterOpen_noRoutes (d : Nat) (r : RouteNo) (s : State) : (enterOpen d r s).noRoutes = s.noRoutes := rfl
@[simp] theorem enterClosed_noRoutes (d : Nat) (r : RouteNo) (s : State) : (enterClosed d r s).noRoutes = s.noRoutes := rfl
@[simp] theorem enterTravel_noRoutes (v : ValveState) (r : RouteNo) (s : State) :
    (enterTravel v r s).noRoutes = s.noRoutes := rfl
@[simp] theorem post_noRoutes (k : EventKind) (n : Nat) (d : Int) (s : State) : (s.post k n d).noRoutes = s.noRoutes := rfl
@[simp] theorem hand_noRoutes (i : Instr) (s : State) : (s.hand i).noRoutes = s.noRoutes := rfl
@[simp] theorem setSwitch_noRoutes (w : Option Switch) (s : State) : (s.setSwitch w).noRoutes = s.noRoutes := rfl
@[simp] theorem setLatch_noRoutes (b : Bool) (s : State) : (s.setLatch b).noRoutes = s.noRoutes := rfl
@[simp] theorem setValve_noRoutes (r : RouteNo) (v : Option Valve) (s : State) : (s.setValve r v).noRoutes = s.noRoutes := rfl

@[simp] theorem commandOpen_noRoutes (r : RouteNo) (s : State) : (commandOpen r s).noRoutes = s.noRoutes := by
  unfold commandOpen; split <;> [split; skip] <;> simp
@[simp] theorem commandClose_noRoutes (r : RouteNo) (s : State) : (commandClose r s).noRoutes = s.noRoutes := by
  unfold commandClose; split <;> [split; skip] <;> simp
@[simp] theorem faultRoute_noRoutes (k : EventKind) (d : Option Int) (r : RouteNo) (s : State) :
    (faultRoute k d r s).noRoutes = s.noRoutes := by
  unfold faultRoute; dsimp only; split <;> simp
@[simp] theorem positionFromLimits_noRoutes (r : RouteNo) (s : State) : (positionFromLimits r s).noRoutes = s.noRoutes := by
  unfold positionFromLimits; split <;> simp

theorem foldl_noRoutes (f : State → RouteNo → State) (h : ∀ s r, (f s r).noRoutes = s.noRoutes) (l : List RouteNo)
    (s : State) : (l.foldl f s).noRoutes = s.noRoutes := by
  induction l generalizing s with
  | nil => rfl
  | cons r l ih => simp [ih, h]

@[simp] theorem beginSwitch_noRoutes (rs : List RouteNo) (o : Nat) (s : State) :
    (beginSwitch rs o s).noRoutes = s.noRoutes := by
  simp [beginSwitch, foldl_noRoutes _ fun s r => commandOpen_noRoutes r s]
@[simp] theorem endSwitch_noRoutes (k : EventKind) (o : Nat) (d : Int) (s : State) :
    (endSwitch k o d s).noRoutes = s.noRoutes := rfl
@[simp] theorem beginPhase2_noRoutes (w : Switch) (s : State) : (beginPhase2 w s).noRoutes = s.noRoutes := by
  simp [beginPhase2, foldl_noRoutes _ fun s r => commandClose_noRoutes r s]
@[simp] theorem advancePhase_noRoutes (s : State) : (advancePhase s).noRoutes = s.noRoutes := by
  unfold advancePhase; split
  · rfl
  · dsimp only; split
    · split
      · simp
      · split <;> simp
    · simp
@[simp] theorem settleSwitch_noRoutes (s : State) : (settleSwitch s).noRoutes = s.noRoutes := by simp [settleSwitch]

/-- A comparison changes nothing but the Route Controller and the hand-offs. -/
@[simp] theorem compare_noRoutes (s : State) : (compare s).noRoutes = s.noRoutes := by
  unfold compare; split
  · rfl
  · split
    · rfl
    · split
      · split <;> simp
      · simp
@[simp] theorem afterMove_noRoutes (s : State) : (afterMove s).noRoutes = s.noRoutes := by simp [afterMove]
@[simp] theorem safeFailed_noRoutes (r : RouteNo) (s : State) : (safeFailed r s).noRoutes = s.noRoutes := rfl
@[simp] theorem afterFault_noRoutes (r : RouteNo) (b : Bool) (s : State) : (afterFault r b s).noRoutes = s.noRoutes := by
  unfold afterFault; split
  · dsimp only; split
    · simp
    · split <;> simp
    · simp
    · simp
    · simp
  · split
    · simp
    · split <;> simp
@[simp] theorem takeLimits_noRoutes (r : RouteNo) (o n : Limits) (s : State) : (takeLimits r o n s).noRoutes = s.noRoutes := by
  unfold takeLimits; split <;> (try split) <;> (try split) <;> (try split) <;> simp
@[simp] theorem clearLockout_noRoutes (r : RouteNo) (s : State) : (clearLockout r s).noRoutes = s.noRoutes := by
  unfold clearLockout; dsimp only; split <;> simp
@[simp] theorem afterRouteEntry_noRoutes (r : RouteNo) (b : Bool) (s : State) :
    (afterRouteEntry r b s).noRoutes = s.noRoutes := by
  unfold afterRouteEntry; split <;> simp
@[simp] theorem valveCommand_noRoutes (r : RouteNo) (b : Bool) (s : State) : (valveCommand r b s).noRoutes = s.noRoutes := by
  unfold valveCommand; split <;> simp

/-! ### Train, tickets and the log -/

@[simp] theorem post_noTrack (k : EventKind) (n : Nat) (d : Int) (s : State) : (s.post k n d).noTrack = s.noTrack := rfl
@[simp] theorem hand_noTrack (i : Instr) (s : State) : (s.hand i).noTrack = s.noTrack := rfl
@[simp] theorem setTrain_noTrack (t : List Entry) (s : State) : (s.setTrain t).noTrack = s.noTrack := rfl
@[simp] theorem setWindow_noTrack (w : Option WindowRecord) (s : State) : (s.setWindow w).noTrack = s.noTrack := rfl
@[simp] theorem setConfirm_noTrack (c : Option ConfirmRecord) (s : State) : (s.setConfirm c).noTrack = s.noTrack := rfl
@[simp] theorem emptyWindow_noTrack (s : State) : (emptyWindow s).noTrack = s.noTrack := rfl
@[simp] theorem judgeAttn_noTrack (s : State) : (judgeAttn s).noTrack = s.noTrack := rfl
@[simp] theorem judgeIfChanged_noTrack (b : Bool) (s : State) : (judgeIfChanged b s).noTrack = s.noTrack := by
  unfold judgeIfChanged; split <;> simp
@[simp] theorem storeEvent_noTrack (k : EventKind) (n : Nat) (d : Int) (s : State) :
    (storeEvent k n d s).noTrack = s.noTrack := by
  unfold storeEvent; split
  · rw [judgeAttn_noTrack]; rfl
  · rfl
@[simp] theorem issueTicket_noTrack (e : Entry) (s : State) : (issueTicket e s).noTrack = s.noTrack := by
  unfold issueTicket; simp; rfl
@[simp] theorem releaseFront_noTrack (s : State) : (releaseFront s).noTrack = s.noTrack := by
  unfold releaseFront; split <;> [split; skip] <;> simp
@[simp] theorem acknowledge_noTrack (id : Nat) (s : State) : (acknowledge id s).noTrack = s.noTrack := by
  unfold acknowledge; simp; rfl
@[simp] theorem completeBatch_noTrack (m b : Entry) (s : State) : (completeBatch m b s).noTrack = s.noTrack := by
  unfold completeBatch; dsimp only; split
  · split <;> simp
  · simp
theorem completeOnce_noTrack {s t : State} (h : completeOnce s = some t) : t.noTrack = s.noTrack := by
  unfold completeOnce at h
  split at h
  · cases h
  · split at h
    · cases h
    · split at h
      · cases h; simp
      · cases h
@[simp] theorem completionLoop_noTrack (n : Nat) (s : State) : (completionLoop n s).noTrack = s.noTrack := by
  induction n generalizing s with
  | zero => rfl
  | succ n ih =>
    unfold completionLoop; split
    · rename_i h; rw [ih, completeOnce_noTrack h]
    · rfl

/-- A completion check changes nothing but the Line Tracker, the Ticket Store, the Event Log and the hand-offs. -/
@[simp] theorem completionCheck_noTrack (s : State) : (completionCheck s).noTrack = s.noTrack := by
  simp [completionCheck]

/-! ### Windows -/

@[simp] theorem supplyDefault_noTrack (e : Entry) (d : Int) (s : State) : (supplyDefault e d s).noTrack = s.noTrack := by
  unfold supplyDefault; split <;> simp
@[simp] theorem takeSnapshot_noTrack (a e : Entry) (sn : Snapshot) (s : State) :
    (takeSnapshot a e sn s).noTrack = s.noTrack := by simp [takeSnapshot]
@[simp] theorem releaseFrom_noTrack (id : Nat) (c : Channel) (s : State) : (releaseFrom id c s).noTrack = s.noTrack := by
  unfold releaseFrom; split <;> simp
@[simp] theorem handPoints_noTrack (id : Nat) (s : State) : (handPoints id s).noTrack = s.noTrack := by
  unfold handPoints; split <;> [skip; split] <;> simp
@[simp] theorem placeVolumetric_noTrack (id : Nat) (k : EventKind) (d : Int) (s : State) :
    (placeVolumetric id k d s).noTrack = s.noTrack := by simp [placeVolumetric]
@[simp] theorem openWindow_noTrack (e : Entry) (c : Channel) (sn : Snapshot) (x : Int) (s : State) :
    (openWindow e c sn x s).noTrack = s.noTrack := by simp [openWindow]
@[simp] theorem considerCandidate_noTrack (a e : Entry) (i : Interface) (s : State) :
    (considerCandidate a e i s).1.noTrack = s.noTrack := by
  unfold considerCandidate; dsimp only; split
  · rfl
  · split
    · simp
    · split
      · simp
      · split <;> simp
@[simp] theorem considerLoop_noTrack (n : Nat) (s : State) : (considerLoop n s).noTrack = s.noTrack := by
  induction n generalizing s with
  | zero => rfl
  | succ n ih =>
    unfold considerLoop; split
    · rfl
    · split
      · rfl
      · dsimp only; split <;> simp [ih]
@[simp] theorem considerWindow_noTrack (s : State) : (considerWindow s).noTrack = s.noTrack := by simp [considerWindow]
@[simp] theorem noConfirm_noTrack (id : Nat) (d : Int) (s : State) : (noConfirm id d s).noTrack = s.noTrack := by
  simp [noConfirm]
@[simp] theorem openConfirm_noTrack (id : Nat) (l u : Int) (sn : Snapshot) (s : State) :
    (openConfirm id l u sn s).noTrack = s.noTrack := by
  unfold openConfirm; dsimp only; split <;> simp
@[simp] theorem confirmLoop_noTrack (n : Nat) (s : State) : (confirmLoop n s).noTrack = s.noTrack := by
  induction n generalizing s with
  | zero => rfl
  | succ n ih =>
    unfold confirmLoop; split
    · rfl
    · split
      · rfl
      · dsimp only; split
        · rfl
        · split
          · simp [ih]
          · split <;> simp
@[simp] theorem considerConfirm_noTrack (s : State) : (considerConfirm s).noTrack = s.noTrack := by
  simp [considerConfirm]
@[simp] theorem endConfirm_noTrack (id : Nat) (d : Int) (s : State) : (endConfirm id d s).noTrack = s.noTrack := by
  simp [endConfirm]
@[simp] theorem confirmGivenUp_noTrack (id : Nat) (s : State) : (confirmGivenUp id s).noTrack = s.noTrack := by
  unfold confirmGivenUp; split <;> [split; skip] <;> simp
@[simp] theorem closeVolumetric_noTrack (id : Nat) (k : EventKind) (d : Int) (s : State) :
    (closeVolumetric id k d s).noTrack = s.noTrack := by simp [closeVolumetric]
@[simp] theorem windowExpiry_noTrack (s : State) : (windowExpiry s).noTrack = s.noTrack := by
  unfold windowExpiry; split <;> [skip; split] <;> [skip; split; skip] <;> simp
@[simp] theorem confirmExpiry_noTrack (s : State) : (confirmExpiry s).noTrack = s.noTrack := by
  unfold confirmExpiry; split <;> [skip; split] <;> [skip; split; skip] <;> simp

/-- The Line Tracker's S advance changes nothing but the Line Tracker, the Ticket Store, the Event Log and the
hand-offs. -/
@[simp] theorem ltAdvance_noTrack (n : Nat) (s : State) : (ltAdvance n s).noTrack = s.noTrack := by
  simp [ltAdvance]; rfl
@[simp] theorem applyAnchor_noTrack (id : Nat) (src : AnchorSource) (p : Nat) (i : Interface) (s : State) :
    (applyAnchor id src p i s).noTrack = s.noTrack := rfl
@[simp] theorem anchorInterface_noTrack (id : Nat) (v : Int) (src : AnchorSource) (s : State) :
    (anchorInterface id v src s).noTrack = s.noTrack := by
  unfold anchorInterface; split
  · split
    · dsimp only; split <;> simp
    · rfl
  · rfl
@[simp] theorem afterAnchor_noTrack (b s : State) : (afterAnchor b s).noTrack = s.noTrack := by
  unfold afterAnchor; split <;> simp
@[simp] theorem takeAnchor_noTrack (id : Nat) (v : Int) (src : AnchorSource) (s : State) :
    (takeAnchor id v src s).noTrack = s.noTrack := by
  unfold takeAnchor; split <;> [split; skip] <;> simp
@[simp] theorem takeMiss_noTrack (c : Channel) (id : Nat) (s : State) : (takeMiss c id s).noTrack = s.noTrack := by
  unfold takeMiss; split <;> (try split) <;> (try split) <;> (try split) <;> simp
@[simp] theorem windowLost_noTrack (c : Channel) (id : Nat) (s : State) : (windowLost c id s).noTrack = s.noTrack := by
  unfold windowLost; split <;> (try split) <;> (try split) <;> simp
@[simp] theorem confirmLost_noTrack (c : Channel) (id : Nat) (s : State) : (confirmLost c id s).noTrack = s.noTrack := by
  unfold confirmLost; split <;> (try split) <;> (try split) <;> simp
theorem handAgain_noTrack (c : Channel) (id : Nat) (ro : HoldRole) (r s : State) (h : r.noTrack = s.noTrack) :
    (handAgain c id ro r s).noTrack = s.noTrack := by unfold handAgain; split <;> simp [h]
@[simp] theorem windowLeftOff_noTrack (c : Channel) (s : State) : (windowLeftOff c s).noTrack = s.noTrack := by
  unfold windowLeftOff; split <;> [split; skip] <;> first | rfl | exact handAgain_noTrack _ _ _ _ _ rfl
@[simp] theorem confirmLeftOff_noTrack (c : Channel) (s : State) : (confirmLeftOff c s).noTrack = s.noTrack := by
  unfold confirmLeftOff; split <;> [split; skip] <;> first | rfl | exact handAgain_noTrack _ _ _ _ _ rfl
@[simp] theorem takeLowContrast_noTrack (c : Channel) (id : Nat) (ro : HoldRole) (x : Nat) (s : State) :
    (takeLowContrast c id ro x s).noTrack = s.noTrack := by
  unfold takeLowContrast; split <;> split <;> [split; skip; split; skip] <;> simp [recordLowContrast]
@[simp] theorem judgeDeparture_noTrack (id st p tol : Nat) (s : State) :
    (judgeDeparture id st p tol s).noTrack = s.noTrack := by
  unfold judgeDeparture; dsimp only; split <;> simp
@[simp] theorem takeConfirmDeparture_noTrack (id st : Nat) (s : State) :
    (takeConfirmDeparture id st s).noTrack = s.noTrack := by
  unfold takeConfirmDeparture; split
  · split
    · simp only [considerConfirm_noTrack]; split <;> simp
    · rfl
  · rfl

/-! ### The Cut Planner -/

@[simp] theorem post_noPlan (k : EventKind) (n : Nat) (d : Int) (s : State) : (s.post k n d).noPlan = s.noPlan := rfl
@[simp] theorem hand_noPlan (i : Instr) (s : State) : (s.hand i).noPlan = s.noPlan := rfl
@[simp] theorem setTrain_noPlan (t : List Entry) (s : State) : (s.setTrain t).noPlan = s.noPlan := rfl
@[simp] theorem setPlan_noPlan (p : Option Plan) (s : State) : (s.setPlan p).noPlan = s.noPlan := rfl
@[simp] theorem setActions_noPlan (a : List Action) (s : State) : (s.setActions a).noPlan = s.noPlan := rfl
@[simp] theorem compare_noPlan (s : State) : (compare s).noPlan = s.noPlan := noPlan_of_noRoutes (compare_noRoutes s)
@[simp] theorem completionCheck_noPlan (s : State) : (completionCheck s).noPlan = s.noPlan :=
  noPlan_of_noTrack (completionCheck_noTrack s)
@[simp] theorem applyPlan_noPlan (rs : List RouteNo) (k : PlanKind) (o : Nat) (s : State) :
    (applyPlan rs k o s).noPlan = s.noPlan := by unfold applyPlan; split <;> simp
@[simp] theorem planBody_noPlan (id : Nat) (s : State) : (planBody id s).noPlan = s.noPlan := by simp [planBody]
@[simp] theorem applyAction_noPlan (a : Action) (s : State) : (applyAction a s).noPlan = s.noPlan := by
  unfold applyAction; split
  · dsimp only; split <;> simp
  · rfl
@[simp] theorem releaseProtection_noPlan (a : Action) (s : State) : (releaseProtection a s).noPlan = s.noPlan := by
  unfold releaseProtection; split <;> rfl
@[simp] theorem dueEffect_noPlan (a : Action) (s : State) : (dueEffect a s).noPlan = s.noPlan := by simp [dueEffect]
@[simp] theorem dueAction_noPlan (f : Precedence) (a : Action) (s : State) : (dueAction f a s).noPlan = s.noPlan := by
  unfold dueAction; dsimp only; split
  · simp only [hand_noPlan]; split <;> simp
  · simp
@[simp] theorem settlePlan_noPlan (f : Precedence) (b s : State) : (settlePlan f b s).noPlan = s.noPlan := by
  unfold settlePlan; split <;> [skip; split] <;> simp
@[simp] theorem dueLoop_noPlan (f : Precedence) (n : Nat) (s : State) : (dueLoop f n s).noPlan = s.noPlan := by
  induction n generalizing s with
  | zero => rfl
  | succ n ih =>
    unfold dueLoop; split
    · rfl
    · split <;> simp [ih]

/-- The Cut Planner's S advance changes nothing but the planner, the Line Tracker, the routes, the tickets, the log and the
hand-offs. -/
@[simp] theorem cpAdvance_noPlan (n : Nat) (f : Precedence) (s : State) : (cpAdvance n f s).noPlan = s.noPlan := by
  simp [cpAdvance]; rfl
@[simp] theorem placeAction_noPlan (f : Precedence) (a : Action) (b : Bool) (s : State) :
    (placeAction f a b s).noPlan = s.noPlan := by
  unfold placeAction; split <;> [skip; split] <;> simp
@[simp] theorem checkDisposition_noPlan (id : Nat) (s : State) : (checkDisposition id s).noPlan = s.noPlan := by
  unfold checkDisposition; split
  · rfl
  · split <;> simp
@[simp] theorem takeNumber_noPlan (s : State) : (takeNumber s).noPlan = s.noPlan := rfl
@[simp] theorem setMeasured_noPlan (k : Nat) (s : State) : (setMeasured k s).noPlan = s.noPlan := rfl
@[simp] theorem keepTriggers_noPlan (a : Action) (s : State) : (keepTriggers a s).noPlan = s.noPlan := rfl
@[simp] theorem reportShort_noPlan (k : Nat) (c : Int) (s : State) : (reportShort k c s).noPlan = s.noPlan := rfl
@[simp] theorem reportMerged_noPlan (k : Nat) (c : Int) (s : State) : (reportMerged k c s).noPlan = s.noPlan := rfl
@[simp] theorem removeZoneDivert_noPlan (b : Nat) (s : State) : (removeZoneDivert b s).noPlan = s.noPlan := by
  unfold removeZoneDivert; split <;> simp
@[simp] theorem measureTrailing_noPlan (k b : Nat) (s : State) : (measureTrailing k b s).1.noPlan = s.noPlan := by
  unfold measureTrailing; split
  · rfl
  · dsimp only; split
    · split <;> simp
    · simp
@[simp] theorem measureEnter_noPlan (k : Nat) (a : Action) (s : State) : (measureEnter k a s).1.noPlan = s.noPlan := by
  unfold measureEnter; split
  · rfl
  · dsimp only; split
    · split
      · simp only [reportMerged_noPlan]; split <;> simp
      · simp
    · simp
@[simp] theorem measureAhead_noPlan (a : Action) (s : State) : (measureAhead a s).1.noPlan = s.noPlan := by
  unfold measureAhead; split
  · split <;> simp
  · simp
@[simp] theorem scheduleAction_noPlan (f : Precedence) (a : Action) (b : Bool) (s : State) :
    (scheduleAction f a b s).noPlan = s.noPlan := by
  unfold scheduleAction; dsimp only; split
  · simp
  · split <;> simp
@[simp] theorem scheduleLevel_noPlan (f : Precedence) (id : Nat) (h : HandedAs) (l : Level) (x : Nat) (s : State) :
    (scheduleLevel f id h l x s).noPlan = s.noPlan := by
  unfold scheduleLevel; split
  · rfl
  · split
    · rfl
    · split <;> simp
    · simp
@[simp] theorem planning_noPlan (k : State → State) (h : ∀ s, (k s).noPlan = s.noPlan) (s : State) :
    (planning k s).noPlan = s.noPlan := by unfold planning; split <;> simp [h]
@[simp] theorem crossingToPlanner_noPlan (c : Channel) (id : Nat) (l : Level) (x : Nat) (b : Bool) (f : Precedence)
    (s : State) : (crossingToPlanner c id l x b f s).noPlan = s.noPlan := by
  unfold crossingToPlanner; split <;> [skip; split] <;> simp
@[simp] theorem pointsToPlanner_noPlan (id : Nat) (f : Precedence) (ps : List CutPoint) (s : State) :
    (pointsToPlanner id f ps s).noPlan = s.noPlan := by
  induction ps generalizing s with
  | nil => rfl
  | cons p ps ih => simp [pointsToPlanner, ih]
@[simp] theorem advanceFirst_noPlan (id : Nat) (f : Precedence) (s : State) : (advanceFirst id f s).noPlan = s.noPlan := by
  unfold advanceFirst; split <;> [skip; split] <;> simp
@[simp] theorem markProtected_noPlan (c : Channel) (a : Action) (g : Bool) (s : State) :
    (markProtected c a g s).noPlan = s.noPlan := rfl
@[simp] theorem excursionStart_noPlan (c : Channel) (x : Nat) (g : Bool) (f : Precedence) (s : State) :
    (excursionStart c x g f s).noPlan = s.noPlan := by
  unfold excursionStart; split
  · dsimp only; split <;> simp
  · rfl
@[simp] theorem excursionEnd_noPlan (c : Channel) (x : Nat) (f : Precedence) (s : State) :
    (excursionEnd c x f s).noPlan = s.noPlan := by
  unfold excursionEnd; split
  · dsimp only; split
    · rw [settlePlan_noPlan]; exact placeAction_noPlan _ _ _ _
    · simp; rfl
  · rfl
@[simp] theorem stripCheck_noPlan (s : State) : (stripCheck s).noPlan = s.noPlan := by
  unfold stripCheck; split
  · rfl
  · split
    · rfl
    · dsimp only; split <;> simp

/-! ### Modes -/

@[simp] theorem compare_noMode (s : State) : (compare s).noMode = s.noMode := noMode_of_noRoutes (compare_noRoutes s)
@[simp] theorem post_noMode (k : EventKind) (n : Nat) (d : Int) (s : State) : (s.post k n d).noMode = s.noMode := rfl
@[simp] theorem setMode_noMode (m : StationMode) (s : State) : (s.setMode m).noMode = s.noMode := rfl
@[simp] theorem takeMode_noMode (o n : StationMode) (s : State) : (takeMode o n s).noMode = s.noMode := by
  unfold takeMode markAbandon clearLatchFrom; simp only [compare_noMode]; split <;> split <;> rfl

/-- A change of mode changes nothing but the mode, the Route Controller and the hand-offs. -/
@[simp] theorem changeMode_noMode (n : StationMode) (c : ModeCause) (s : State) : (changeMode n c s).noMode = s.noMode := by
  simp [changeMode, recordMode]
@[simp] theorem takeSafeDemand_noMode (r : RouteNo) (c : SafeCause) (s : State) :
    (takeSafeDemand r c s).noMode = s.noMode := by
  unfold takeSafeDemand; split <;> simp [recordMode]
@[simp] theorem takeHoldDemand_noMode (s : State) : (takeHoldDemand s).noMode = s.noMode := by
  unfold takeHoldDemand; split <;> simp

/-! ### The Instrument Poller -/

@[simp] theorem hand_noPoller (i : Instr) (s : State) : (s.hand i).noPoller = s.noPoller := rfl
@[simp] theorem post_noPoller (k : EventKind) (n : Nat) (d : Int) (s : State) : (s.post k n d).noPoller = s.noPoller := rfl
@[simp] theorem setPoller_noPoller (p : Poller) (s : State) : (s.setPoller p).noPoller = s.noPoller := rfl
@[simp] theorem setSlot_noPoller (k : SlotNo) (x : SlotState) (s : State) : (s.setSlot k x).noPoller = s.noPoller := rfl
@[simp] theorem beginCycle_noPoller (s : State) : (beginCycle s).noPoller = s.noPoller := rfl
@[simp] theorem setAssembled_noPoller (bs : List Byte) (s : State) : (setAssembled bs s).noPoller = s.noPoller := rfl
@[simp] theorem goOn_noPoller (c : Cycle) (s : State) : (goOn c s).noPoller = s.noPoller := by
  unfold goOn; split <;> [skip; split] <;> simp
@[simp] theorem nextPoll_noPoller (c : Cycle) (s : State) : (nextPoll c s).noPoller = s.noPoller := by
  simp [nextPoll]
@[simp] theorem pollTick_noPoller (s : State) : (pollTick s).noPoller = s.noPoller := by
  unfold pollTick; split <;> [skip; (dsimp only; split)] <;> simp
@[simp] theorem requestSent_noPoller (s : State) : (requestSent s).noPoller = s.noPoller := by
  unfold requestSent; split <;> [split; skip] <;> simp
@[simp] theorem takeFailedPoll_noPoller (k : SlotNo) (r : LastResult) (s : State) :
    (takeFailedPoll k r s).noPoller = s.noPoller := by
  unfold takeFailedPoll; dsimp only; split <;> [split; skip] <;> simp
@[simp] theorem handReading_noPoller (r : SlotRole) (v : Int) (q : ReadingQuality) (t : Nat) (s : State) :
    (handReading r v q t s).noPoller = s.noPoller := by unfold handReading; split <;> simp
@[simp] theorem acceptRunning_noPoller (k : SlotNo) (v : Int) (q : ReadingQuality) (x : SlotState) (s : State) :
    (acceptRunning k v q x s).noPoller = s.noPoller := by simp [acceptRunning]
@[simp] theorem recoverSlot_noPoller (k : SlotNo) (v : Int) (x : SlotState) (s : State) :
    (recoverSlot k v x s).noPoller = s.noPoller := by
  unfold recoverSlot; dsimp only; split <;> simp
@[simp] theorem acceptFailed_noPoller (k : SlotNo) (v : Int) (q : ReadingQuality) (x : SlotState) (s : State) :
    (acceptFailed k v q x s).noPoller = s.noPoller := by
  unfold acceptFailed; split <;> [skip; split] <;> simp
@[simp] theorem takeAccepted_noPoller (k : SlotNo) (v : Int) (q : ReadingQuality) (r : LastResult) (s : State) :
    (takeAccepted k v q r s).noPoller = s.noPoller := by
  unfold takeAccepted; dsimp only; split <;> simp
@[simp] theorem takeOutcome_noPoller (k : SlotNo) (r : LastResult) (v : Int) (s : State) :
    (takeOutcome k r v s).noPoller = s.noPoller := by unfold takeOutcome; split <;> simp

/-- A response changes nothing but the Instrument Poller and the hand-offs. -/
@[simp] theorem judgeFrameOf_noPoller (c : Cycle) (bs : List Byte) (s : State) :
    (judgeFrameOf c bs s).noPoller = s.noPoller := by simp [judgeFrameOf]
@[simp] theorem takeResponse_noPoller (bs : List Byte) (s : State) : (takeResponse bs s).noPoller = s.noPoller := by
  unfold takeResponse; split <;> [(split <;> [(dsimp only; split); skip]); skip] <;> simp
@[simp] theorem takeTimeout_noPoller (s : State) : (takeTimeout s).noPoller = s.noPoller := by
  unfold takeTimeout; split <;> [split; skip] <;> simp

end Sys2Proof.Machine
end

