-- ==== Sys2Proof/Laws/ChannelFrames.lean ====
section
/-! SUPPORT. Laws/ChannelFrames.lean: what the Signature Detector's operations can change: the channels, the Line Tracker, the
Cut Planner and the hand-offs. -/

namespace Sys2Proof.Machine

/-- The Line Tracker but not the tickets nor the log: a blanking for the confirmation's operations. -/
def State.noLine (s : State) : State := { s with lt := State.reset.lt, handed := [] }

theorem noChannels_of_noLine {s t : State} (h : t.noLine = s.noLine) : t.noChannels = s.noChannels := by
  have h' : t.noLine.noChannels = s.noLine.noChannels := by rw [h]
  exact h'

@[simp] theorem post_noLine (k : EventKind) (n : Nat) (d : Int) (s : State) : (s.post k n d).noLine = s.noLine := rfl
@[simp] theorem hand_noLine (i : Instr) (s : State) : (s.hand i).noLine = s.noLine := rfl
@[simp] theorem setTrain_noLine (t : List Entry) (s : State) : (s.setTrain t).noLine = s.noLine := rfl
@[simp] theorem setConfirm_noLine (c : Option ConfirmRecord) (s : State) : (s.setConfirm c).noLine = s.noLine := rfl
@[simp] theorem noConfirm_noLine (id : Nat) (d : Int) (s : State) : (noConfirm id d s).noLine = s.noLine := rfl
@[simp] theorem openConfirm_noLine (id : Nat) (l u : Int) (sn : Snapshot) (s : State) :
    (openConfirm id l u sn s).noLine = s.noLine := by unfold openConfirm; dsimp only; split <;> simp
@[simp] theorem confirmLoop_noLine (n : Nat) (s : State) : (confirmLoop n s).noLine = s.noLine := by
  induction n generalizing s with
  | zero => rfl
  | succ n ih =>
    unfold confirmLoop; split
    · rfl
    · split
      · rfl
      · dsimp only; split
        · rfl
        · split
          · simp [ih]
          · split <;> simp
@[simp] theorem considerConfirm_noLine (s : State) : (considerConfirm s).noLine = s.noLine := by simp [considerConfirm]
@[simp] theorem endConfirm_noLine (id : Nat) (d : Int) (s : State) : (endConfirm id d s).noLine = s.noLine := by
  simp [endConfirm]
@[simp] theorem confirmGivenUp_noLine (id : Nat) (s : State) : (confirmGivenUp id s).noLine = s.noLine := by
  unfold confirmGivenUp; split <;> [split; skip] <;> simp

@[simp] theorem confirmGivenUp_noChannels (id : Nat) (s : State) : (confirmGivenUp id s).noChannels = s.noChannels :=
  noChannels_of_noLine (confirmGivenUp_noLine id s)
@[simp] theorem post_noChannels (k : EventKind) (n : Nat) (d : Int) (s : State) :
    (s.post k n d).noChannels = s.noChannels := rfl
@[simp] theorem hand_noChannels (i : Instr) (s : State) : (s.hand i).noChannels = s.noChannels := rfl
@[simp] theorem setTrain_noChannels (t : List Entry) (s : State) : (s.setTrain t).noChannels = s.noChannels := rfl
@[simp] theorem setChannel_noChannels (c : Channel) (x : ChannelState) (s : State) :
    (s.setChannel c x).noChannels = s.noChannels := rfl
@[simp] theorem modChannel_noChannels (c : Channel) (f : ChannelState → ChannelState) (s : State) :
    (modChannel c f s).noChannels = s.noChannels := rfl
@[simp] theorem takeInterface_noChannels (c : Channel) (ho : HandOff) (s : State) :
    (takeInterface c ho s).noChannels = s.noChannels := by
  unfold takeInterface; dsimp only; split
  · simp
  · split <;> [skip; split] <;> simp
@[simp] theorem toClean_noChannels (c : Channel) (x : ChannelState) (s : State) :
    (toClean c x s).noChannels = s.noChannels := by
  unfold toClean; dsimp only; split <;> simp

theorem foldl_noChannels (f : State → Level → State) (h : ∀ s l, (f s l).noChannels = s.noChannels) (ls : List Level)
    (s : State) : (ls.foldl f s).noChannels = s.noChannels := by
  induction ls generalizing s with
  | nil => rfl
  | cons l ls ih => simp [ih, h]

@[simp] theorem handToTracker_noChannels (c : Channel) (id x : Nat) (ls : List Level) (s : State) :
    (handToTracker c id x ls s).noChannels = s.noChannels := by
  unfold handToTracker; exact foldl_noChannels _ (fun s l => hand_noChannels _ s) _ _
@[simp] theorem handToPlanner_noChannels (c : Channel) (id x : Nat) (b : Bool) (ls : List Level) (s : State) :
    (handToPlanner c id x b ls s).noChannels = s.noChannels := by
  unfold handToPlanner; exact foldl_noChannels _ (fun s l => hand_noChannels _ s) _ _
@[simp] theorem examineLevels_noChannels (c : Channel) (f t : Nat) (b : Bool) (s : State) :
    (examineLevels c f t b s).noChannels = s.noChannels := by
  unfold examineLevels; dsimp only; split
  · rfl
  · split <;> [split; skip] <;> simp
@[simp] theorem discardCrossings_noChannels (c : Channel) (s : State) :
    (discardCrossings c s).noChannels = s.noChannels := by
  unfold discardCrossings; dsimp only; split <;> rfl
@[simp] theorem supplyPoints_noChannels (id p : Nat) (o : Levels (Option Nat)) (s : State) :
    (supplyPoints id p o s).noChannels = s.noChannels := by
  unfold supplyPoints supplyWith; split <;> [skip; split] <;> [skip; skip; (dsimp only; split)] <;> simp
@[simp] theorem supplyMidzone_noChannels (c : Channel) (s : State) : (supplyMidzone c s).noChannels = s.noChannels := by
  unfold supplyMidzone; dsimp only; split
  · rfl
  · split <;> [split; skip] <;> simp
@[simp] theorem confirmDeparture_noChannels (c : Channel) (s : State) :
    (confirmDeparture c s).noChannels = s.noChannels := by
  unfold confirmDeparture; dsimp only; split
  · split
    · rw [foldl_noChannels]
      · simp
      · intro s l; split <;> simp
    · simp
  · simp
@[simp] theorem falseDeparture_noChannels (c : Channel) (t : Nat) (s : State) :
    (falseDeparture c t s).noChannels = s.noChannels := by
  unfold falseDeparture; dsimp only; split <;> [skip; split] <;> simp
@[simp] theorem declareLong_noChannels (c : Channel) (n : Nat) (s : State) :
    (declareLong c n s).noChannels = s.noChannels := by simp [declareLong]
@[simp] theorem settle_noChannels (c : Channel) (s : State) : (settle c s).noChannels = s.noChannels := by simp [settle]
@[simp] theorem enterExcursion_noChannels (c : Channel) (s : State) : (enterExcursion c s).noChannels = s.noChannels := by
  unfold enterExcursion; dsimp only; split <;> [skip; split] <;> simp
@[simp] theorem endExcursion_noChannels (c : Channel) (n : Nat) (s : State) :
    (endExcursion c n s).noChannels = s.noChannels := by
  unfold endExcursion; dsimp only; split <;> simp
@[simp] theorem readAcquire_noChannels (c : Channel) (v : Int) (q : ReadingQuality) (s : State) :
    (readAcquire c v q s).noChannels = s.noChannels := by
  unfold readAcquire; dsimp only; split <;> [skip; split] <;> simp
@[simp] theorem readClean_noChannels (c : Channel) (v : Int) (q : ReadingQuality) (t : Nat) (s : State) :
    (readClean c v q t s).noChannels = s.noChannels := by
  unfold readClean; dsimp only; split
  · simp
  · simp
  · split <;> simp
@[simp] theorem readFollowing_noChannels (c : Channel) (v : Int) (q : ReadingQuality) (t : Nat) (s : State) :
    (readFollowing c v q t s).noChannels = s.noChannels := by
  unfold readFollowing; dsimp only; split
  · split
    · unfold readWatch; split <;> simp
    · unfold readLocked; split <;> simp
    · unfold readDeparting; dsimp only; split <;> [skip; split] <;> simp
    · unfold readMixed; dsimp only; split <;> [skip; split] <;> simp
    · unfold readSettling; dsimp only; repeat' split
      all_goals simp
    · rfl
  · rfl
@[simp] theorem readOff_noChannels (c : Channel) (v : Int) (q : ReadingQuality) (s : State) :
    (readOff c v q s).noChannels = s.noChannels := by unfold readOff; split <;> simp
@[simp] theorem readExcursion_noChannels (c : Channel) (v : Int) (t : Nat) (s : State) :
    (readExcursion c v t s).noChannels = s.noChannels := by
  unfold readExcursion; dsimp only; repeat' split
  all_goals simp
@[simp] theorem noteS_noChannels (c : Channel) (n : Nat) (s : State) : (noteS c n s).noChannels = s.noChannels := rfl

/-- A reading changes nothing but the channels, the Line Tracker, the Cut Planner and the hand-offs. -/
@[simp] theorem takeReading_noChannels (c : Channel) (v : Int) (q : ReadingQuality) (t : Nat) (s : State) :
    (takeReading c v q t s).noChannels = s.noChannels := by
  unfold takeReading; dsimp only; split <;> simp
@[simp] theorem channelAdvance_noChannels (c : Channel) (n : Nat) (s : State) :
    (channelAdvance c n s).noChannels = s.noChannels := by
  unfold channelAdvance; dsimp only
  split <;> (try split) <;> (try split) <;> simp
@[simp] theorem orphanProtection_noChannels (c : Channel) (s : State) :
    (orphanProtection c s).noChannels = s.noChannels := by unfold orphanProtection; split <;> rfl
@[simp] theorem reportLost_noChannels (c : Channel) (h : Option HandOff) (s : State) :
    (reportLost c h s).noChannels = s.noChannels := by unfold reportLost; split <;> simp
@[simp] theorem dropDeparting_noChannels (c : Channel) (s : State) : (dropDeparting c s).noChannels = s.noChannels := by
  unfold dropDeparting; split <;> simp
@[simp] theorem slotLost_noChannels (c : Channel) (s : State) : (slotLost c s).noChannels = s.noChannels := by
  unfold slotLost; dsimp only; split
  · rfl
  · simp only [reportLost_noChannels, setChannel_noChannels]; split <;> simp
@[simp] theorem slotRecovered_noChannels (c : Channel) (s : State) : (slotRecovered c s).noChannels = s.noChannels := by
  unfold slotRecovered; split <;> simp
@[simp] theorem giveUp_noChannels (h : Option HandOff) (s : State) : (giveUp h s).noChannels = s.noChannels := by
  unfold giveUp; split <;> [split; skip] <;> simp
@[simp] theorem holdWaiting_noChannels (c : Channel) (h : HandOff) (s : State) :
    (holdWaiting c h s).noChannels = s.noChannels := by
  unfold holdWaiting; dsimp only; split <;> [skip; split] <;> simp
@[simp] theorem replaceActive_noChannels (c : Channel) (h : HandOff) (s : State) :
    (replaceActive c h s).noChannels = s.noChannels := by
  unfold replaceActive; dsimp only; split
  · simp
  · simp only [takeInterface_noChannels]; split <;> simp
@[simp] theorem takeHandOff_noChannels (c : Channel) (h : HandOff) (s : State) :
    (takeHandOff c h s).noChannels = s.noChannels := by
  unfold takeHandOff; split <;> simp [giveUpJudged]
@[simp] theorem windowExpired_noChannels (c : Channel) (id : Nat) (s : State) :
    (windowExpired c id s).noChannels = s.noChannels := by
  unfold windowExpired; dsimp only; split <;> [skip; split] <;> [skip; split; skip] <;> simp
@[simp] theorem leaveZone_noChannels (c : Channel) (s : State) : (leaveZone c s).noChannels = s.noChannels := by
  simp [leaveZone]
@[simp] theorem released_noChannels (c : Channel) (id : Nat) (s : State) : (released c id s).noChannels = s.noChannels := by
  unfold released; dsimp only; split <;> [skip; split] <;> [skip; split; skip] <;> simp
@[simp] theorem reportCeased_noChannels (b : Bool) (s : State) : (reportCeased b s).noChannels = s.noChannels := by
  unfold reportCeased; split <;> simp
@[simp] theorem rejectExcursion_noChannels (c : Channel) (s : State) : (rejectExcursion c s).noChannels = s.noChannels := rfl
@[simp] theorem acceptExcursion_noChannels (c : Channel) (h : HandOff) (s : State) :
    (acceptExcursion c h s).noChannels = s.noChannels := by
  unfold acceptExcursion; dsimp only; split
  · split <;> simp
  · simp

end Sys2Proof.Machine
end

