-- ==== Sys2Proof/Laws/HostLine.lean ====
section
/-! SUPPORT. Laws/HostLine.lean: what a whole frame comes to on the host line (R176) and on the instrument link (R52). -/

namespace Sys2Proof.Machine

/-- The assembler of a state replaced twice is the second. -/
@[simp] theorem setAssembler_setAssembler (a b : Assembler) (s : State) :
    setAssembler b (setAssembler a s) = setAssembler b s := rfl

theorem setAssembler_self (s : State) (a : Assembler) (h : s.li.assembler = a) : setAssembler a s = s := by
  subst h; rfl

@[simp] theorem setAssembler_assembler (a : Assembler) (s : State) : (setAssembler a s).li.assembler = a := rfl

/-- A field that lies within the bytes so far is not changed by bytes that follow. -/
theorem field_append (p q : List Byte) (off len : Nat) (h : off + len ≤ p.length) :
    field (p ++ q) off len = field p off len := by
  unfold field fieldBytes
  rw [List.drop_append_of_le_length (by omega), List.take_append_of_le_length (by simp; omega)]

/-- The length field of fewer than three bytes is 0, for there is none. -/
theorem field_short (p : List Byte) (h : p.length < 3) : field p 2 1 = 0 := by
  unfold field fieldBytes
  rw [List.drop_eq_nil_of_le (by omega)]; rfl

/-- Collecting the rest `q` of a frame, of which `p` has been collected, ends in its judgement. -/
theorem collect_rest (q : List Byte) : ∀ (p : List Byte) (s : State), q ≠ [] →
    (p ++ q).length = field (p ++ q) 2 1 + 6 → field (p ++ q) 2 1 ≤ 240 →
    receiveBytes q (setAssembler (.collecting p) s) = judgeFrame (p ++ q) (setAssembler .hunting s) := by
  induction q with
  | nil => intro p s h; exact absurd rfl h
  | cons b q ih =>
    intro p s _ hlen hle
    have happ : p ++ b :: q = (p ++ [b]) ++ q := by simp
    simp only [receiveBytes, List.foldl_cons]
    have h1 : hostByte (setAssembler (.collecting p) s) b
        = collect (p ++ [b]) (setAssembler (.collecting p) s) := rfl
    rw [h1]
    rcases q with _ | ⟨c, q⟩
    · simp only [List.foldl_nil]
      unfold collect
      rw [if_neg (by omega), if_pos hlen, setAssembler_setAssembler]
    · have hs : (p ++ [b]).length < (p ++ b :: c :: q).length := by simp
      have hf : 3 ≤ (p ++ [b]).length → field (p ++ b :: c :: q) 2 1 = field (p ++ [b]) 2 1 := by
        intro h; rw [happ]; exact field_append _ _ _ _ h
      have h2 : collect (p ++ [b]) (setAssembler (.collecting p) s) = setAssembler (.collecting (p ++ [b])) s := by
        unfold collect
        by_cases h3 : 3 ≤ (p ++ [b]).length
        · have := hf h3
          rw [if_neg (by omega), if_neg (by omega), setAssembler_setAssembler]
        · have := field_short (p ++ [b]) (by omega)
          rw [if_neg (by omega), if_neg (by omega), setAssembler_setAssembler]
      rw [h2, happ]
      exact ih (p ++ [b]) s (by simp) (by rw [← happ]; exact hlen) (by rw [← happ]; exact hle)

/-- The shape of a whole frame: the start byte, and the length that the length byte gives. -/
theorem frameShape_length {bs : List Byte} (h : frameShape bs = true) :
    ∃ rest, bs = 0xC3#8 :: rest ∧ rest ≠ [] ∧ bs.length = field bs 2 1 + 6 := by
  match bs, h with
  | start :: a :: len :: cls :: rest, h =>
    simp only [frameShape, Bool.and_eq_true, beq_iff_eq] at h
    refine ⟨a :: len :: cls :: rest, by rw [h.1], by simp, ?_⟩
    have : field (start :: a :: len :: cls :: rest) 2 1 = len.toNat := by simp [field, fieldBytes, numberOf]
    rw [this]; simp [h.2]

/-- R176: a whole frame with a length of at most 240 that finds the assembler hunting is judged. -/
theorem receiveBytes_whole (bs : List Byte) (s : State) (h : frameShape bs = true) (hle : field bs 2 1 ≤ 240)
    (hh : s.li.assembler = .hunting) : receiveBytes bs s = judgeFrame bs s := by
  obtain ⟨rest, rfl, hne, hlen⟩ := frameShape_length h
  have h1 : hostByte s 0xC3#8 = setAssembler (.collecting [0xC3#8]) s := by
    unfold hostByte; rw [hh]; rfl
  show receiveBytes rest (hostByte s 0xC3#8) = _
  rw [h1, collect_rest rest [0xC3#8] s hne (by simpa using hlen) (by simpa using hle)]
  rw [setAssembler_self s .hunting hh]; rfl

/-- R176: while the assembler is closed every byte is discarded. -/
theorem receiveBytes_closed (bs : List Byte) (s : State) (h : s.li.assembler = .closed) : receiveBytes bs s = s := by
  induction bs with
  | nil => rfl
  | cons b bs ih =>
    have : hostByte s b = s := by unfold hostByte; rw [h]
    simp only [receiveBytes, List.foldl_cons, this]; exact ih

/-- R176: while hunting, bytes without a start byte among them are discarded. -/
theorem receiveBytes_hunting (bs : List Byte) (s : State) (h : s.li.assembler = .hunting) (hb : ∀ b ∈ bs, b ≠ 0xC3#8) :
    receiveBytes bs s = s := by
  induction bs with
  | nil => rfl
  | cons b bs ih =>
    have h1 : hostByte s b = s := by unfold hostByte; rw [h]; simp [hb b (by simp)]
    simp only [receiveBytes, List.foldl_cons, h1]; exact ih (fun b hb' => hb b (by simp [hb']))

/-- R52: a whole response of nine bytes, with nothing assembled before it, is what is assembled. -/
theorem assembleResponse_whole {bs : List Byte} (h : responseShape bs = true) :
    assembleResponse [] bs = bs ∧ bs.length = 9 := by
  match bs, h with
  | [a, b, c, d, e, f, g, i, j], h =>
    have : a = 0x5A#8 := by simpa [responseShape] using h
    subst this
    exact ⟨by simp [assembleResponse], rfl⟩

/-- R52: a whole response taken with the wait open and nothing assembled is judged, and the poll ends. -/
theorem takeResponse_whole {bs : List Byte} {c : Cycle} {d : Nat} {s : State} (h : responseShape bs = true)
    (hc : s.ip.cycle = some c) (hp : c.phase = .waiting d) (ha : s.ip.assembled = []) :
    takeResponse bs s = judgeFrameOf c bs s := by
  obtain ⟨h1, h2⟩ := assembleResponse_whole h
  unfold takeResponse
  rw [hc]; dsimp only; rw [hp]; dsimp only
  rw [ha, h1, if_neg (by omega), List.take_of_length_le (by omega)]

end Sys2Proof.Machine
end

