-- ==== Sys2Proof/Laws/PerInstr.lean ====
section
/-! SUPPORT. Laws/PerInstr.lean: what holds of every command as syntax, one lemma for each constructor. -/

namespace Sys2Proof.Laws.ShapeKept

/-- The canonical form of a command is its own canonical form, fits the same fields and stands for the same request. -/
def Statement (i : Instr) : Prop :=
  i.canonical.canonical = i.canonical ∧ i.canonical.wf = i.wf ∧ encodeRequest i.canonical = encodeRequest i

theorem readStatus (part : Nat) : Statement (.readStatus part) := ⟨rfl, rfl, rfl⟩
theorem readMeters : Statement (.readMeters) := ⟨rfl, rfl, rfl⟩
theorem readInstruments : Statement (.readInstruments) := ⟨rfl, rfl, rfl⟩
theorem readRoutes : Statement (.readRoutes) := ⟨rfl, rfl, rfl⟩
theorem readTrain (start : Nat) : Statement (.readTrain start) := ⟨rfl, rfl, rfl⟩
theorem readBatch (id : Nat) : Statement (.readBatch id) := ⟨rfl, rfl, rfl⟩
theorem readEvents (max : Nat) : Statement (.readEvents max) := ⟨rfl, rfl, rfl⟩
theorem readTicket (id : Nat) : Statement (.readTicket id) := ⟨rfl, rfl, rfl⟩
theorem ackTicket (id : Nat) : Statement (.ackTicket id) := ⟨rfl, rfl, rfl⟩
theorem batchLaunch (id product density launched : Nat) : Statement (.batchLaunch id product density launched) := ⟨rfl, rfl, rfl⟩
theorem batchClose (id launched : Nat) : Statement (.batchClose id launched) := ⟨rfl, rfl, rfl⟩
theorem batchAdjust (id : Nat) (change : Int) : Statement (.batchAdjust id change) := ⟨rfl, rfl, rfl⟩
theorem batchPlan (id kind route volume : Nat) : Statement (.batchPlan id kind route volume) := ⟨rfl, rfl, rfl⟩
theorem batchWithdraw (id : Nat) : Statement (.batchWithdraw id) := ⟨rfl, rfl, rfl⟩
theorem interfaceDecide (channel decision : Nat) : Statement (.interfaceDecide channel decision) := ⟨rfl, rfl, rfl⟩
theorem setMode (code : Nat) : Statement (.setMode code) := ⟨rfl, rfl, rfl⟩
theorem valveCommand (route command : Nat) : Statement (.valveCommand route command) := ⟨rfl, rfl, rfl⟩
theorem clearLockout (route : Nat) : Statement (.clearLockout route) := ⟨rfl, rfl, rfl⟩
theorem setTime (seconds : Nat) : Statement (.setTime seconds) := ⟨rfl, rfl, rfl⟩
theorem warmStart : Statement (.warmStart) := ⟨rfl, rfl, rfl⟩
theorem coldStart : Statement (.coldStart) := ⟨rfl, rfl, rfl⟩
theorem requestedStartTaken : Statement (.requestedStartTaken) := ⟨rfl, rfl, rfl⟩
theorem setParameter (number : Nat) (value : Int) : Statement (.setParameter number value) := ⟨rfl, rfl, rfl⟩
theorem setProduct (code op : Nat) (name : List Byte) (alpha rank dmin dmax : Nat) : Statement (.setProduct code op name alpha rank dmin dmax) := ⟨rfl, rfl, rfl⟩
theorem setPair (ahead behind op rule h t baseMix growth maxMix : Nat) : Statement (.setPair ahead behind op rule h t baseMix growth maxMix) := ⟨rfl, rfl, rfl⟩
theorem setRoute (route op kind product travel nominal faultLimit : Nat) : Statement (.setRoute route op kind product travel nominal faultLimit) := ⟨rfl, rfl, rfl⟩
theorem setSlot (slot role address enable range rate status rateLimit failThreshold recoveryCount : Nat) : Statement (.setSlot slot role address enable range rate status rateLimit failThreshold recoveryCount) := ⟨rfl, rfl, rfl⟩
theorem saveConfiguration : Statement (.saveConfiguration) := ⟨rfl, rfl, rfl⟩
theorem readConfiguration (part start : Nat) : Statement (.readConfiguration part start) := ⟨rfl, rfl, rfl⟩
theorem saveWriteVerified : Statement (.saveWriteVerified) := ⟨rfl, rfl, rfl⟩
theorem saveWriteFailed : Statement (.saveWriteFailed) := ⟨rfl, rfl, rfl⟩
theorem hostFrame (bytes : List Byte) : Statement (.hostFrame bytes) := ⟨rfl, rfl, rfl⟩
theorem frameGapTimeout : Statement (.frameGapTimeout) := ⟨rfl, rfl, rfl⟩
theorem replySent : Statement (.replySent) := ⟨rfl, rfl, rfl⟩
theorem meterPulse (m : MeterId) : Statement (.meterPulse m) := ⟨rfl, rfl, rfl⟩
theorem meterPeriodClose : Statement (.meterPeriodClose) := ⟨rfl, rfl, rfl⟩
theorem standstillCountRaise : Statement (.standstillCountRaise) := ⟨rfl, rfl, rfl⟩
theorem ltSAdvance (newS : Nat) : Statement (.ltSAdvance newS) := ⟨rfl, rfl, rfl⟩
theorem cpSAdvance (newS : Nat) (first : Precedence) : Statement (.cpSAdvance newS first) := ⟨rfl, rfl, rfl⟩
theorem periodIncrementBooking (inlet delivery : Nat) : Statement (.periodIncrementBooking inlet delivery) := ⟨rfl, rfl, rfl⟩
theorem bookingStripCheck : Statement (.bookingStripCheck) := ⟨rfl, rfl, rfl⟩
theorem pollTick : Statement (.pollTick) := ⟨rfl, rfl, rfl⟩
theorem pollRequestSent : Statement (.pollRequestSent) := ⟨rfl, rfl, rfl⟩
theorem instrumentResponse (bytes : List Byte) : Statement (.instrumentResponse bytes) := ⟨rfl, rfl, rfl⟩
theorem responseTimeout : Statement (.responseTimeout) := ⟨rfl, rfl, rfl⟩
theorem channelReading (ch : Channel) (value : Int) (quality : ReadingQuality) (tag : Nat) : Statement (.channelReading ch value quality tag) := ⟨rfl, rfl, rfl⟩
theorem channelSAdvance (ch : Channel) (newS : Nat) : Statement (.channelSAdvance ch newS) := ⟨rfl, rfl, rfl⟩
theorem channelSlotLost (ch : Channel) : Statement (.channelSlotLost ch) := ⟨rfl, rfl, rfl⟩
theorem channelSlotRecovered (ch : Channel) : Statement (.channelSlotRecovered ch) := ⟨rfl, rfl, rfl⟩
theorem channelInterfaceHanded (ch : Channel) (ho : HandOff) : Statement (.channelInterfaceHanded ch ho) := ⟨rfl, rfl, rfl⟩
theorem channelWindowExpiry (ch : Channel) (batch : Nat) : Statement (.channelWindowExpiry ch batch) := ⟨rfl, rfl, rfl⟩
theorem channelRelease (ch : Channel) (batch : Nat) : Statement (.channelRelease ch batch) := ⟨rfl, rfl, rfl⟩
theorem anchorHanded (batch : Nat) (value : Nat) (source : AnchorSource) : Statement (.anchorHanded batch value source) := ⟨rfl, rfl, rfl⟩
theorem crossingToLineTracker (ch : Channel) (batch : Nat) (level : Level) (at_ : Nat) : Statement (.crossingToLineTracker ch batch level at_) := ⟨rfl, rfl, rfl⟩
theorem crossingToCutPlanner (ch : Channel) (batch : Nat) (level : Level) (at_ : Nat) (forced : Bool) (first : Precedence) : Statement (.crossingToCutPlanner ch batch level at_ forced first) := ⟨rfl, rfl, rfl⟩
theorem volumetricPointsToCutPlanner (batch : Nat) (points : List CutPoint) (first : Precedence) : Statement (.volumetricPointsToCutPlanner batch points first) := ⟨rfl, rfl, rfl⟩
theorem missReturned (ch : Channel) (batch : Nat) : Statement (.missReturned ch batch) := ⟨rfl, rfl, rfl⟩
theorem channelLostReport (ch : Channel) (batch : Nat) : Statement (.channelLostReport ch batch) := ⟨rfl, rfl, rfl⟩
theorem channelLeftOffReport (ch : Channel) : Statement (.channelLeftOffReport ch) := ⟨rfl, rfl, rfl⟩
theorem lowContrastReport (ch : Channel) (batch : Nat) (role : HoldRole) (contrast : Nat) : Statement (.lowContrastReport ch batch role contrast) := ⟨rfl, rfl, rfl⟩
theorem confirmDepartureHanded (batch : Nat) (start : Nat) : Statement (.confirmDepartureHanded batch start) := ⟨rfl, rfl, rfl⟩
theorem manifoldPrimaryCeased : Statement (.manifoldPrimaryCeased) := ⟨rfl, rfl, rfl⟩
theorem earlyDisagreeAdvance (batch : Nat) (first : Precedence) : Statement (.earlyDisagreeAdvance batch first) := ⟨rfl, rfl, rfl⟩
theorem excursionStartHanded (ch : Channel) (start : Nat) (first : Precedence) : Statement (.excursionStartHanded ch start first) := ⟨rfl, rfl, rfl⟩
theorem excursionEndHanded (ch : Channel) (endS : Nat) (decision : Decision) (first : Precedence) : Statement (.excursionEndHanded ch endS decision first) := ⟨rfl, rfl, rfl⟩
theorem actionLeftList (subject : Nat) : Statement (.actionLeftList subject) := ⟨rfl, rfl, rfl⟩
theorem switchEndHanded : Statement (.switchEndHanded) := ⟨rfl, rfl, rfl⟩
theorem safeDemand (route : RouteNo) (cause : SafeCause) : Statement (.safeDemand route cause) := ⟨rfl, rfl, rfl⟩
theorem holdDemand : Statement (.holdDemand) := ⟨rfl, rfl, rfl⟩
theorem valveLimitChange (route : RouteNo) (opened closed : Bool) : Statement (.valveLimitChange route opened closed) := ⟨rfl, rfl, rfl⟩
theorem valveTravelExpiry (route : RouteNo) : Statement (.valveTravelExpiry route) := ⟨rfl, rfl, rfl⟩
theorem eventPosted (kind : EventKind) (subject : Nat) (detail : Int) : Statement (.eventPosted kind subject detail) := ⟨rfl, rfl, rfl⟩
theorem powerOn (backupLost : Bool) : Statement (.powerOn backupLost) := ⟨rfl, rfl, rfl⟩
theorem powerLoss (midChange : Bool) : Statement (.powerLoss midChange) := ⟨rfl, rfl, rfl⟩
theorem rstinAsserted : Statement (.rstinAsserted) := ⟨rfl, rfl, rfl⟩
theorem rstinReleased : Statement (.rstinReleased) := ⟨rfl, rfl, rfl⟩
theorem startEnd : Statement (.startEnd) := ⟨rfl, rfl, rfl⟩
theorem overlongLengthReceived : Statement (.overlongLengthReceived) := ⟨rfl, rfl, rfl⟩

end Sys2Proof.Laws.ShapeKept
end

