-- ==== Sys2Proof/Tests/Slice0.lean ====
section
/-! SUPPORT. Slice0.lean: the model's own tests: ill-formed terms that WellFormed refuses, payloads written out from the
catalogue (R178), single steps with results from the spec's worked values, and for each statement with hypotheses a
state and operands that meet them all (`witness_…`). -/

namespace Sys2Proof.Tests

open Sys2Proof Sys2Proof.Machine

/-! ### Small states -/

/-- The tables of the spec's examples: route 1 THROUGH, 2 TRANSMIX, 3 PRODUCT 2; products 1 to 3; one pair; slot 1. -/
def tb : Tables := { Tables.factory with
  routes := { PerRoute.all none with
    r1 := some ⟨.through, 90, 45, 3⟩, r2 := some ⟨.transmix, 90, 45, 3⟩, r3 := some ⟨.product 2, 90, 45, 3⟩ }
  products := [⟨1, ⟨List.replicate 8 65#8, 950, 2, 8200, 8500⟩⟩, ⟨2, ⟨List.replicate 8 66#8, 950, 3, 7200, 7700⟩⟩,
    ⟨3, ⟨List.replicate 8 67#8, 950, 4, 7800, 8200⟩⟩]
  pairs := [⟨1, 2, ⟨.transmix, 100, 900, 24000, 3000, 60000⟩⟩]
  slots := { Tables.factory.slots with one := { SlotConfig.factory 7 with role := .densAdvance, enabled := true } }
  params := { Params.factory with leadVolume := 400000, safeRoute := some .r1 } }

def valve (st : ValveState) : Option Valve := some ⟨st, 0, none, 0, 0⟩

/-- A running unit with those tables, in a mode, route 1 OPEN and the others CLOSED. -/
def base (m : StationMode) : State := { State.reset with
  tables := tb
  rc := { State.reset.rc with
    valves := { PerRoute.all none with r1 := valve .opened, r2 := valve .closed, r3 := valve .closed }
    limits := { PerRoute.all ⟨false, false⟩ with r1 := ⟨true, false⟩, r2 := ⟨false, true⟩, r3 := ⟨false, true⟩ } }
  sm := { State.reset.sm with mode := m } }

/-- The same with a given state of route 3. -/
def withV3 (st : ValveState) (s : State) : State := { s with rc := { s.rc with valves := { s.rc.valves with r3 := valve st } } }

def intf (p : Nat) (tr : TrackState) : Interface := ⟨p, tr, none, none, 0, none, .all none, .all false, none, none⟩

def snap (rule : PairRule) (ch : Channel) : Snapshot :=
  ⟨rule, 100, 900, 24000, 20000, some 870, false, .pass, .pass, some ch, 60000, 30, 970⟩

def entry (id product density : Nat) (launched : Option Nat) (i : Option Interface) : Entry where
  id := id
  product := product
  density := density
  launched := launched
  adjust := 0
  complete := false
  disposition := none
  inherited := i.isNone
  base := if i.isNone then some 0 else none
  leading := i
  delivery := Delivery.empty
  enterTrigger := none
  firstTrigger := none
  firstLeft := false
  measured := false
  protectStands := false
  stripMark := false

/-- The manifold batch of the examples, inherited. -/
def front : Entry := entry 8114 1 8350 (some 1400000) none

/-- The batch behind it, with a leading interface. -/
def back (i : Interface) : Entry := entry 8115 2 7480 (some 1200000) (some i)

def withTrain (t : List Entry) (s : State) : State := { s with lt := { s.lt with train := t } }

/-- In a mode, the train of the manifold batch and one FAR entry. -/
def two (m : StationMode) : State := withTrain [front, back (intf 1400000 .far)] (base m)

/-- The state a step or a command answers, or reset. -/
def after (r : Result) : State :=
  match r with
  | .next t => t
  | _ => .reset

def ticket (id : Nat) : Ticket := ⟨id, 1, .none, 1000, 0, none, none, none, 0, 1000, [], 0⟩

/-! ### WellFormed refuses what does not fit -/

theorem test_wf_refuses :
    [Instr.readStatus 256, .readTrain 256, .readBatch (2 ^ 32), .readEvents 256, .readTicket (2 ^ 32),
      .ackTicket (2 ^ 32), .batchLaunch (2 ^ 32) 1 8350 0, .batchLaunch 1 256 8350 0, .batchLaunch 1 1 65536 0,
      .batchClose 1 (2 ^ 32), .batchAdjust 1 2147483648, .batchAdjust 1 (-2147483649), .batchPlan 1 256 0 0,
      .batchWithdraw (2 ^ 32), .interfaceDecide 256 1, .setMode 256, .valveCommand 1 256, .clearLockout 256,
      .setTime (2 ^ 32), .setParameter 1 2147483648, .setProduct 1 1 [] 0 1 5000 6000,
      .setPair 1 256 1 1 0 0 0 0 0, .setRoute 1 1 1 0 65536 0 0, .setSlot 1 1 1 1 0 0 0 (2 ^ 32) 1 1,
      .readConfiguration 256 0, .hostFrame [], .instrumentResponse [],
      .ltSAdvance (2 ^ 64), .cpSAdvance (2 ^ 64) .lineTracker, .periodIncrementBooking 0 (2 ^ 64),
      .channelReading .advance 2147483648 .good 0, .channelSAdvance .advance (2 ^ 64),
      .channelInterfaceHanded .advance ⟨0, .primary, 100, 900, 60000, 30, 970⟩,
      .channelInterfaceHanded .advance ⟨1, .primary, 20, 900, 60000, 30, 970⟩,
      .channelWindowExpiry .advance 0, .channelRelease .advance 0, .anchorHanded 0 0 .host,
      .crossingToLineTracker .advance 1 .h (2 ^ 64), .crossingToCutPlanner .advance 0 .h 0 false .lineTracker,
      .volumetricPointsToCutPlanner 1 (List.replicate 4 ⟨.h, 0⟩) .lineTracker, .missReturned .advance 0,
      .channelLostReport .advance 0, .lowContrastReport .advance 1 .primary 65536, .confirmDepartureHanded 0 0,
      .earlyDisagreeAdvance 0 .lineTracker, .excursionStartHanded .advance (2 ^ 64) .lineTracker,
      .excursionEndHanded .advance 0 .accept .lineTracker, .actionLeftList (2 ^ 32),
      .eventPosted .standstill (2 ^ 32) 0].map Instr.wf = List.replicate 49 false := by decide +kernel

theorem test_frameShape_refuses :
    frameShape [] = false ∧ frameShape [0x5A#8, 1#8, 0#8, 2#8, 0#8, 0#8] = false
    ∧ frameShape [0xC3#8, 1#8, 1#8, 2#8, 0#8, 0#8] = false := by decide

theorem test_responseShape_refuses : responseShape (List.replicate 9 0xC3#8) = false
    ∧ responseShape (List.replicate 8 0x5A#8) = false := by decide

/-! ### Payloads written out from the catalogue (R178) -/

/-- 0x10 with batch 8115, product 5, density 7480, 1,200,000 litres. -/
theorem test_decode_batchLaunch :
    decodeRequest 0x10 [0x00, 0x00, 0x1F, 0xB3, 0x05, 0x1D, 0x38, 0x00, 0x12, 0x4F, 0x80]
      = .request (.batchLaunch 8115 5 7480 1200000) := by decide

/-- 0x12 with batch 8115 and −50,000 litres. -/
theorem test_decode_batchAdjust :
    decodeRequest 0x12 [0x00, 0x00, 0x1F, 0xB3, 0xFF, 0xFF, 0x3C, 0xB0] = .request (.batchAdjust 8115 (-50000)) := by decide

/-- 0x30 with parameter 7 and −200. -/
theorem test_decode_setParameter :
    decodeRequest 0x30 [0x07, 0xFF, 0xFF, 0xFF, 0x38] = .request (.setParameter 7 (-200)) := by decide

/-- 0x21 with route 3 and OPEN. -/
theorem test_decode_valveCommand : decodeRequest 0x21 [0x03, 0x01] = .request (.valveCommand 3 1) := by decide

/-- A class outside the catalogue, and a wrong length. -/
theorem test_decode_refuses : decodeRequest 0x7E [] = .unknownRequest ∧ decodeRequest 0x21 [0x03] = .badLength 1 := by decide

/-- R175's worked frame: READ METERS to unit 1. -/
theorem test_frame : frame 1 0x02 [] = [0xC3, 0x01, 0x00, 0x02, 0xDB, 0xEE] := by decide +kernel

/-- No row of the table gives bits. -/
theorem test_decodeTableWord : decodeTableWord 8 0 = none := rfl

/-! ### Single steps -/

/-- R176: bytes before the start byte are discarded, and the frame of R175 sent in two parts, behind a byte of the line's
noise, is dispatched. -/
theorem test_host_frame_in_parts :
    (after (exec (.hostFrame [0x02, 0xDB, 0xEE])
      (after (exec (.hostFrame [0x00, 0xC3, 0x01, 0x00]) (base .hold))))).li.reply.map (·.cls) = some 0x82 := by
  decide +kernel

/-- R45, R156, R167: a unit without valid retained memory, powered on, is in the state after reset once the four hand-offs of
its cold start are taken. -/
theorem test_power_on_reaches_reset :
    let blank : State := { State.reset with
      powered := false, sm := { State.reset.sm with check := false }, el := ⟨[], 0, 0, false, false⟩
      li := { State.reset.li with edited := false } }
    let next := fun s => after (step s)
    next (next (next (next { blank with pending := [.powerOn false] }))) = State.reset := by decide +kernel

/-- Section 2.9, period 1: 48 pulses at 27.40 °C. -/
theorem test_meter_period :
    let x : Meter := { Meter.zero with pulses := 48, gross := 87512000000, std := 86620081500 }
    let s : State := { two .tracking with
      tables := { tb with
        slots := { tb.slots with two := { SlotConfig.factory 2 with role := .tempInlet, enabled := true } }
        params := { tb.params with pulseWeightInlet := 2500 } }
      ip := { State.reset.ip with slots := { State.reset.ip.slots with
        two := { SlotState.start with quality := .good, last := some ⟨2740, 0⟩ } } }
      mu := { State.reset.mu with inlet := x, flowState := .flowing } }
    let y := (after (exec .meterPeriodClose s)).mu.inlet
    (y.gross, y.std, y.residue, y.flow) = (87512120000, 86620200086, 400000, 426909) := by decide +kernel

/-- Section 11.8: SET PARAMETER 19 with 150 is clamped to 100. -/
theorem test_setParameter_clamps :
    (after (exec (.setParameter 19 150) (base .hold))).li.reply
      = some ⟨0xB0, [1, 19, 0, 0, 0, 100]⟩ := by decide +kernel

/-- The train of section 5.8 at its first S advance inside the window. -/
def window58 : State :=
  let s := two .tracking
  { s with
    lt := { s.lt with
      train := [front, back { intf 86650000 .far with standstills := 2 }], sLast := 80250000, curS := 86620081 }
    sd := { s.sd with advance := { ChannelState.start .clean 0 with body := List.replicate 16 8350 } }
    mu := { s.mu with inlet := { s.mu.inlet with flow := 426909 } } }

/-- Section 5.8: the window of 8115 opens at S 86,620,200 with halfwidth 29,800. -/
theorem test_window_opens :
    (after (exec (.ltSAdvance 86620200) window58)).lt.window
      = some ⟨8115, .advance, 86620200, 86679800, false, false⟩ := by decide +kernel

/-- Section 5.8, R114: the h crossing at 86,640,570 schedules a DIVERT at 87,035,234. -/
theorem test_divert_trigger :
    let i := { intf 86640210 .anchored with snapshot := some (snap .transmix .advance) }
    let s := withTrain [front, back i] window58
    (after (exec (.crossingToCutPlanner .advance 8115 .h 86640570 false .routeController) s)).cp.actions.map (·.trigger)
      = [87035234] := by decide +kernel

/-- Section 5.8: the confirmation at 87,036,800 disagrees by −3,410 and is within the tolerance. -/
theorem test_confirmation :
    let i := { intf 86640210 .anchored with snapshot := some (snap .transmix .advance) }
    let s := withTrain [front, back i] window58
    let s := { s with lt := { s.lt with confirm := some ⟨8115, 87020210, 87060210, 5000, false, false⟩ } }
    (after (exec (.confirmDepartureHanded 8115 87036800) s)).handed = [.eventPosted .mfConfirmed 8115 (-3410)] := by
  decide +kernel

/-- Section 9.8: the ticket of batch 8115. -/
theorem test_ticket_9_8 :
    let lead : Interface := { intf 86640210 .cleared with method := some .advance }
    let e : Entry := { entry 8115 5 7480 (some 1250000) (some lead) with
      adjust := -50000
      delivery := { Delivery.empty with
        routes := { PerRoute.all 0 with r1 := 13456789, r2 := 27812340, r3 := 1157690512 }
        unaccounted := 405118, startS := some 87058041, flags := { TicketFlags.none with safe := true, manual := true } } }
    let j : Interface := { intf 87846930 .anchored with
      method := some .advance, snapshot := some { snap .transmix .advance with mix := 20000 } }
    let s := withTrain [e, entry 8116 3 8010 none (some j)] (base .tracking)
    let s := { s with lt := { s.lt with curS := 88257405 } }
    (after (exec .switchEndHanded s)).ts = [⟨8115, 5, { TicketFlags.none with safe := true, manual := true }, 1250000, -50000,
      some 1206720, some .advance, some .advance, 87058041, 88257405, [⟨.r1, 13456⟩, ⟨.r2, 27812⟩, ⟨.r3, 1157690⟩], 405⟩] := by
  decide +kernel

/-! ### Witnesses: for each statement with hypotheses, a state and operands that meet them -/

theorem witness_StepTakesTheFrontCommand :
    State.reset.pending = [] ∧ ({ State.reset with handed := [.replySent] } : State).handed = .replySent :: []
    ∧ State.reset.handed = [] := by decide

theorem witness_EveryCommandAnswers :
    requestClass .readMeters ≠ 0 ∧ ({ State.reset with powered := false } : State).running = false := by decide

/-- A state at the capacities of the train, the tickets and the log, and one step from it. -/
def full : State :=
  { withTrain ((List.range 48).map (fun k => entry (k + 1) 1 8350 (some 1) (some (intf k .far)))) (base .tracking) with
    ts := (List.range 32).map (fun k => ticket (k + 100))
    el := ⟨List.replicate 256 ⟨1, 0, 0, 0, .standstill, 0, 0⟩, 1, 65535, true, true⟩
    cp := { CutPlanner.cold with
      actions := List.replicate 16 ⟨1, .enter, 0, 5, .bodyOfManifold, [], .none, none⟩, nextNum := 65535 }
    pending := [.cpSAdvance 1 .routeController] }

theorem witness_CapacitiesKeptByEveryStep : Safety.Capacity full ∧ ∃ t, step full = .next t :=
  ⟨by unfold Safety.Capacity; decide +kernel, _, rfl⟩

theorem witness_AttnFollowsItsGroundsAtEveryStep : Safety.AttnLaw full ∧ ∃ t, step full = .next t :=
  ⟨by unfold Safety.AttnLaw; decide +kernel, _, rfl⟩

theorem witness_TrainLawsKeptByEveryStep : Safety.TrainLaws full ∧ ∃ t, step full = .next t :=
  ⟨by unfold Safety.TrainLaws Safety.UniqueIds; decide +kernel, _, rfl⟩

theorem witness_FarPositionsStayDerived : Safety.Derived (two .hold).lt.train ∧ ∃ t, step (two .hold) = .next t := by
  refine ⟨⟨?_, trivial⟩, _, rfl⟩
  intro i v hi _ hv
  cases hi
  cases hv
  rfl

theorem witness_CountsStayInRange : Safety.Ranges full ∧ ∃ t, step full = .next t := by
  refine ⟨⟨by decide, by decide, ?_, ⟨?_, ?_, ?_, ?_⟩, ?_, by decide, by decide, by decide, by decide, by decide, by decide⟩,
    _, rfl⟩
  · intro e he i hi
    obtain ⟨k, -, rfl⟩ := List.mem_map.1 he
    cases hi
    exact Nat.zero_le _
  · intro k
    cases k <;> decide
  · intro k
    cases k <;> decide
  · intro t h
    cases h
  · intro t h
    cases h
  · intro r v hv
    cases r <;> cases hv <;> decide

theorem witness_ListsKeepTheirShape : Safety.Ordered full ∧ Safety.Buffers full ∧ ∃ t, step full = .next t :=
  ⟨by unfold Safety.Ordered; decide +kernel, fun c => by cases c <;> decide, _, rfl⟩

/-- A switch from route 1 to route 2 in phase 1, whose last route is about to enter OPEN. -/
def switching : State :=
  let s := two .tracking
  { s with
    rc := { s.rc with
      valves := { s.rc.valves with r2 := valve .opening }
      limits := { s.rc.limits with r2 := ⟨false, false⟩ }
      switching := some ⟨[.r2], 8115, .opening, [.r2], [], false, 0⟩ }
    pending := [.valveLimitChange .r2 true false] }

theorem switching_sound : Safety.SwitchSound switching := by
  refine ⟨by decide, fun w hw => ?_⟩
  cases hw
  refine ⟨by decide, by decide, fun _ _ r hr h => ?_⟩
  have hr : r = .r2 := by simpa using hr
  subst hr
  exact absurd (h (by decide)) (by decide)

theorem witness_SwitchStaysSound : Safety.SwitchSound switching ∧ ∃ t, step switching = .next t := ⟨switching_sound, _, rfl⟩

theorem witness_RouteClosesOnlyBesideAnOpenRoute :
    Safety.SwitchSound switching ∧ step switching = .next (after (step switching))
    ∧ valveIs switching .r1 .closing = false ∧ valveIs (after (step switching)) .r1 .closing = true :=
  ⟨switching_sound, rfl, by decide +kernel, by decide +kernel⟩

theorem witness_StationTotaliserNeverDecreases :
    full.mu.inlet.std + (periodRecord full .inlet).1.std < 2 ^ 64 ∧ ∃ t, step full = .next t :=
  ⟨by decide +kernel, _, rfl⟩

/-- An operand at the top of its width, and the largest payload. -/
theorem witness_RequestRoundTrip :
    let i := Instr.setPair 255 255 255 255 65535 65535 4294967295 4294967295 4294967295
    i.wf = true ∧ ∃ c p, encodeRequest i = some (c, p) := ⟨by decide +kernel, _, _, rfl⟩

theorem witness_HostFramesAreDispatched :
    Instr.readMeters.wf = true ∧ encodeRequest .readMeters = some (2, []) ∧ (base .hold).running = true
    ∧ (base .hold).li.assembler = .hunting ∧ (base .hold).li.unitAddr < 256
    ∧ requestLength 255 = none ∧ requestLength 1 = some 1 ∧ (List.replicate 240 0#8).length ≠ 1
    ∧ (RefusalCode.routeFault, 19) ∈ Safety.RefusalCodes ∧ (RefusalCode.unknownRequest, 1) ∈ Safety.RefusalCodes := by
  decide +kernel

/-- A frame of a length with all its other bytes zero. -/
def zeros (address len : Nat) : List Byte :=
  [0xC3#8, BitVec.ofNat 8 address, BitVec.ofNat 8 len, 2#8] ++ List.replicate (len + 2) 0#8

/-- A unit that has collected the first two bytes of a frame. -/
def collecting : State :=
  let s := base .hold
  { s with li := { s.li with assembler := .collecting [0xC3#8, 1#8] } }

/-- A unit whose reply is being sent. -/
def replying (m : StationMode) : State :=
  let s := base m
  { s with li := { s.li with assembler := .closed, reply := some ⟨0x82, []⟩ } }

/-- The least overlong length byte, 241, and the greatest length, 240; a bad CRC and another address; a frame in two parts. -/
theorem witness_FramesPassedOverAndReplySent :
    (base .hold).running = true ∧ (base .hold).li.assembler = .hunting
    ∧ collecting.running = true ∧ collecting.li.assembler = .collecting [0xC3#8, 1#8]
    ∧ 240 < (241#8).toNat ∧ (∀ b ∈ [5#8, 7#8], b ≠ 0xC3#8)
    ∧ frameShape (zeros 1 240) = true ∧ field (zeros 1 240) 2 1 ≤ 240
    ∧ frameShape (zeros 1 0) = true ∧ field (zeros 1 0) 2 1 ≤ 240 ∧ frameCrcOk (zeros 1 0) = false
    ∧ frameShape (frame 2 2 []) = true ∧ field (frame 2 2 []) 2 1 ≤ 240 ∧ frameCrcOk (frame 2 2 []) = true
    ∧ field (frame 2 2 []) 1 1 ≠ (base .hold).li.unitAddr
    ∧ frame 2 2 [] = [0xC3#8] ++ (frame 2 2 []).drop 1 ∧ (frame 2 2 []).drop 1 ≠ []
    ∧ (replying .hold).running = true ∧ (replying .hold).li.assembler = .closed
    ∧ (replying .hold).li.reply = some ⟨0x82, []⟩ ∧ (base .hold).li.reply = none := by decide +kernel

/-- A running unit with one ticket and the two entries. -/
def ticketed : State := { two .hold with ts := [ticket 8000] }

theorem witness_ReadsChangeOnlyTheReply :
    ticketed.running = true ∧ (∀ p ∈ ticketed.tables.products, p.entry.name.length = 8)
    ∧ findEntry 8115 ticketed.lt.train = some (back (intf 1400000 .far)) ∧ (two .hold).ts = []
    ∧ (if 0 = 0 then ticketed.ts.head? else ticketed.ts.find? (fun t => t.id == 0)) = some (ticket 8000)
    ∧ (if 8000 = 0 then ticketed.ts.head? else ticketed.ts.find? (fun t => t.id == 8000)) = some (ticket 8000) := by
  decide +kernel

theorem witness_StatusMetersAndTrainAreReported :
    let s := two .hold
    s.running = true ∧ (∃ t r, exec (.readStatus 0) s = .next t ∧ t.li.reply = some r) ∧ s.stationS < 2 ^ 64
    ∧ s.cp.actions.length ≤ 16 ∧ s.lt.sLast < 2 ^ 64 ∧ s.el.records.length ≤ 256 ∧ s.ts.length ≤ 32
    ∧ s.lt.train.length ≤ 48 ∧ (∃ t r, exec .readMeters s = .next t ∧ t.li.reply = some r)
    ∧ s.mu.inlet.std < 2 ^ 64 ∧ s.mu.inlet.gross < 2 ^ 64 ∧ s.mu.delivery.gross < 2 ^ 64 ∧ s.mu.delivery.std < 2 ^ 64
    ∧ s.mu.inlet.flow < 2 ^ 32 ∧ (∃ t r, exec (.readTrain 2) s = .next t ∧ t.li.reply = some r)
    ∧ s.lt.train[2 - 1 + 0]? = some (back (intf 1400000 .far)) ∧ (back (intf 1400000 .far)).id < 2 ^ 32 :=
  ⟨by decide, ⟨_, _, rfl, rfl⟩, by decide +kernel, by decide, by decide, by decide, by decide, by decide, ⟨_, _, rfl, rfl⟩,
    by decide, by decide, by decide, by decide, by decide, ⟨_, _, rfl, rfl⟩, by decide, by decide⟩

theorem witness_ReadEventsTakesTheOldest :
    full.running = true ∧ full.el.records.length ≤ 256 ∧ full.el.lost ≤ 65535 ∧ (1 ≤ 1 ∧ 1 ≤ 8) ∧ (1 ≤ 8 ∧ 8 ≤ 8)
    ∧ (0 < 1 ∨ 8 < 0) ∧ (9 < 1 ∨ 8 < 9) := by decide +kernel

theorem witness_PostedEventIsStoredOrCounted :
    (base .hold).running = true ∧ (base .hold).el.records.length < 256
    ∧ full.running = true ∧ 256 ≤ full.el.records.length := by decide +kernel

/-- Route 1 THROUGH, 2 TRANSMIX and 3 PRODUCT for parameter 30; a unit with a THROUGH route and one without for parameter 28. -/
theorem witness_ParametersOfRoutes :
    throughRoute tb = some .r1 ∧ throughRoute State.reset.tables = none
    ∧ routeKind tb .r1 = some .through ∧ routeKind tb .r2 = some .transmix ∧ routeKind tb .r3 = some (.product 2)
    ∧ (base .hold).sm.mode ≠ .tracking ∧ (base .hold).sm.mode ≠ .safe := by decide

theorem witness_ParametersAreClampedOrRefused :
    (base .hold).running = true ∧ tuningRange 3 = some (1, 100000) ∧ tuningRange 2 = some (0, 2000000)
    ∧ ((base .hold).sm.mode = .hold ∨ (base .hold).sm.mode = .unconfigured)
    ∧ (base .tracking).sm.mode = .tracking ∧ (base .manual).sm.mode = .manual ∧ (base .safe).sm.mode = .safe
    ∧ ¬((1 : Int) ≤ 0 ∧ (0 : Int) ≤ 62) ∧ ¬((1 : Int) ≤ 63 ∧ (63 : Int) ≤ 62) ∧ ¬((0 : Int) ≤ 64 ∧ (64 : Int) ≤ 63)
    ∧ ((0 : Int) ≤ 0 ∧ (0 : Int) ≤ 63) ∧ ((0 : Int) ≤ 63 ∧ (63 : Int) ≤ 63)
    ∧ ((1 : Int) ≤ 1 ∧ (1 : Int) ≤ 62) ∧ ((1 : Int) ≤ 62 ∧ (62 : Int) ≤ 62) := by decide

/-- Route 1 OPEN, with route 2 in a state. -/
def beside (m : StationMode) (st : ValveState) : State :=
  let s := base m
  { s with rc := { s.rc with valves := { s.rc.valves with r2 := valve st }, limits := .all ⟨false, false⟩ } }

/-- Route 2, TRANSMIX, becomes the safe route from LOCKED_OUT and from CLOSED, route 1 with the line-up agreeing and with
route 2 OPEN beside it; and the states in which no switch begins. -/
theorem witness_SafeRouteCompared :
    (∀ m ∈ [StationMode.safe, .tracking, .hold], ∀ st ∈ [ValveState.lockedOut, .closed, .opened, .opening],
      (beside m st).running = true ∧ (beside m st).sm.mode = m ∧ (beside m st).rc.switching = none
      ∧ routeKind (beside m st).tables .r1 = some .through ∧ routeKind (beside m st).tables .r2 = some .transmix
      ∧ (beside m st).rc.valves.get .r2 = some ⟨st, 0, none, 0, 0⟩)
    ∧ (∀ st ∈ [ValveState.lockedOut, .closed, .opened], ∀ x ∈ allRoutes, travelling (beside .safe st) x = false)
    ∧ target (beside .tracking .closed) = none ∧ travelling (beside .safe .opening) .r2 = true
    ∧ valveIs (beside .safe .closed) .r1 .opened = true ∧ (beside .safe .closed).rc.limits.get .r2 ≠ ⟨true, false⟩
    ∧ allRoutes.filter (fun x => !(x == .r1) && (valveIs (beside .safe .closed) x .opened
        || valveIs (beside .safe .closed) x .unknown)) = []
    ∧ allRoutes.filter (fun x => !(x == .r1) && (valveIs (beside .safe .opened) x .opened
        || valveIs (beside .safe .opened) x .unknown)) = [.r2] := by decide +kernel

/-- Code 1 may be removed from a unit without a train; code 24 may be written. -/
theorem witness_ProductAndPairEntriesAreWritten :
    (base .hold).running = true ∧ (1 ≤ 24 ∧ 24 ≤ 24 ∧ 5000 ≤ 5000 ∧ 5000 ≤ 11000 ∧ 11000 ≤ 11000)
    ∧ (productOf (base .hold).tables 1).isSome ∧ productInUse (base .hold) 1 = false
    ∧ ruleOfCode 1 = some .toAhead ∧ ruleOfCode 4 = some .transmix ∧ (base .hold).tables.pairs.length < 96
    ∧ (base .hold).tables.pairs.any (fun q => q.ahead == 1 && q.behind == 2) := by decide +kernel

/-- The same unit with the limits of route 8, which is not defined. -/
def limits8 (l : Limits) : State :=
  let s := base .hold
  { s with rc := { s.rc with limits := { s.rc.limits with r8 := l } } }

/-- HOLD with a switch that has opened its target and then closed routes; route 8, removed since, shows both limits. -/
def switch8 (commanded : List RouteNo) : State :=
  let s := limits8 ⟨true, true⟩
  { s with rc := { s.rc with switching := some ⟨[.r2], 8115, .closing, commanded, [], true, 0⟩ } }

theorem witness_RouteEntryMakesItsValve :
    (base .hold).running = true ∧ (base .hold).sm.mode = .hold
    ∧ (∀ l ∈ [(⟨false, true⟩ : Limits), ⟨false, false⟩, ⟨true, false⟩, ⟨true, true⟩],
      routeRefusal (routeNumber .r8) 1 2 1 (limits8 l) = none ∧ kindOfCode 2 1 = some (.product 1)
      ∧ (limits8 l).tables.routes.get .r8 = none ∧ (limits8 l).rc.limits.get .r8 = l
      ∧ (limits8 l).rc.openOrder + 1 < 2 ^ 64)
    ∧ routeRefusal (routeNumber .r3) 1 2 1 (base .hold) = none ∧ ((base .hold).tables.routes.get .r3).isSome
    ∧ routeRefusal (routeNumber .r3) 2 0 0 (base .hold) = none
    ∧ (∀ l ∈ [[RouteNo.r8], [.r3]], routeRefusal (routeNumber .r8) 1 2 1 (switch8 l) = none
      ∧ (switch8 l).running = true ∧ (switch8 l).sm.mode = .hold ∧ (switch8 l).tables.routes.get .r8 = none
      ∧ (switch8 l).rc.limits.get .r8 = ⟨true, true⟩ ∧ ((switch8 l).rc.switching.map (·.commanded)) = some l) := by
  decide +kernel

/-- R139: the fault of a route defined afresh ends the switch that has commanded it, and no other. -/
theorem test_new_faulted_route_ends_its_switch :
    (match exec (.setRoute 8 1 2 1 30 20 3) (switch8 [.r8]) with
      | .next t => t.rc.switching.isNone && t.handed.contains (.eventPosted .switchAbandoned 8115 2)
      | _ => false) = true
    ∧ (match exec (.setRoute 8 1 2 1 30 20 3) (switch8 [.r3]) with
      | .next t => t.rc.switching.isSome
      | _ => false) = true := by decide +kernel

theorem witness_SlotConfigurationIsTaken :
    let s := base .hold
    s.running = true ∧ (∀ y, s.ip.cycle = some y → y.slot ≠ .one)
    ∧ (∃ c, slotRequest s.tables (slotNumber .one) 2 31 1 0 0 0 0 0 0 = some (.one, c)
        ∧ identityChange (s.tables.slots.get .one) c = true)
    ∧ (∃ c, slotRequest s.tables (slotNumber .one) 1 7 1 2 2 2 100000 15 50 = some (.one, c)
        ∧ identityChange (s.tables.slots.get .one) c = false) :=
  ⟨by decide, fun _ h => (by cases h), ⟨_, rfl, by decide⟩, ⟨_, rfl, by decide⟩⟩

theorem witness_SaveWritesTheTables :
    (base .hold).running = true ∧ (base .hold).cs.saving = none
    ∧ ({ base .hold with cs := ⟨none, some tb⟩ } : State).running = true
    ∧ ({ base .hold with cs := ⟨none, some tb⟩ } : State).cs.saving = some tb := by decide

theorem witness_SetTimeMovesOnlyTheTimeOfDay : (base .hold).running = true := by decide

theorem witness_SetModeIsJudgedAndTaken :
    (base .unconfigured).running = true ∧ (base .unconfigured).sm.mode = .unconfigured
    ∧ missingMask (base .unconfigured).tables = 0 ∧ (base .hold).running = true ∧ (base .hold).sm.mode = .hold
    ∧ (base .tracking).sm.mode = .tracking ∧ (base .manual).sm.mode = .manual
    ∧ (base .safe).sm.mode = .safe ∧ (base .safe).rc.switching = none
    ∧ (∀ r, valveIs (base .safe) r .fault = false)
    ∧ State.reset.sm.mode = .unconfigured ∧ missingMask State.reset.tables ≠ 0
    ∧ ({ switching with sm := (base .safe).sm } : State).rc.switching ≠ none
    ∧ (withV3 .fault (base .safe)).rc.switching = none ∧ valveIs (withV3 .fault (base .safe)) .r3 .fault = true
    ∧ (∀ x, routeNumber x < routeNumber .r3 → valveIs (withV3 .fault (base .safe)) x .fault = false) := by
  refine ⟨by decide, by decide, by decide, by decide, by decide, by decide, by decide, by decide, by decide, ?_, by decide,
    by decide, by decide, by decide, by decide, ?_⟩ <;> intro r <;> cases r <;> decide

theorem witness_DemandsChangeTheMode :
    (base .tracking).running = true ∧ (base .tracking).sm.mode = .tracking ∧ (base .hold).sm.mode ≠ .tracking
    ∧ (base .hold).sm.mode = .hold := by decide

/-- Route 2, TRANSMIX, in a state, with its limits. -/
def v2 (m : StationMode) (st : ValveState) (l : Limits) : State :=
  let s := two m
  { s with rc := { s.rc with valves := { s.rc.valves with r2 := valve st }, limits := { s.rc.limits with r2 := l } } }

theorem witness_ValveCommandIsJudgedAndTaken :
    (∀ st ∈ [ValveState.closed, .unknown, .fault, .opened, .lockedOut, .opening, .closing],
      let s := v2 .manual st ⟨false, false⟩
      s.running = true ∧ s.sm.mode = .manual ∧ s.rc.switching = none ∧ s.rc.valves.get .r2 = some ⟨st, 0, none, 0, 0⟩
      ∧ s.rc.openOrder + 1 < 2 ^ 64 ∧ productMatches s .r2 = true)
    ∧ Safety.OtherOpen (v2 .manual .opened ⟨true, false⟩) .r2
    ∧ (two .manual).rc.valves.get .r8 = none ∧ (two .hold).sm.mode ≠ .manual
    ∧ ¬Safety.OtherOpen (two .manual) .r1 ∧ (two .manual).rc.valves.get .r1 = some ⟨.opened, 0, none, 0, 0⟩
    ∧ (two .manual).rc.valves.get .r3 = some ⟨.closed, 0, none, 0, 0⟩ ∧ productMatches (two .manual) .r3 = false := by
  refine ⟨by decide +kernel, ⟨.r1, by decide, by decide⟩, by decide, by decide, ?_, by decide, by decide, by decide⟩
  rintro ⟨x, hx, h⟩
  cases x <;> first | exact hx rfl | exact absurd h (by decide)

/-- Route 2 with a travel timer of 1 s begun at 0, the clock at a time, its expiry in flight. -/
def timing (m : StationMode) (st : ValveState) (now : Nat) (flight : List Instr) : State :=
  let s := v2 m st ⟨false, false⟩
  { s with
    clock := { s.clock with ms := now }
    rc := { s.rc with
      valves := { s.rc.valves with r2 := some ⟨st, 0, some 0, 1, 0⟩ }
      switching := some ⟨[.r2], 8115, .opening, [.r2], [], false, 0⟩ }
    handed := flight }

/-- The timer run out at 1,000 ms, and a millisecond short of it with the expiry left over in flight or brought by a
sender; a switch of the route in TRACKING and SAFE. -/
theorem witness_TravelExpiryFaultsTheRoute :
    (∀ st ∈ [ValveState.opening, .closing, .closed], ∀ m ∈ [StationMode.hold, .manual, .tracking, .safe],
      (timing m st 1000 []).running = true ∧ (timing m st 1000 []).sm.mode = m
      ∧ (timing m st 1000 []).rc.valves.get .r2 = some ⟨st, 0, some 0, 1, 0⟩
      ∧ (timing m st 1000 []).rc.switching = some ⟨[.r2], 8115, .opening, [.r2], [], false, 0⟩)
    ∧ 1 * 1000 ≤ 1000 - 0 ∧ ¬1 * 1000 ≤ 999 - 0
    ∧ .valveTravelExpiry .r2 ∉ (timing .hold .opening 999 []).handed
    ∧ .valveTravelExpiry .r2 ∈ (timing .hold .opening 999 [.valveTravelExpiry .r2]).handed := by decide +kernel

/-- Each clause: the state and the limits before, then the limits after. -/
theorem witness_LimitChangeMovesTheValve :
    (∀ c ∈ [(ValveState.opening, (⟨false, false⟩ : Limits), (⟨true, false⟩ : Limits)),
        (.closing, ⟨false, false⟩, ⟨false, true⟩), (.opening, ⟨true, false⟩, ⟨true, true⟩),
        (.closing, ⟨false, true⟩, ⟨true, true⟩), (.opening, ⟨false, true⟩, ⟨false, false⟩),
        (.opened, ⟨true, false⟩, ⟨false, false⟩), (.closed, ⟨false, true⟩, ⟨false, false⟩),
        (.unknown, ⟨false, false⟩, ⟨true, false⟩), (.fault, ⟨false, false⟩, ⟨true, false⟩),
        (.lockedOut, ⟨false, false⟩, ⟨false, true⟩)],
      let s := v2 .hold c.1 c.2.1
      s.running = true ∧ s.sm.mode = .hold ∧ s.rc.switching = none ∧ s.rc.valves.get .r2 = some ⟨c.1, 0, none, 0, 0⟩
      ∧ s.rc.limits.get .r2 ≠ c.2.2 ∧ s.rc.openOrder + 1 < 2 ^ 64) := by decide +kernel

/-- Route 2 on its way in a switch, with route 3 CLOSED. -/
def inSwitch (st : ValveState) (w : Switch) : State :=
  let s := v2 .tracking st ⟨false, false⟩
  { s with rc := { s.rc with switching := some w } }

/-- The switch clauses: another route on its way; the mark; phase 2; nothing to close; route 1 to close. -/
theorem witness_SwitchGoesOn :
    (∀ c ∈ [(ValveState.opening, (⟨[.r2], 8115, .opening, [.r2, .r3], [], false, 0⟩ : Switch)),
        (.opening, ⟨[.r2], 8115, .opening, [.r2], [], true, 0⟩), (.closing, ⟨[.r1], 8114, .closing, [.r2], [], false, 0⟩),
        (.opening, ⟨[.r1, .r2], 8115, .opening, [.r2], [], false, 0⟩), (.opening, ⟨[.r2], 8115, .opening, [.r2], [], false, 0⟩)],
      let s := inSwitch c.1 c.2
      s.running = true ∧ s.rc.switching = some c.2 ∧ .r2 ∈ c.2.commanded ∧ s.rc.openOrder + 1 < 2 ^ 64
      ∧ s.rc.valves.get .r2 = some ⟨c.1, 0, none, 0, 0⟩ ∧ c.1 = (if c.2.phase = .opening then .opening else .closing)
      ∧ s.rc.limits.get .r2 ≠ ⟨c.2.phase = .opening, c.2.phase = .closing⟩
      ∧ (.r3 ∈ c.2.arrived ∨ valveIs s .r3 (if c.2.phase = .opening then .opened else .closed) = true ↔ c.2.phase = .closing))
    ∧ (valveIs (two .tracking) .r1 .opened || valveIs (two .tracking) .r1 .unknown) = true
    ∧ ((two .tracking).rc.limits.get .r1).closed = false := by decide +kernel

/-- Route 3 about to arrive CLOSED, with route 2, of the plan line-up, CLOSED or LOCKED_OUT. -/
def arriving (st : ValveState) : State :=
  let s := withV3 .closing (v2 .tracking st ⟨false, true⟩)
  { s with
    cp := { s.cp with plan := some ⟨[.r2], 8115, .transmix⟩ }
    rc := { s.rc with limits := { s.rc.limits with r3 := ⟨false, false⟩ } } }

theorem witness_SwitchIsBegun :
    (∀ st ∈ [ValveState.closed, .lockedOut],
      (arriving st).running = true ∧ (arriving st).sm.mode = .tracking ∧ target (arriving st) = some ([.r2], 8115)
      ∧ (arriving st).rc.switching = none ∧ (arriving st).rc.latch = false
      ∧ (arriving st).rc.valves.get .r3 = some ⟨.closing, 0, none, 0, 0⟩
      ∧ (arriving st).rc.limits.get .r3 ≠ ⟨false, true⟩ ∧ (∀ x ∈ allRoutes, x ≠ .r3 → travelling (arriving st) x = false)
      ∧ valveIs (arriving st) .r2 .opened = false ∧ ((arriving st).rc.limits.get .r2).opened = false
      ∧ valveIs (arriving st) .r2 .lockedOut = decide (st = .lockedOut)) := by decide +kernel

theorem witness_ClearLockoutTakesTheLimits :
    let s := v2 .hold .lockedOut ⟨true, true⟩
    s.running = true ∧ s.rc.valves.get .r8 = none ∧ s.rc.valves.get .r1 = some ⟨.opened, 0, none, 0, 0⟩
    ∧ s.rc.valves.get .r2 = some ⟨.lockedOut, 0, none, 0, 0⟩ ∧ s.sm.mode ≠ .tracking ∧ s.sm.mode ≠ .safe
    ∧ s.rc.switching = none := by decide +kernel

theorem two_unique (m : StationMode) : Safety.UniqueIds (two m) := by
  unfold Safety.UniqueIds
  cases m <;> decide +kernel

theorem witness_BookingAddsTheIncrement :
    (two .tracking).running = true ∧ manifoldOf (two .tracking).lt.train = some front ∧ Safety.UniqueIds (two .tracking)
    ∧ (∀ r, front.delivery.routes.get r + 1000 + 1200 < 2 ^ 64) ∧ front.delivery.unaccounted + 1000 + 1200 < 2 ^ 64
    ∧ manifoldOf (base .hold).lt.train = none :=
  ⟨by decide, by decide, two_unique _, fun r => by cases r <;> decide, by decide, by decide⟩

/-- A COMPLETE entry waits at the front for a place in the store. -/
def waiting : State := { withTrain [{ front with complete := true }, back (intf 1400000 .cleared)] (base .hold) with
  ts := [ticket 8000] }

theorem witness_AckTicketFreesAPlace :
    waiting.running = true ∧ (8000 ≠ 0 ∧ ∃ k ∈ waiting.ts, k.id = 8000) ∧ (8001 ≠ 0 ∧ ∀ k ∈ waiting.ts, k.id ≠ 8001)
    ∧ waiting.lt.train = { front with complete := true } :: [back (intf 1400000 .cleared)]
    ∧ ticketed.running = true ∧ (∃ k ∈ ticketed.ts, k.id = 8000)
    ∧ (∀ e, ticketed.lt.train.head? = some e → e.complete = false) :=
  ⟨by decide, ⟨by decide, ticket 8000, by decide, rfl⟩, by decide, rfl, by decide, ⟨ticket 8000, by decide, rfl⟩,
    fun e h => by cases h; rfl⟩

theorem launch_fields (m : StationMode) (d l : Nat) (hd : 8200 ≤ d ∧ d ≤ 8500) (hl : l ≤ 2000000000) :
    Safety.LaunchFields (two m) 9 1 d l := by
  refine ⟨by decide, by decide, by decide, by omega, by omega, hl, ⟨List.replicate 8 65#8, 950, 2, 8200, 8500⟩, ?_, hd.1, hd.2⟩
  cases m <;> rfl

theorem witness_LaunchAddsAnEntry :
    (two .hold).running = true ∧ (two .hold).sm.mode ≠ .unconfigured
    ∧ Safety.LaunchFields (two .hold) 9 1 8200 2000000000
    ∧ (∀ e ∈ (two .hold).lt.train, e.id ≠ 9) ∧ (∀ k ∈ (two .hold).ts, k.id ≠ 9)
    ∧ (two .hold).lt.train.getLast? = some (back (intf 1400000 .far)) ∧ (back (intf 1400000 .far)).volume = some 1200000
    ∧ (two .hold).lt.train.length < 48
    ∧ Safety.LaunchFields (base .hold) 9 1 8500 0 ∧ (base .hold).lt.train = [] ∧ (base .hold).ts = []
    ∧ firstTransmix (base .hold).tables = some .r2 ∧ throughRoute (base .hold).tables = some .r1
    ∧ (base .hold).tables.params.defaultDisposition = .transmixAll :=
  ⟨by decide, by decide, launch_fields _ _ _ (by decide) (by decide), by decide, by decide, rfl, by decide, by decide,
    ⟨by decide, by decide, by decide, by decide, by decide, by decide, _, rfl, by decide, by decide⟩, rfl, rfl, by decide,
    by decide, by decide⟩

theorem witness_NoticesAreRefused :
    (two .hold).running = true ∧ (two .hold).sm.mode ≠ .unconfigured
    ∧ productOf (two .hold).tables 24 = none
    ∧ (∃ p, productOf (two .hold).tables 1 = some p ∧ 8199 < p.dmin)
    ∧ Safety.LaunchFields (two .hold) 9 1 8500 0
    ∧ (∃ e ∈ (two .hold).lt.train, e.id = 8115)
    ∧ (let s := withTrain [{ front with launched := none }] (base .hold)
      s.running = true ∧ s.lt.train.getLast? = some { front with launched := none } ∧ (∀ e ∈ s.lt.train, e.id ≠ 9))
    ∧ (let s := { full with ts := [] }
      s.running = true ∧ 48 ≤ s.lt.train.length ∧ (∀ e ∈ s.lt.train, e.id ≠ 8000)
      ∧ s.lt.train.getLast? = some (entry 48 1 8350 (some 1) (some (intf 47 .far))))
    ∧ (base .unconfigured).running = true ∧ (base .unconfigured).sm.mode = .unconfigured :=
  ⟨by decide, by decide, by decide, ⟨_, rfl, by decide⟩, launch_fields _ _ _ (by decide) (by decide),
    ⟨back (intf 1400000 .far), by decide, rfl⟩,
    by decide, by decide +kernel, by decide, by decide⟩

/-- An open back entry with its leading interface FAR, behind the manifold batch. -/
def open3 : State :=
  withTrain [front, back (intf 1400000 .far), entry 8116 3 8010 none (some (intf 2600000 .far))] (base .hold)

theorem witness_CloseAndAdjustDeriveTheTrain :
    open3.running = true ∧ open3.sm.mode ≠ .unconfigured
    ∧ findEntry 8116 open3.lt.train = some (entry 8116 3 8010 none (some (intf 2600000 .far)))
    ∧ (entry 8116 3 8010 none (some (intf 2600000 .far))).launched = none
    ∧ (1 ≤ ((1 : Nat) : Int) + (entry 8116 3 8010 none (some (intf 2600000 .far))).adjust)
    ∧ findEntry 8115 open3.lt.train = some (back (intf 1400000 .far))
    ∧ (∀ i, (back (intf 1400000 .far)).leading = some i → i.track = .far)
    ∧ (∀ b i, behindOf 8115 open3.lt.train = some b → b.leading = some i → i.track = .far)
    ∧ (∀ l, (back (intf 1400000 .far)).launched = some l →
        1 ≤ (l : Int) + (back (intf 1400000 .far)).adjust + -1199999 ∧ (l : Int) + (back (intf 1400000 .far)).adjust + -1199999
          ≤ 4000000000)
    ∧ (-2000000000 ≤ (entry 8116 3 8010 none (some (intf 2600000 .far))).adjust + 1000000000)
    ∧ (∃ i, (back (intf 1400000 .anchored)).leading = some i ∧ i.track ≠ .far)
    ∧ findEntry 8115 (withTrain [front, back (intf 1400000 .anchored)] (base .hold)).lt.train
        = some (back (intf 1400000 .anchored)) := by
  refine ⟨by decide, by decide, by decide, by decide, by decide, by decide, ?_, ?_, ?_, by decide, ⟨_, rfl, by decide⟩, by decide⟩
  · rintro i h
    cases h
    rfl
  · rintro b i h h'
    cases h
    cases h'
    rfl
  · rintro l h
    cases h
    decide

/-- The manifold batch alone, its body line-up standing. -/
def bodyPlan : State :=
  let s := withTrain [front] (base .hold)
  { s with cp := { s.cp with plan := some ⟨[.r1], 8114, .body⟩ } }

theorem witness_PlanAndWithdrawChangeTheEntry :
    (two .hold).running = true ∧ (two .hold).sm.mode ≠ .unconfigured
    ∧ findEntry 8115 (two .hold).lt.train = some (back (intf 1400000 .far))
    ∧ (back (intf 1400000 .far)).inherited = false ∧ (back (intf 1400000 .far)).complete = false
    ∧ (∀ i, (back (intf 1400000 .far)).leading = some i → i.track = .far)
    ∧ throughRoute (two .hold).tables = some .r1 ∧ productRoute (two .hold).tables .r3 = some 2
    ∧ bodyPlan.running = true ∧ bodyPlan.sm.mode = .hold ∧ findEntry 8114 bodyPlan.lt.train = some front
    ∧ front.inherited = true ∧ manifoldId bodyPlan.lt.train = 8114 ∧ front.leading = none
    ∧ behindOf 8114 bodyPlan.lt.train = none ∧ bodyPlan.cp.plan = some ⟨[.r1], 8114, .body⟩
    ∧ front.product ≠ 2
    ∧ (manifoldOf (two .hold).lt.train).map (·.id) ≠ some 8115
    ∧ (two .hold).lt.train[1]? = some (back (intf 1400000 .far))
    ∧ (∀ j x, j < 1 → (two .hold).lt.train[j]? = some x → x.id ≠ 8115)
    ∧ (manifoldOf (two .hold).lt.train).map (·.id) = some 8114 := by
  refine ⟨by decide, by decide, by decide, by decide, by decide, ?_, by decide, by decide, by decide, by decide, by decide,
    by decide, by decide, by decide, by decide, by decide, by decide, by decide, by decide, ?_, by decide⟩
  · rintro i h
    cases h
    rfl
  · rintro j x h h'
    obtain rfl : j = 0 := by omega
    cases h'
    decide

/-- An open excursion on a channel. -/
def excursion (ch : Channel) (m : StationMode) : State :=
  let s := two m
  { s with sd := s.sd.set ch { ChannelState.start .excursion 1300000 with
      excursion := some ⟨1350000, 40, none, .none, true⟩, body := [8350, 8350, 8350, 8350] } }

/-- The ADVANCE channel's excursion protected by action 5, which stands in a list or has fallen due. -/
def shielded (a : List Action) (p : Option Plan) : State :=
  let s := excursion .advance .hold
  { s with cp := { s.cp with actions := a, plan := p, protectedMark := ⟨some ⟨5, 1700000⟩, none⟩, protectCount := ⟨1, 0⟩ } }

theorem witness_DecisionOnAnExcursion :
    (∀ ch ∈ [Channel.advance, .manifold], (excursion ch .hold).running = true
      ∧ (excursion ch .hold).sm.mode ≠ .unconfigured
      ∧ ((excursion ch .hold).sd.get ch).excursion = some ⟨1350000, 40, none, .none, true⟩
      ∧ firstOpen (excursion ch .hold).lt.train = some (front, back (intf 1400000 .far), intf 1400000 .far)
      ∧ (withTrain [front] (excursion ch .hold)).running = true
      ∧ ((withTrain [front] (excursion ch .hold)).sd.get ch).excursion = some ⟨1350000, 40, none, .none, true⟩
      ∧ firstOpen (withTrain [front] (excursion ch .hold)).lt.train = none
      ∧ ((two .hold).sd.get ch).excursion = none)
    ∧ (∀ a ∈ [[], [(⟨5, .protect, 0, 1700000, .transmix, [.r2], .none, some .advance⟩ : Action)]],
      ∀ p ∈ [none, some (⟨[.r2], 8114, .protect⟩ : Plan)], (shielded a p).running = true
      ∧ firstOpen (shielded a p).lt.train = some (front, back (intf 1400000 .far), intf 1400000 .far)
      ∧ (shielded a p).cp.protectedMark.get .advance = some ⟨5, 1700000⟩ ∧ front.inherited = true
      ∧ (shielded a p).cp.actions = a ∧ (shielded a p).cp.plan = p ∧ behindOf 8115 (shielded a p).lt.train = none)
    ∧ Safety.UniqueIds (excursion .advance .hold) ∧ Safety.UniqueIds (excursion .manifold .hold)
    ∧ ((intf 1400000 .far).track = .window → (intf 1400000 .far).snapshot.isSome) := by
  refine ⟨by decide +kernel, by decide +kernel, ?_, ?_, by decide⟩ <;> (unfold Safety.UniqueIds; decide +kernel)

theorem witness_CorrectionFactorIsAsR35 :
    ((1500 : Int) < 1550 ∧ 50 ≤ 1 * ((1550 : Int) - 1500).natAbs) ∧ ((1450 : Int) < 1500 ∧ 50 ≤ 1 * ((1450 : Int) - 1500).natAbs) := by
  decide

/-- A metering state with a low-flow run and a resume volume. -/
def metering (f : FlowState) (pulses low resume : Nat) : State :=
  let s := two .tracking
  { s with mu := { s.mu with
    flowState := f, lowRun := low, resume := resume, inlet := { Meter.zero with pulses := pulses } } }

/-- The bounds, and each flow clause: low flow short of the standstill time and at it, flow, and the resume volume reached and
not; an overrange and a substituted period among them. -/
theorem witness_PeriodCloseMetersBothLines :
    (∀ s ∈ [metering .flowing 0 0 0, metering .flowing 0 59 0, metering .flowing 10001 3 0, metering .standstill 1 0 0,
        metering .standstill 1000 0 999999],
      s.running = true ∧ (∀ m ∈ [MeterId.inlet, .delivery],
        (meterOf s.mu m).gross + (periodRecord s m).1.gross < 2 ^ 64
        ∧ (meterOf s.mu m).std + (periodRecord s m).1.std < 2 ^ 64))
    ∧ pulseLimit tb.params .inlet < 10001 ∧ 0 + 1 < tb.params.standstillTime ∧ tb.params.standstillTime ≤ 59 + 1
    ∧ (after (exec .meterPeriodClose (metering .flowing 0 59 0))).mu.inlet.flow < tb.params.standstillFlow
    ∧ tb.params.standstillFlow ≤ (after (exec .meterPeriodClose (metering .flowing 10001 3 0))).mu.inlet.flow
    ∧ 0 + (after (exec .meterPeriodClose (metering .standstill 1 0 0))).mu.inlet.last.std < tb.params.resumeVolume * 1000
    ∧ tb.params.resumeVolume * 1000
        ≤ 999999 + (after (exec .meterPeriodClose (metering .standstill 1000 0 999999))).mu.inlet.last.std := by
  decide +kernel

theorem witness_StandstillRaisesFarCounts :
    (two .tracking).running = true ∧ (two .tracking).lt.train[1]? = some (back (intf 1400000 .far))
    ∧ (back (intf 1400000 .far)).leading = some (intf 1400000 .far)
    ∧ (back (intf 1400000 .window)).leading = some (intf 1400000 .window) ∧ (intf 1400000 .window).track ≠ .far := by decide

/-- A poll of slot 1 in flight. -/
def polling (p : PollPhase) (x : SlotState) : State :=
  let s := two .tracking
  { s with ip := { s.ip with slots := { s.ip.slots with one := x }, cycle := some ⟨0, .one, p⟩ } }

theorem witness_PollTickAndRequest :
    (two .tracking).running = true ∧ (two .tracking).ip.cycle = none
    ∧ configured ((two .tracking).tables.slots.get .one) = true
    ∧ (∀ j ∈ allSlots, slotNumber j < slotNumber .one → configured ((two .tracking).tables.slots.get j) = false)
    ∧ (∀ j ∈ allSlots, configured (State.reset.tables.slots.get j) = false) ∧ State.reset.ip.cycle = none
    ∧ (polling .sending .start).ip.cycle = some ⟨0, .one, .sending⟩ := by decide +kernel

/-- A response of an address, with a value and a status byte. -/
def response (address : Nat) (v : Int) (status : Byte) : List Byte :=
  let covered := bytesOf 1 address ++ encSigned 4 v ++ [status]
  0x5A#8 :: covered ++ bytesOf 2 (crc16 covered).toNat

/-- A slot that is FAILED with a recovery run. -/
def failedSlot (run : Nat) : SlotState := { SlotState.start with quality := .failed, health := 15, recovery := run }

/-- A slot with a reference for the rate check. -/
def steadySlot : SlotState := { SlotState.start with quality := .good, health := 3, rateRef := some 8350 }

/-- A GOOD response; one SUSPECT by its rate, 201 below the reference; a discarded byte and the first eight bytes of one. -/
theorem witness_GoodResponseIsTaken :
    (∀ x ∈ [SlotState.start, failedSlot 0, failedSlot 9, steadySlot],
      (polling (.waiting 100) x).running = true ∧ (polling (.waiting 100) x).ip.cycle = some ⟨0, .one, .waiting 100⟩
      ∧ (polling (.waiting 100) x).ip.assembled = []
      ∧ judgeResponse tb (tb.slots.get .one) x (response 7 8350 0#8) = .good)
    ∧ judgeResponse tb (tb.slots.get .one) steadySlot (response 7 8149 0#8) = .suspect .rate
    ∧ judgeResponse tb (tb.slots.get .one) { failedSlot 0 with rateRef := some 8350 } (response 7 8149 0#8) = .suspect .rate
    ∧ (failedSlot 0).recovery + 1 < (tb.slots.get .one).recoveryCount
    ∧ (tb.slots.get .one).recoveryCount ≤ (failedSlot 9).recovery + 1
    ∧ (0x33#8 ≠ 0x5A#8 ∧ ((response 7 8350 0#8).take 8).head? = some 0x5A#8 ∧ ((response 7 8350 0#8).take 8).length < 9)
    ∧ (∀ c, (two .tracking).ip.cycle = some c → c.phase = .sending) :=
  ⟨by decide +kernel, by decide +kernel, by decide +kernel, by decide, by decide, by decide +kernel, fun _ h => by cases h⟩

/-- A timeout at its deadline and, one left over, before it; another slot's address; a value outside the range. -/
theorem witness_TimeoutIsAFailedPoll :
    (∀ x ∈ [SlotState.start, steadySlot, { SlotState.start with quality := .held, health := 4 }, failedSlot 1],
      let s := { polling (.waiting 0) x with handed := [.responseTimeout] }
      s.running = true ∧ s.ip.cycle = some ⟨0, .one, .waiting 0⟩ ∧ s.ip.assembled = [] ∧ 0 ≤ s.clock.ms
      ∧ .responseTimeout ∈ s.handed ∧ s.clock.ms < 1 ∧ .responseTimeout ∉ (polling (.waiting 1) x).handed
      ∧ responseShape (response 9 8350 0#8) = true
      ∧ judgeResponse s.tables (s.tables.slots.get .one) x (response 9 8350 0#8) = .frameFault
      ∧ field (response 9 8350 0#8) 1 1 ≠ (s.tables.slots.get .one).address
      ∧ judgeResponse s.tables (s.tables.slots.get .one) x (response 7 20000 0#8) = .dropped .range)
    ∧ 3 + 1 < (tb.slots.get .one).failThreshold ∧ (tb.slots.get .one).failThreshold ≤ 4 + 1 := by decide +kernel

theorem witness_MixFractionIsAsR65 :
    (8350 : Int) ≠ 7480 ∧ ((7480 : Int) < 8350 ∧ (8350 : Int) ≤ 8350) ∧ ((7480 : Int) < 8350 ∧ (7480 : Int) ≤ 7480)
    ∧ ((⟨8350, 7480⟩ : RefPair).ahead < 9000 ∧ (8350 : Int) ≤ 8350) := by decide

/-- A channel state in a state of the unit. -/
def onChannel (ch : Channel) (c : ChannelState) : State :=
  let s := two .tracking
  { s with sd := s.sd.set ch c }

def handOff : HandOff := ⟨8115, .primary, 100, 900, 60000, 30, 970⟩

def watching (m : ChannelMode) : ChannelState :=
  { ChannelState.start m 1380000 with body := List.replicate 5 8350, active := some handOff, pair := some ⟨8350, 7480⟩ }

theorem rounded_example : Safety.RoundedQuotient (8350 + 8350 + 8350 + 8350) 4 8350
    ∧ Safety.RoundedQuotient ((List.replicate 5 (8350 : Int)).sum) (List.replicate 5 (8350 : Int)).length 8350 := by
  unfold Safety.RoundedQuotient
  decide +kernel

/-- A channel in an excursion. -/
def excursed : ChannelState :=
  { ChannelState.start .excursion 1290000 with
    body := List.replicate 5 8350, excursion := some ⟨1290000, 40, none, .none, true⟩ }

/-- OFF; ACQUIRE with three readings, the fourth in band and out of it; CLEAN at the edge of the band and out of it; WATCH just
below fd and at it (a fraction of 29 and of 30). -/
theorem witness_ReadingsMoveTheChannel :
    (two .tracking).running = true ∧ (Safety.Noted (ChannelState.start .off 0) 8350 .good 5).mode = .off
    ∧ (let c := Safety.Noted { ChannelState.start .acquire 0 with acquire := [8350, 8350, 8350] } 8350 .good 5
      c.mode = .acquire ∧ c.acquire = [8350, 8350, 8350] ∧ c.active = none ∧ c.waiting = none
      ∧ Safety.RoundedQuotient (8350 + 8350 + 8350 + 8350) 4 8350
      ∧ ((8350 : Int) - 8350).natAbs ≤ tb.params.bodyBand)
    ∧ Safety.RoundedQuotient (8350 + 8350 + 8350 + 8450) 4 8375 ∧ tb.params.bodyBand < ((8450 : Int) - 8375).natAbs
    ∧ (let c := Safety.Noted { ChannelState.start .clean 0 with body := List.replicate 5 8350 } 8370 .good 5
      c.mode = .clean ∧ c.body ≠ [] ∧ Safety.RoundedQuotient c.body.sum c.body.length 8350
      ∧ ((8370 : Int) - 8350).natAbs ≤ tb.params.bodyBand ∧ tb.params.bodyBand < ((8371 : Int) - 8350).natAbs
      ∧ c.measure = none ∧ 0 < tb.params.holdVolume)
    ∧ (let c := Safety.Noted (watching .watch) 8324 .good 1390000
      c.mode = .watch ∧ c.active = some handOff ∧ c.pair = some ⟨8350, 7480⟩ ∧ c.crossings = .all none)
    ∧ mixFraction ⟨8350, 7480⟩ 8325 = 29 ∧ mixFraction ⟨8350, 7480⟩ 8324 = 30 ∧ handOff.fd = 30 := by
  unfold Safety.RoundedQuotient
  decide +kernel

/-- The channels past WATCH, followed since 1,390,000: fractions on either side of fd and fa less the hysteresis 15, the hold
volume 400, the settle volume 2,000 and the long-mix limit 60,000 a litre short and at their ends. -/
theorem witness_ReadingsPastWatch :
    (∀ m ∈ [ChannelMode.locked, .departing, .mixed, .settling],
      let c := Safety.Noted { watching m with depStart := some 1390000, settleStart := some 1400000 } 8335 .good 1390001
      (onChannel .advance c).running = true ∧ c.mode = m ∧ c.active = some handOff ∧ c.pair = some ⟨8350, 7480⟩
      ∧ c.depStart = some 1390000 ∧ c.settleStart = some 1400000 ∧ c.waiting = none ∧ c.expiryMark = false)
    ∧ mixFraction ⟨8350, 7480⟩ 8338 + tb.params.hysteresis < handOff.fd
    ∧ handOff.fd ≤ mixFraction ⟨8350, 7480⟩ 8337 + tb.params.hysteresis
    ∧ mixFraction ⟨8350, 7480⟩ 7520 + tb.params.hysteresis < handOff.fa
    ∧ handOff.fa ≤ mixFraction ⟨8350, 7480⟩ 7519 + tb.params.hysteresis
    ∧ handOff.fa ≤ mixFraction ⟨8350, 7480⟩ 7506
    ∧ 1390399 < 1390000 + tb.params.holdVolume ∧ 1390000 + tb.params.holdVolume ≤ 1390400
    ∧ 1400000 + tb.params.settleVolume - 1 < 1400000 + tb.params.settleVolume
    ∧ 1450000 ≤ 1390000 + handOff.maxMix ∧ 1390000 + handOff.maxMix < 1450001
    ∧ ({ watching .departing with expiryMark := true } : ChannelState).expiryMark = true
    ∧ (let c := Safety.Noted { excursed with inBand := some 1300000 } 8370 .good 1300001
      c.mode = .excursion ∧ c.excursion = some ⟨1290000, 40, none, .none, true⟩ ∧ c.active = none ∧ c.waiting = none
      ∧ c.body ≠ [] ∧ Safety.RoundedQuotient c.body.sum c.body.length 8350 ∧ 0 < tb.params.settleVolume
      ∧ tb.params.bodyBand < ((8371 : Int) - 8350).natAbs ∧ ((8370 : Int) - 8350).natAbs ≤ tb.params.bodyBand
      ∧ c.inBand = some 1300000 ∧ excursed.inBand = none) := by
  unfold Safety.RoundedQuotient
  decide +kernel

def departing (m : ChannelMode) : ChannelState := { watching m with depStart := some 1390000 }

/-- Each volume one litre short of its end and at it: the hold volume 400, the long mix 60,000. -/
theorem witness_SAdvanceCompletesVolumes :
    (let c := { ChannelState.start .clean 0 with body := List.replicate 5 8350, measure := some ⟨1300000, 8400⟩ };
      c.mode = .clean ∧ c.measure = some ⟨1300000, 8400⟩ ∧ c.excursion = none ∧ c.body ≠ []
      ∧ Safety.RoundedQuotient c.body.sum c.body.length 8350 ∧ (onChannel .advance c).running = true
      ∧ 1300000 + tb.params.holdVolume ≤ 1300400 ∧ 1300399 < 1300000 + tb.params.holdVolume)
    ∧ (∀ m ∈ [ChannelMode.departing, .mixed], (departing m).mode = m ∧ (departing m).active = some handOff
      ∧ handOff.role = .primary ∧ (departing m).depStart = some 1390000)
    ∧ (let c := { departing .settling with settleStart := some 1391000 };
      c.mode = .settling ∧ c.active = some handOff ∧ c.depStart = some 1390000 ∧ c.settleStart = some 1391000
      ∧ c.waiting = none)
    ∧ (excursed.mode = .excursion ∧ excursed.excursion = some ⟨1290000, 40, none, .none, true⟩ ∧ excursed.active = none
      ∧ excursed.waiting = none ∧ (∀ b, excursed.inBand = some b → 1291000 < b + tb.params.settleVolume)
      ∧ (∀ b, ({ excursed with inBand := some 1290000 } : ChannelState).inBand = some b →
          b + tb.params.settleVolume ≤ 1290000 + tb.params.settleVolume))
    ∧ 1390000 + tb.params.holdVolume ≤ 1390400 ∧ 1390399 < 1390000 + tb.params.holdVolume
    ∧ 1390000 + handOff.maxMix < 1450001 ∧ 1450000 ≤ 1390000 + handOff.maxMix := by
  unfold Safety.RoundedQuotient
  refine ⟨by decide +kernel, by decide +kernel, by decide +kernel, ⟨rfl, rfl, rfl, rfl, fun _ h => (by cases h), ?_⟩,
    by decide +kernel, by decide, by decide, by decide⟩
  intro b h
  cases h
  decide

/-- The contrast of the pair is 870; with the entry behind at 8320 it is the least, 30, and at 8321 one below it. A current
reading of fraction 29 and one of 30; none. -/
theorem witness_ChannelTakesAndLosesInterfaces :
    (∀ d ∈ [7480, 8320, 8321], ∀ cur ∈ [none, some (⟨8325, .good, 5⟩ : Reading), some ⟨8324, .good, 5⟩],
      let e := { back (intf 1400000 .window) with density := d }
      let c := { ChannelState.start .clean 0 with body := List.replicate 5 8350, current := cur }
      let s := withTrain [front, e] (onChannel .advance c)
      s.running = true ∧ (s.sd.get .advance).mode = .clean ∧ (s.sd.get .advance).current = cur
      ∧ (s.sd.get .advance).active = none ∧ (s.sd.get .advance).waiting = none
      ∧ findEntry handOff.batch s.lt.train = some e ∧ aheadOf handOff.batch s.lt.train = some front
      ∧ 4 ≤ (s.sd.get .advance).body.length
      ∧ Safety.RoundedQuotient (s.sd.get .advance).body.sum (s.sd.get .advance).body.length 8350
      ∧ holdsPrimary s = false)
    ∧ tb.params.minContrast ≤ ((8320 : Int) - 8350).natAbs ∧ ((8321 : Int) - 8350).natAbs < tb.params.minContrast
    ∧ mixFraction ⟨8350, 7480⟩ 8325 < handOff.fd ∧ handOff.fd ≤ mixFraction ⟨8350, 7480⟩ 8324
    ∧ (∀ m ∈ [ChannelMode.watch, .locked, .departing, .mixed, .settling], (onChannel .advance (watching m)).running = true
      ∧ ((onChannel .advance (watching m)).sd.get .advance).mode = m
      ∧ ((onChannel .advance (watching m)).sd.get .advance).active = some handOff ∧ handOff.role = .primary
      ∧ ((onChannel .advance (watching m)).sd.get .advance).waiting = none
      ∧ ((onChannel .advance (watching m)).sd.get .advance).excursion = none)
    ∧ (∀ m ∈ [ChannelMode.acquire, .excursion, .off, .mixed, .settling], ∀ w ∈ [none, some handOff],
      let s := onChannel .advance { ChannelState.start m 0 with waiting := w }
      s.running = true ∧ (s.sd.get .advance).mode = m ∧ (s.sd.get .advance).active = none
      ∧ (s.sd.get .advance).waiting = w ∧ holdsPrimary s = false) := by
  unfold Safety.RoundedQuotient
  decide +kernel

/-- An interface confirmed on MANIFOLD, which another PRIMARY one replaces: followed or waiting, its record open or judged. -/
def judged : HandOff := { handOff with batch := 8114, role := .confirming }

def onManifold (m : ChannelMode) (active waiting : Option HandOff) (k : Option ConfirmRecord) : State :=
  let s := onChannel .manifold { watching m with active := active, waiting := waiting }
  { s with lt := { s.lt with confirm := k } }

theorem witness_PrimaryReplaces :
    (∀ k ∈ [none, some (⟨8114, 0, 5, 10, false, false⟩ : ConfirmRecord)],
      (∀ m ∈ [ChannelMode.watch, .locked, .departing, .mixed, .settling], let s := onManifold m (some judged) none k
        s.running = true ∧ s.sd.manifold.mode = m ∧ s.sd.manifold.active = some judged ∧ s.sd.manifold.waiting = none
        ∧ s.lt.confirm = k ∧ findEntry handOff.batch s.lt.train = some (back (intf 1400000 .far))
        ∧ aheadOf handOff.batch s.lt.train = some front ∧ 4 ≤ s.sd.manifold.body.length
        ∧ Safety.RoundedQuotient s.sd.manifold.body.sum s.sd.manifold.body.length 8350)
      ∧ (∀ m ∈ [ChannelMode.acquire, .excursion, .mixed, .settling], let s := onManifold m none (some judged) k
        s.running = true ∧ s.sd.manifold.mode = m ∧ s.sd.manifold.active = none
        ∧ s.sd.manifold.waiting = some judged ∧ s.lt.confirm = k))
    ∧ handOff.role = .primary ∧ judged.role = .confirming := by
  unfold Safety.RoundedQuotient
  decide +kernel

/-- The ADVANCE channel in MIXED or SETTLING with the interface of 8115 ANCHORED, its h crossing recorded or not. -/
def midzone (m : ChannelMode) (h : Option Nat) : State :=
  withTrain [front, back { intf 1400000 .anchored with snapshot := some (snap .transmix .advance), crossings := ⟨h, none, none⟩ }]
    (onChannel .advance (watching m))

theorem witness_LosesItsSlot :
    (∀ m ∈ [ChannelMode.mixed, .settling], ∀ h ∈ [none, some 1380000], let s := midzone m h
      let j := { intf 1400000 .anchored with snapshot := some (snap .transmix .advance), crossings := ⟨h, none, none⟩ }
      s.running = true ∧ (s.sd.get .advance).mode = m ∧ (s.sd.get .advance).active = some handOff
      ∧ (s.sd.get .advance).waiting = none ∧ (s.sd.get .advance).excursion = none ∧ handOff.role = .primary
      ∧ interfaceOf handOff.batch s.lt.train = some j ∧ j.track = .anchored ∧ j.snapshot = some (snap .transmix .advance)
      ∧ (snap .transmix .advance).primary = some .advance)
    ∧ primaryOf (midzone .mixed none) handOff.batch ≠ some .manifold := by decide +kernel

/-- The train of section 5.8 with the density of the batch behind. -/
def approach (density : Nat) : State :=
  withTrain [front, { back { intf 86650000 .far with standstills := 2 } with density := density }] window58

/-- The same with the two channels as given. -/
def seeing (s : State) (adv man : ChannelState) : State := { s with sd := ⟨adv, man⟩ }

/-- Each channel CLEAN, in ACQUIRE and OFF, with 4 readings and without; the edges of the halfwidth 29,800, on ADVANCE and a
lead volume later on MANIFOLD: one litre short, at each edge and past it; the least contrast and one below it. -/
theorem witness_SAdvanceOpensTheWindow :
    (∀ d ∈ [8320, 8321], ∀ m ∈ [ChannelMode.clean, .acquire, .off], ∀ n ∈ [ChannelMode.clean, .acquire, .off],
      ∀ b ∈ [List.replicate 4 (8350 : Int), []],
      let i := { intf 86650000 .far with standstills := 2 }
      let e := { back i with density := d }
      let s := seeing (approach d) { ChannelState.start m 0 with body := b } { ChannelState.start n 0 with body := b }
      s.running = true ∧ s.lt.train = [front, e] ∧ front.leading = none ∧ front.complete = false ∧ front.id ≠ e.id
      ∧ e.leading = some i ∧ s.lt.window = none ∧ s.lt.confirm = none ∧ Safety.Halfwidth s front e i = 29800
      ∧ (s.sd.get .advance).mode = m ∧ (s.sd.get .manifold).mode = n ∧ (s.sd.get .advance).body = b
      ∧ (s.sd.get .manifold).body = b)
    ∧ Safety.RoundedQuotient (List.replicate 4 (8350 : Int)).sum (List.replicate 4 (8350 : Int)).length 8350
    ∧ front.density = 8350
    ∧ 86620199 + 29800 < 86650000 ∧ 86650000 ≤ 86620200 + 29800 ∧ 86679800 ≤ 86650000 + 29800
    ∧ 86650000 + 29800 < 86679801
    ∧ tb.params.leadVolume = 400000 ∧ 87020199 + 29800 < 87050000 ∧ 87050000 ≤ 87020200 + 29800
    ∧ 87079800 ≤ 87050000 + 29800 ∧ 87050000 + 29800 < 87079801
    ∧ tb.params.minContrast ≤ ((8320 : Int) - 8350).natAbs ∧ ((8321 : Int) - 8350).natAbs < tb.params.minContrast := by
  unfold Safety.RoundedQuotient
  decide +kernel

def sealed (tr : TrackState) : Interface :=
  { intf 1400000 tr with
    snapshot := some (snap .transmix .advance), method := some .advance, mfResult := some .confirmed }

/-- Two entries, the interface anchored at 1,400,000, S one litre short of the clear point or at it. -/
def clearing (now : Nat) (tickets : List Ticket) : State :=
  let s := withTrain [front, back (sealed .anchored)] (base .tracking)
  { s with lt := { s.lt with curS := now }, ts := tickets }

theorem witness_CompletionAtEachOfItsEvents :
    (∀ now ∈ [1811999, 1812000], ∀ ts ∈ [[], (List.range 31).map ticket, (List.range 32).map ticket],
      (clearing now ts).running = true ∧ (clearing now ts).lt.train = [front, back (sealed .anchored)]
      ∧ front.complete = false ∧ (back (sealed .anchored)).complete = false ∧ front.id ≠ (back (sealed .anchored)).id
      ∧ (back (sealed .anchored)).leading = some (sealed .anchored)
      ∧ ((sealed .anchored).track = .anchored ∨ (sealed .anchored).track = .volumetric)
      ∧ (sealed .anchored).snapshot = some (snap .transmix .advance) ∧ now = (clearing now ts).lt.curS
      ∧ (clearing now ts).lt.window = none ∧ (clearing now ts).lt.confirm = none ∧ front.leading = none
      ∧ (sealed .anchored).mfResult.isSome)
    ∧ (let s := clearing 1812000 []
      (sealed .anchored).pos + s.tables.params.leadVolume + (snap .transmix .advance).mix / 2 ≤ 1812000
      ∧ ¬(sealed .anchored).pos + s.tables.params.leadVolume + (snap .transmix .advance).mix / 2 ≤ 1811999
      ∧ (∀ a ∈ s.cp.actions, a.subject = 8115 → a.kind ≠ .divert ∧ a.kind ≠ .enter) ∧ s.rc.switching = none
      ∧ s.ts.length < 32)
    ∧ 32 ≤ ((List.range 32).map ticket).length := by
  decide +kernel

theorem witness_AnchoredPositionIsAsR17 :
    ((1400000 : Nat) : Int) < 1400001 ∧ (1400000 : Int) ≤ ((1400000 : Nat) : Int)
    ∧ ((1400000 : Nat) : Int) < 1800001 - (tb.params.leadVolume : Nat)
    ∧ (1800000 - (tb.params.leadVolume : Nat) : Int) ≤ ((1400000 : Nat) : Int) := by decide

/-- The interface in a track state with its snapshot, followed by the ADVANCE channel in its window. -/
def inWindow (lost : Bool) : State :=
  let s := withTrain [front, back (sealed .window)] (base .tracking)
  { s with lt := { s.lt with curS := 1420000, window := some ⟨8115, .advance, 1380000, 1420000, lost, false⟩ } }

theorem unique_pair (i : Interface) (m : StationMode) : Safety.UniqueIds (withTrain [front, back i] (base m)) := by
  unfold Safety.UniqueIds
  simp [withTrain, base, front, back, entry, State.reset]

theorem witness_AnchorPlacesTheInterface :
    (two .tracking).running = true ∧ Safety.UniqueIds (two .tracking)
    ∧ aheadOf 8115 (two .tracking).lt.train = some front
    ∧ interfaceOf 8115 (two .tracking).lt.train = some (intf 1400000 .far) ∧ behindOf 8115 (two .tracking).lt.train = none
    ∧ interfaceOf 8115 (inWindow false).lt.train = some (sealed .window)
    ∧ interfaceOf 8115 (clearing 0 []).lt.train = some (sealed .anchored)
    ∧ ((sealed .anchored).track ≠ .far ∧ (sealed .anchored).track ≠ .window) :=
  ⟨by decide, two_unique _, by decide, by decide, by decide, by decide, by decide, by decide⟩

theorem witness_ChannelReportsReachTheWindow :
    (∀ lost ∈ [true, false], (inWindow lost).running = true
      ∧ interfaceOf 8115 (inWindow lost).lt.train = some (sealed .window)
      ∧ (inWindow lost).lt.window = some ⟨8115, .advance, 1380000, 1420000, lost, false⟩
      ∧ (sealed .window).snapshot = some (snap .transmix .advance) ∧ (sealed .window).track = .window
      ∧ (inWindow lost).lt.confirm = none ∧ ((inWindow lost).lt.curS : Int) ≤ 1420000)
    ∧ Safety.UniqueIds (inWindow true) ∧ Safety.UniqueIds (inWindow false)
    ∧ (sealed .window).snapshot.bind (·.primary) = some .advance ∧ (sealed .window).crossings.get .h = none :=
  ⟨by decide +kernel, unique_pair (sealed .window) .tracking, unique_pair (sealed .window) .tracking, by decide, by decide⟩

/-- The interface is followed by the MANIFOLD channel as CONFIRMING, or its confirmation is to open. -/
def confirming (c : Option ConfirmRecord) (now : Nat) : State :=
  let s := withTrain [front, back { sealed .anchored with mfResult := none }] (base .tracking)
  { s with
    lt := { s.lt with curS := now, confirm := c }
    sd := { s.sd with manifold := ChannelState.start .clean now }
    handed := [.manifoldPrimaryCeased] }

/-- A departure at the tolerance, one past it and one earlier than it; S at both edges and one litre below the lower. -/
theorem witness_ConfirmationIsJudged :
    (let k : ConfirmRecord := ⟨8115, 1783000, 1817000, 5000, false, false⟩;
      let s := confirming (some k) 1790000
      s.running = true ∧ s.lt.confirm = some k ∧ s.lt.window = none
      ∧ interfaceOf 8115 s.lt.train = some { sealed .anchored with mfResult := none }
      ∧ ((1805000 : Int) - 1800000).natAbs ≤ k.tolerance ∧ ¬((1805001 : Int) - 1800000).natAbs ≤ k.tolerance
      ∧ (1794999 : Int) - 1800000 < -(k.tolerance : Int))
    ∧ Safety.UniqueIds (withTrain [front, back { sealed .anchored with mfResult := none }] (base .tracking))
    ∧ (∀ now ∈ [1783000, 1817000, 1782999], (confirming none now).running = true ∧ (confirming none now).lt.confirm = none
      ∧ confirmCandidate (confirming none now).lt.train = some (8115, 1400000, snap .transmix .advance)
      ∧ (confirming none now).handed = [.manifoldPrimaryCeased] ∧ ((confirming none now).sd.get .manifold).mode ≠ .off
      ∧ holdsPrimary (confirming none now) = false)
    ∧ (1400000 : Int) + tb.params.leadVolume - (tb.params.confirmTolerance + 24000 / 2 : Nat) = 1783000
    ∧ (1400000 : Int) + tb.params.leadVolume + (tb.params.confirmTolerance + 24000 / 2 : Nat) = 1817000 := by
  refine ⟨by decide +kernel, unique_pair _ .tracking, by decide +kernel, by decide, by decide⟩

/-- The interface with a rule, its action list and the Cut Planner's S. -/
def cutting (rule : PairRule) (actions : List Action) (now : Nat) : State :=
  let s := withTrain [front, back { sealed .anchored with snapshot := some (snap rule .advance) }] (base .tracking)
  { s with cp := { s.cp with actions := actions, curS := now } }

def action (number subject : Nat) (kind : ActionKind) (trigger : Int) (l : LineupOf) : Action :=
  ⟨number, kind, subject, trigger, l, [], .none, none⟩

/-- The trigger 1,800,000 one litre ahead of S and at it, the list empty and full; and each rule without transmix. -/
theorem witness_CrossingsAndPointsBecomeActions :
    (∀ rule ∈ [PairRule.transmix, .toBehind, .split, .toAhead],
      ∀ l ∈ [[], List.replicate 16 (action 1 8115 .divert 1900000 .transmix)],
      let i := { sealed .anchored with snapshot := some (snap rule .advance) }
      let s := cutting rule l 1799999
      s.running = true ∧ s.sm.mode ≠ .unconfigured ∧ findEntry 8115 s.lt.train = some (back i) ∧ (back i).leading = some i
      ∧ i.snapshot = some (snap rule .advance) ∧ (snap rule .advance).primary = some .advance
      ∧ aheadOf 8115 s.lt.train = some front ∧ front.inherited = true ∧ (back i).protectStands = false
      ∧ (snap rule .advance).rule = rule ∧ firstTransmix s.tables = some .r2 ∧ throughRoute s.tables = some .r1
      ∧ (snap rule .advance).dispBehind = .pass ∧ behindOf 8115 s.lt.train = none
      ∧ (s.cp.curS : Int) < (1400000 : Int) + s.tables.params.leadVolume - compensation s [.r2]
      ∧ (s.cp.curS : Int) < (1400000 : Int) + s.tables.params.leadVolume - compensation s [.r1]
      ∧ (1400000 : Int) + s.tables.params.leadVolume - compensation s [.r2] ≤ ((cutting rule l 1800000).cp.curS : Int)
      ∧ (l = [] ∨ 16 ≤ l.length))
    ∧ (∀ rule, Safety.UniqueIds (cutting rule [] 1799999)) :=
  ⟨by decide +kernel, fun rule => unique_pair { sealed .anchored with snapshot := some (snap rule .advance) } .tracking⟩

/-- A TAKE and a STRIP of the batch behind, before and after its strip mark, and TRANSMIX_ALL. -/
theorem witness_BodyRoutes :
    Safety.BodyRoutes tb (back (sealed .anchored)) (.take .r3) [.r3]
    ∧ Safety.BodyRoutes tb (back (sealed .anchored)) (.strip .r3 100) [.r1, .r3]
    ∧ Safety.BodyRoutes tb { back (sealed .anchored) with stripMark := true } (.strip .r3 100) [.r1]
    ∧ Safety.BodyRoutes tb (back (sealed .anchored)) .transmixAll [.r2] :=
  ⟨⟨by decide +kernel, rfl⟩, ⟨by decide +kernel, .r1, by decide +kernel, rfl⟩,
    ⟨by decide +kernel, .r1, by decide +kernel, rfl⟩, .r2, by decide +kernel, rfl⟩

/-- The interface of 8115 with its DIVERT scheduled, and 8116 behind it, whose first action is scheduled at 1,805,000 or one
litre short of it, as a DIVERT in the list or gone from it. -/
def entering (y : Int) (actions : List Action) : State :=
  withTrain [front, { back { sealed .anchored with snapshot := some (snap .transmix .advance) } with firstTrigger := some 5 },
    { entry 8116 1 8350 none (some (intf 2600000 .anchored)) with firstTrigger := some y }] (cutting .transmix actions 1799999)

theorem witness_EnterMerges :
    (∀ y ∈ [(1805000 : Int), 1804999], ∀ l ∈ [[], [action 1 8116 .divert 1805000 .transmix]],
      let s := entering y l
      let e := { back { sealed .anchored with snapshot := some (snap .transmix .advance) } with firstTrigger := some 5 }
      s.running = true ∧ s.sm.mode ≠ .unconfigured ∧ findEntry 8115 s.lt.train = some e ∧ e.inherited = false
      ∧ e.measured = false ∧ e.complete = false ∧ (behindOf 8115 s.lt.train).map (·.firstTrigger) = some (some y)
      ∧ e.firstTrigger ≠ none ∧ aheadOf 8115 s.lt.train = some front ∧ firstTransmix s.tables = some .r2 ∧ s.cp.actions = l
      ∧ (s.cp.curS : Int) < 1400000 + s.tables.params.leadVolume - compensation s [.r1] ∧ s.cp.actions.length < 16)
    ∧ Safety.BodyRoutes tb (back (sealed .anchored)) (snap .transmix .advance).dispBehind [.r1]
    ∧ (1804999 : Int) - 1800000 < tb.params.minClean ∧ (tb.params.minClean : Int) ≤ 1805000 - 1800000 :=
  ⟨by decide +kernel, ⟨.r1, by decide +kernel, rfl⟩, by decide +kernel⟩

/-- The interface behind a batch entered at 1,795,000 or 1,795,001, whose ENTER stands in the list or not. -/
def short (x : Int) (actions : List Action) : State :=
  withTrain [{ front with inherited := false, enterTrigger := some x },
    back { sealed .anchored with snapshot := some (snap .transmix .advance) }] (cutting .transmix actions 1799999)

/-- The clean volume at the minimum of 5,000 L and one litre below it. -/
theorem witness_ShortBatchMerges :
    (∀ x ∈ [(1795000 : Int), 1795001], ∀ l ∈ [[], [action 1 8114 .enter 1795000 (.bodyOf 8114)]],
      let a := { front with inherited := false, enterTrigger := some x }
      let s := short x l
      s.running = true ∧ findEntry 8115 s.lt.train = some (back { sealed .anchored with snapshot := some (snap .transmix .advance) })
      ∧ aheadOf 8115 s.lt.train = some a ∧ a.measured = false ∧ a.complete = false ∧ (back (sealed .anchored)).firstTrigger = none
      ∧ (snap .transmix .advance).rule = .transmix ∧ firstTransmix s.tables = some .r2 ∧ s.cp.actions = l
      ∧ (s.cp.curS : Int) < 1400000 + s.tables.params.leadVolume - compensation s [.r2] ∧ s.cp.actions.length < 16
      ∧ (∀ y ∈ s.cp.actions, ¬(y.kind = .divert ∧ y.subject = 8115)))
    ∧ 1400000 + (tb.params.leadVolume : Int) - compensation (short 0 []) [.r2] - 1795001 < tb.params.minClean
    ∧ (tb.params.minClean : Int) ≤ 1400000 + (tb.params.leadVolume : Int) - compensation (short 0 []) [.r2] - 1795000 := by
  decide +kernel

/-- A DIVERT and an ENTER at their trigger and one litre ahead of it, with and without a TRANSMIX route. -/
theorem witness_ActionsFallDue :
    (∀ a ∈ [action 1 8115 .divert 1800000 .transmix, action 2 8114 .enter 1800000 (.bodyOf 8114)],
      let s := cutting .transmix [a, action 3 8115 .divert 1800001 .transmix] 1700000
      s.running = true ∧ s.cp.actions = [a, action 3 8115 .divert 1800001 .transmix] ∧ a.trigger ≤ (1800000 : Nat)
      ∧ (∀ b ∈ [action 3 8115 .divert 1800001 .transmix], ((1800000 : Nat) : Int) < b.trigger)
      ∧ (∀ b ∈ s.cp.actions, ((1799999 : Nat) : Int) < b.trigger) ∧ a.subject ≠ 0)
    ∧ Safety.Ordered (cutting .transmix
        [action 1 8115 .divert 1800000 .transmix, action 3 8115 .divert 1800001 .transmix] 1700000)
    ∧ firstTransmix tb = some .r2 ∧ firstTransmix { tb with routes := { tb.routes with r2 := none } } = none
    ∧ findEntry 8114 (cutting .transmix [] 0).lt.train = some front ∧ throughRoute tb = some .r1
    ∧ (let e := { front with disposition := some .pass };
      let s := withTrain [e, back (sealed .anchored)] (cutting .transmix [] 0)
      findEntry 8114 s.lt.train = some e ∧ governing s.tables s.lt.train e = .pass)
    ∧ belongs 8115 (action 1 8115 .divert 1800000 .transmix) = true
    ∧ (back (sealed .anchored)).firstLeft = false ∧ ({ back (sealed .anchored) with firstLeft := true } : Entry).firstLeft = true := by
  unfold Safety.Ordered
  decide +kernel

/-- A PROTECT or RETURN alone in the list, with the counts of protections outstanding and a plan line-up. -/
def guarded (a : Action) (n : Nat) (p : Option Plan) (t : List Entry) : State :=
  let s := withTrain t (cutting .transmix [a] 1700000)
  { s with cp := { s.cp with plan := p, protectCount := ⟨n, 0⟩ } }

/-- A PROTECT and a RETURN of ADVANCE at their trigger, with each kind of plan line-up, one protection or two, and with the
train empty. -/
theorem witness_ProtectionFallsDue :
    (∀ a ∈ [{ action 1 0 .protect 1800000 .transmix with channel := some .advance },
        { action 2 0 .return_ 1800000 .bodyOfManifold with channel := some .advance }],
      ∀ n ∈ [1, 2], ∀ p ∈ [none, some (⟨[.r1], 8114, .body⟩ : Plan), some ⟨[.r2], 8114, .protect⟩, some ⟨[.r2], 8115, .transmix⟩],
      ∀ t ∈ [[], [{ front with disposition := some .pass }]],
      (guarded a n p t).running = true ∧ (guarded a n p t).cp.actions = [a] ∧ a.trigger ≤ (1800000 : Nat) ∧ a.subject = 0
      ∧ (guarded a n p t).cp.plan = p ∧ manifoldOf (guarded a n p t).lt.train = t.head?
      ∧ firstTransmix (guarded a n p t).tables = some .r2
      ∧ ((guarded a n p t).cp.protectCount.advance + (guarded a n p t).cp.protectCount.manifold
          = min ((guarded a n p t).cp.protectCount.get .advance) (1 + (guarded a n p t).cp.orphans.get .advance) ↔ n = 1)
      ∧ Safety.UniqueIds (guarded a n p t)
      ∧ (t ≠ [] → governing (guarded a n p t).tables (guarded a n p t).lt.train { front with disposition := some .pass } = .pass))
    ∧ Safety.BodyRoutes tb front .pass [.r1] :=
  ⟨by unfold Safety.UniqueIds; decide +kernel, .r1, by decide +kernel, rfl⟩

/-- An excursion from 1,350,000, the Cut Planner's S one litre short of the trigger. -/
def afterExcursion (ch : Channel) : State := { excursion ch .tracking with cp := { CutPlanner.cold with curS := 1749999 } }

/-- The same, protected. -/
def protectedOf (ch : Channel) : State :=
  { afterExcursion ch with cp := { (afterExcursion ch).cp with protectedMark := (PerChannel.all none).set ch (some ⟨1, 1750000⟩) } }

theorem witness_ExcursionsAreProtected :
    (∀ ch ∈ [Channel.advance, .manifold], (afterExcursion ch).running = true ∧ (afterExcursion ch).sm.mode ≠ .unconfigured
      ∧ firstTransmix (afterExcursion ch).tables = some .r2
      ∧ ((afterExcursion ch).sd.get ch).excursion.map (fun x => (x.start, x.isOpen)) = some (1350000, true)
      ∧ (afterExcursion ch).cp.protectedMark.get ch = none ∧ manifoldOf (afterExcursion ch).lt.train = some front
      ∧ (afterExcursion ch).cp.plan = none)
    ∧ ((afterExcursion .advance).cp.curS : Int)
        < (1350000 : Int) + (afterExcursion .advance).tables.params.leadVolume - compensation (afterExcursion .advance) [.r2]
    ∧ (afterExcursion .advance).cp.actions.length < 16
    ∧ (protectedOf .advance).running = true ∧ (protectedOf .advance).cp.protectedMark.advance.isSome
    ∧ ((protectedOf .advance).cp.curS : Int) < (1350000 : Int) + (protectedOf .advance).tables.params.leadVolume
        - compensation (protectedOf .advance) (formLineup (protectedOf .advance) .bodyOfManifold)
    ∧ firstTransmix State.reset.tables = none
    ∧ (let s := { afterExcursion .advance with tables := { tb with routes := { tb.routes with r2 := none } } };
      s.running = true ∧ s.sm.mode ≠ .unconfigured ∧ firstTransmix s.tables = none) := by decide +kernel

/-- The manifold batch with a STRIP of 1,000 L to route 3, of which a volume has been taken. -/
def stripping (ml : Nat) (m : StationMode) (plan : Option Plan) : State :=
  let e := { front with
    disposition := some (.strip .r3 1000), delivery := { Delivery.empty with routes := { PerRoute.all 0 with r3 := ml } } }
  let s := withTrain [e] (base m)
  { s with cp := { s.cp with plan := plan } }

/-- One millilitre short of the strip volume and at it, in HOLD with the body line-up and in TRACKING without one. -/
theorem witness_StripEndsAtItsVolume :
    (∀ ml ∈ [999999, 1000000], ∀ p ∈ [none, some (⟨[.r1, .r3], 8114, .body⟩ : Plan)], ∀ m ∈ [StationMode.hold, .tracking],
      let s := stripping ml m p
      s.running = true ∧ Safety.UniqueIds s ∧ s.cp.plan = p
      ∧ (∃ e ∈ s.lt.train, manifoldOf s.lt.train = some e ∧ governing s.tables s.lt.train e = .strip .r3 1000
        ∧ e.stripMark = false ∧ e.delivery.routes.get .r3 = ml)
      ∧ throughRoute s.tables = some .r1)
    ∧ 1000 * 1000 ≤ 1000000 ∧ 999999 < 1000 * 1000
    ∧ governing tb [{ front with disposition := some .pass }] { front with disposition := some .pass } = .pass := by
  unfold Safety.UniqueIds
  decide +kernel

/-- A unit without power, with RSTIN, in a start, or with a requested start. -/
theorem witness_PowerResetAndRequestsTakeStarts :
    ({ base .hold with powered := false } : State).powered = false ∧ (base .hold).powered = true
    ∧ (base .hold).rstin = false ∧ (base .hold).running = true ∧ (base .hold).sm.mode = .hold
    ∧ (base .tracking).running = true ∧ (base .tracking).sm.mode ≠ .hold ∧ (base .tracking).sm.mode ≠ .unconfigured
    ∧ (let s := after (exec .rstinAsserted (base .hold))
      s.powered = true ∧ s.rstin = true ∧ s.sm.starting = true)
    ∧ (let s := after (exec .warmStart (base .hold))
      s.running = true ∧ s.sm.requested = some .warm)
    ∧ (base .hold).sm.requested = none := by decide +kernel

theorem witness_StartEndOpensTheWork :
    (∀ m ∈ [StationMode.hold, .unconfigured],
      let s := { base m with sm := { (base m).sm with starting := true } }
      s.powered = true ∧ s.rstin = false ∧ s.sm.starting = true ∧ s.sm.mode = m
      ∧ s.rc.valves.get .r1 = some ⟨.opened, 0, none, 0, 0⟩)
    ∧ (v2 .hold .lockedOut ⟨false, true⟩).rc.valves.get .r2 = some ⟨.lockedOut, 0, none, 0, 0⟩
    ∧ (base .hold).powered = true ∧ (base .hold).rstin = false ∧ (base .hold).sm.starting = false := by decide +kernel

end Sys2Proof.Tests
end

section
/-! The anchored position (R17). -/
namespace Sys2Proof.Proofs.Anchors

open Sys2Proof Sys2Proof.Machine

/-- R17: the position the anchor value points at, before its lower limit; signed, as the lead volume may exceed it. -/
def sightedPosition (tb : Tables) : AnchorSource → Int → Int
  | .advance, a => a
  | .host, a => a
  | .manifold, a => a - tb.params.leadVolume

theorem anchoredPosition_eq_ite (tb : Tables) (src : AnchorSource) (a : Int) (ref : Nat) :
    anchoredPosition tb src a ref =
      if sightedPosition tb src a ≤ ref then ref + 1 else (sightedPosition tb src a).toNat := by
  cases src <;> rfl

/-- R17's lower limit: the sighted position, raised to one past the reference position of the entry ahead. -/
theorem anchoredPosition_eq_max (tb : Tables) (src : AnchorSource) (a : Int) (ref : Nat) :
    (anchoredPosition tb src a ref : Int) = max (sightedPosition tb src a) (ref + 1) := by
  rw [anchoredPosition_eq_ite]
  split <;> omega

theorem anchoredPosition_of_gt {tb : Tables} {src : AnchorSource} {a : Int} {ref : Nat}
    (h : (ref : Int) < sightedPosition tb src a) :
    (anchoredPosition tb src a ref : Int) = sightedPosition tb src a := by
  rw [anchoredPosition_eq_max, max_eq_left (Int.add_one_le_of_lt h)]

theorem anchoredPosition_of_le {tb : Tables} {src : AnchorSource} {a : Int} {ref : Nat}
    (h : sightedPosition tb src a ≤ ref) : anchoredPosition tb src a ref = ref + 1 := by
  have hmax := anchoredPosition_eq_max tb src a ref
  rw [max_eq_right (by omega)] at hmax
  exact_mod_cast hmax

/-- What keeps positions strictly increasing along the train (R6). -/
theorem reference_lt_anchoredPosition (tb : Tables) (src : AnchorSource) (a : Int) (ref : Nat) :
    ref < anchoredPosition tb src a ref := by
  have hmax := anchoredPosition_eq_max tb src a ref
  have hlimit := le_max_right (sightedPosition tb src a) ((ref : Int) + 1)
  omega

/-- Settles O51: each source's sighted position, under R17's lower limit. -/
theorem anchoredPositionIsAsR17 : Obligations.AnchoredPositionIsAsR17 := by
  intro tb src a ref x
  have hx : x = sightedPosition tb src a := by cases src <;> rfl
  rw [hx]
  exact ⟨anchoredPosition_of_gt, anchoredPosition_of_le, reference_lt_anchoredPosition tb src a ref⟩

end Sys2Proof.Proofs.Anchors
end

section
/-! Rounding to nearest (00_scope.md, "Rounding") and the correction factor (R35). -/
namespace Sys2Proof.Proofs.CorrectionFactor

open Sys2Proof Sys2Proof.Machine

/-! ### The rounded quotient -/

/-- The quotient of the magnitudes that `roundDiv` gives a sign to. -/
def nearestQuotient (m n : Nat) : Nat := (2 * m + n) / (2 * n)

theorem roundDiv_eq_ite (a b : Int) :
    roundDiv a b = if (0 ≤ a ∧ 0 ≤ b) ∨ (a < 0 ∧ b < 0) then (nearestQuotient a.natAbs b.natAbs : Int)
      else -(nearestQuotient a.natAbs b.natAbs : Int) := rfl

/-- The product may exceed the dividend by exactly half the divisor, but never falls short of it by so much: a half rounds
up. -/
theorem nearestQuotient_bounds (m : Nat) {n : Nat} (hn : 0 < n) :
    2 * (n * nearestQuotient m n) ≤ 2 * m + n ∧ 2 * m < 2 * (n * nearestQuotient m n) + n := by
  have hdiv := Nat.div_add_mod (2 * m + n) (2 * n)
  have hmod := Nat.mod_lt (2 * m + n) (show 0 < 2 * n by omega)
  rw [Nat.mul_assoc] at hdiv
  change 2 * (n * nearestQuotient m n) + _ = _ at hdiv
  omega

/-- The magnitude decides: the signs of the product and of the dividend agree. -/
theorem mul_roundDiv {a b : Int} (hb : b ≠ 0) :
    b * roundDiv a b = if 0 ≤ a then ((b.natAbs * nearestQuotient a.natAbs b.natAbs : Nat) : Int)
      else -((b.natAbs * nearestQuotient a.natAbs b.natAbs : Nat) : Int) := by
  rw [roundDiv_eq_ite]
  generalize nearestQuotient a.natAbs b.natAbs = q
  push_cast
  rcases lt_or_gt_of_ne hb with hneg | hpos
  · rw [abs_of_neg hneg]
    by_cases ha : 0 ≤ a
    · rw [if_neg (by omega), if_pos ha, mul_neg, neg_mul]
    · rw [if_pos (by omega), if_neg ha, neg_mul, neg_neg]
  · rw [abs_of_pos hpos]
    by_cases ha : 0 ≤ a
    · rw [if_pos (by omega), if_pos ha]
    · rw [if_neg (by omega), if_neg ha, mul_neg]

/-- 00_scope.md, "Rounding": the model's division is to nearest, halves away from zero. -/
theorem roundedQuotient_roundDiv (a : Int) {b : Int} (hb : b ≠ 0) : Safety.RoundedQuotient a b (roundDiv a b) := by
  obtain ⟨hlow, hhigh⟩ := nearestQuotient_bounds a.natAbs (Int.natAbs_pos.mpr hb)
  unfold Safety.RoundedQuotient
  rw [mul_roundDiv hb]
  split <;> omega

section
variable {a b q : Int}

theorem roundedQuotient_neg (h : Safety.RoundedQuotient a b q) : Safety.RoundedQuotient (-a) b (-q) := by
  unfold Safety.RoundedQuotient at *
  rw [mul_neg]
  omega

/-- A negative quotient would miss a dividend at or above 0 by a whole divisor. -/
theorem roundedQuotient_nonneg (h : Safety.RoundedQuotient a b q) (hb : 0 < b) (ha : 0 ≤ a) : 0 ≤ q := by
  obtain ⟨hnear, -⟩ := h
  by_contra hq
  have hmul : b * q ≤ b * (-1) := Int.mul_le_mul_of_nonneg_left (by omega) hb.le
  omega

/-- From half a divisor on, the half included, the quotient is above 0. -/
theorem roundedQuotient_pos (h : Safety.RoundedQuotient a b q) (hb : 0 < b) (ha : b ≤ 2 * a) : 0 < q := by
  obtain ⟨hnear, hhalf⟩ := h
  by_contra hq
  have hmul : b * q ≤ 0 := Int.mul_nonpos_of_nonneg_of_nonpos hb.le (by omega)
  omega

theorem roundedQuotient_nonpos (h : Safety.RoundedQuotient a b q) (hb : 0 < b) (ha : a ≤ 0) : q ≤ 0 := by
  have hneg := roundedQuotient_nonneg (roundedQuotient_neg h) hb (by omega)
  omega

theorem roundedQuotient_lt_zero (h : Safety.RoundedQuotient a b q) (hb : 0 < b) (ha : b ≤ -(2 * a)) : q < 0 := by
  have hneg := roundedQuotient_pos (roundedQuotient_neg h) hb (by omega)
  omega

end

/-! ### The correction factor -/

theorem clampNat_cast (lo hi : Nat) (x : Int) : (clampNat lo hi x : Int) = max (lo : Int) (min (hi : Int) x) := by
  unfold clampNat clampInt
  omega

/-- R35's steps 1 and 2: the correction term in ppm. -/
def correctionTerm (α : Nat) (T : Int) : Int := roundDiv ((α : Int) * (T - 1500)) 100

theorem correctionTerm_rounded (α : Nat) (T : Int) :
    Safety.RoundedQuotient ((α : Int) * (T - 1500)) 100 (correctionTerm α T) :=
  roundedQuotient_roundDiv _ (by decide)

/-- R35's steps 3 and 4. -/
theorem correctionFactor_cast (α : Nat) (T : Int) :
    (correctionFactor α T : Int) = max 900000 (min 1100000 (1000000 - correctionTerm α T)) :=
  clampNat_cast 900000 1100000 _

theorem correctionTerm_nonneg (α : Nat) {T : Int} (hT : 1500 < T) : 0 ≤ correctionTerm α T :=
  roundedQuotient_nonneg (correctionTerm_rounded α T) (by decide) (Int.mul_nonneg (by omega) (by omega))

theorem correctionTerm_nonpos (α : Nat) {T : Int} (hT : T < 1500) : correctionTerm α T ≤ 0 :=
  roundedQuotient_nonpos (correctionTerm_rounded α T) (by decide)
    (Int.mul_nonpos_of_nonneg_of_nonpos (by omega) (by omega))

/-- A product of at least 50 is half the divisor of 100, which rounds away from 0. -/
theorem correctionTerm_pos {α : Nat} {T : Int} (hα : 50 ≤ α * (T - 1500).natAbs) (hT : 1500 < T) :
    0 < correctionTerm α T := by
  refine roundedQuotient_pos (correctionTerm_rounded α T) (by decide) ?_
  rw [← Int.natAbs_of_nonneg (show 0 ≤ T - 1500 by omega)]
  exact_mod_cast Nat.mul_le_mul_left 2 hα

theorem correctionTerm_lt_zero {α : Nat} {T : Int} (hα : 50 ≤ α * (T - 1500).natAbs) (hT : T < 1500) :
    correctionTerm α T < 0 := by
  refine roundedQuotient_lt_zero (correctionTerm_rounded α T) (by decide) ?_
  rw [← mul_neg, ← mul_neg, ← Int.ofNat_natAbs_of_nonpos (show T - 1500 ≤ 0 by omega)]
  exact_mod_cast Nat.mul_le_mul_left 2 hα

theorem correctionTerm_zero (T : Int) : correctionTerm 0 T = 0 := by
  simp [correctionTerm, roundDiv]

/-- Settles O39: R35's limits lie on either side of 1,000,000, so each clause is the sign of the term, read through
`correctionFactor_cast`. -/
theorem correctionFactorIsAsR35 : Obligations.CorrectionFactorIsAsR35 := by
  refine ⟨fun α T => ?_, by decide, by decide, by decide, by decide, by decide⟩
  have hctl := correctionFactor_cast α T
  refine ⟨by omega, by omega, correctionTerm α T, correctionTerm_rounded α T, hctl, fun hT => ?warm, fun hT => ?cold,
    fun hα => ⟨fun hT => ?warmStrict, fun hT => ?coldStrict⟩, fun hα => ?inert⟩
  case warm =>
    have := correctionTerm_nonneg α hT
    omega
  case cold =>
    have := correctionTerm_nonpos α hT
    omega
  case warmStrict =>
    have := correctionTerm_pos hα hT
    omega
  case coldStrict =>
    have := correctionTerm_lt_zero hα hT
    omega
  case inert =>
    subst hα
    rw [correctionTerm_zero] at hctl
    omega

end Sys2Proof.Proofs.CorrectionFactor
end

section
/-! The mix fraction (R65). -/
namespace Sys2Proof.Proofs.MixFraction

open Sys2Proof Sys2Proof.Machine Sys2Proof.Proofs.CorrectionFactor

section
variable {a b q : Int}

/-- R65: the formula is the same whichever product is heavier, as numerator and denominator change sign together. -/
theorem roundedQuotient_neg_neg (h : Safety.RoundedQuotient a b q) : Safety.RoundedQuotient (-a) (-b) q := by
  unfold Safety.RoundedQuotient at *
  rw [neg_mul]
  omega

/-- A quotient below the whole number `k` would miss a dividend of at least `k` divisors by a whole divisor. -/
theorem le_roundedQuotient (h : Safety.RoundedQuotient a b q) (hb : 0 < b) {k : Int} (ha : b * k ≤ a) : k ≤ q := by
  obtain ⟨hnear, -⟩ := h
  by_contra hq
  have hmul : b * (q + 1) ≤ b * k := Int.mul_le_mul_of_nonneg_left (by omega) hb.le
  rw [mul_add] at hmul
  omega

end

/-- R65's steps 1 and 2: the rounded quotient, in thousandths of the contrast. -/
def mixTerm (p : RefPair) (ρ : Int) : Int := roundDiv (1000 * (ρ - p.ahead)) (p.behind - p.ahead)

theorem mixTerm_rounded (p : RefPair) (ρ : Int) (hp : p.ahead ≠ p.behind) :
    Safety.RoundedQuotient (1000 * (ρ - p.ahead)) (p.behind - p.ahead) (mixTerm p ρ) :=
  roundedQuotient_roundDiv _ (by omega)

/-- R65's step 3. -/
theorem mixFraction_cast (p : RefPair) (ρ : Int) : (mixFraction p ρ : Int) = max 0 (min 1000 (mixTerm p ρ)) :=
  clampNat_cast 0 1000 _

theorem mixFraction_le (p : RefPair) (ρ : Int) : mixFraction p ρ ≤ 1000 := by
  have hf := mixFraction_cast p ρ
  omega

section
variable {p : RefPair} {ρ : Int}

/-- On the ahead side of ρA the numerator is 0 or of the sign opposite to the denominator's. -/
theorem mixTerm_nonpos (h : (p.ahead < p.behind ∧ ρ ≤ p.ahead) ∨ (p.behind < p.ahead ∧ p.ahead ≤ ρ)) :
    mixTerm p ρ ≤ 0 := by
  have hround := mixTerm_rounded p ρ (by omega)
  rcases h with ⟨hAB, hρ⟩ | ⟨hBA, hρ⟩
  · exact roundedQuotient_nonpos hround (by omega) (by omega)
  · exact roundedQuotient_nonpos (roundedQuotient_neg_neg hround) (by omega) (by omega)

/-- From ρB on, the numerator is at least 1000 denominators in magnitude, and of the same sign. -/
theorem le_mixTerm (h : (p.ahead < p.behind ∧ p.behind ≤ ρ) ∨ (p.behind < p.ahead ∧ ρ ≤ p.behind)) :
    1000 ≤ mixTerm p ρ := by
  have hround := mixTerm_rounded p ρ (by omega)
  rcases h with ⟨hAB, hρ⟩ | ⟨hBA, hρ⟩
  · exact le_roundedQuotient hround (by omega) (by omega)
  · exact le_roundedQuotient (roundedQuotient_neg_neg hround) (by omega) (by omega)

theorem mixFraction_eq_zero (h : (p.ahead < p.behind ∧ ρ ≤ p.ahead) ∨ (p.behind < p.ahead ∧ p.ahead ≤ ρ)) :
    mixFraction p ρ = 0 := by
  have hf := mixFraction_cast p ρ
  have hterm := mixTerm_nonpos h
  omega

theorem mixFraction_eq_thousand (h : (p.ahead < p.behind ∧ p.behind ≤ ρ) ∨ (p.behind < p.ahead ∧ ρ ≤ p.behind)) :
    mixFraction p ρ = 1000 := by
  have hf := mixFraction_cast p ρ
  have hterm := le_mixTerm h
  omega

end

/-- The quality and the tag of the current reading do not enter its fraction. -/
theorem currentFraction_of_current {c : ChannelState} {p : RefPair} {r : Reading} (hpair : c.pair = some p)
    (hcurrent : c.current = some r) : currentFraction c = some (mixFraction p r.value) := by
  simp only [currentFraction, hpair, hcurrent]

/-- Settles O45: the limits of R65 on the rounded quotient, whose sign and size at ρA and at ρB are the two clauses on
readings outside the pair. -/
theorem mixFractionIsAsR65 : Obligations.MixFractionIsAsR65 := by
  refine ⟨fun ρA ρB ρ hp => ?fraction, fun c p ρ q tag hpair => ?current, by decide⟩
  case fraction =>
    let p : RefPair := ⟨ρA, ρB⟩
    exact ⟨mixFraction_le p ρ, ⟨mixTerm p ρ, mixTerm_rounded p ρ hp, mixFraction_cast p ρ⟩,
      mixFraction_eq_zero (p := p), mixFraction_eq_thousand (p := p)⟩
  case current => exact currentFraction_of_current (r := ⟨ρ, q, tag⟩) hpair rfl

end Sys2Proof.Proofs.MixFraction
end

section
/-! What one step keeps: the relation between a state and what an operation makes of it, and its rules for the updates the
operations are made of. -/
namespace Sys2Proof.Proofs.EveryStep

open Sys2Proof Sys2Proof.Machine

/-! ### The relation -/

/-- A switch in progress is sound, and through a start, which decides no other mode than UNCONFIGURED or HOLD (R156), no
comparison finds a target. -/
def Sound (s : State) : Prop :=
  Safety.SwitchSound s ∧ (s.sm.starting = true → s.sm.mode ≠ .tracking ∧ s.sm.mode ≠ .safe)

theorem sound_of_not_starting {s : State} (h : s.sm.starting = false) : Sound s ↔ Safety.SwitchSound s := by
  simp [Sound, h]

/-- What R129 forbids: a route travels to CLOSED with no other route OPEN. -/
def Stranded (s : State) (r : RouteNo) : Prop := valveIs s r .closing = true ∧ ¬ Safety.OtherOpen s r

/-- An operation keeps the laws of chapter 1 to 11 that every step is to keep, each from itself alone, and touches neither
the queue nor the INLET totaliser. -/
structure Lawful (s t : State) : Prop where
  pending : t.pending = s.pending
  total : t.mu.inlet.std = s.mu.inlet.std
  capacity : Safety.Capacity s → Safety.Capacity t
  attn : Safety.AttnLaw s → Safety.AttnLaw t
  trainLaws : Safety.TrainLaws s → Safety.TrainLaws t
  derived : Safety.Derived s.lt.train → Safety.Derived t.lt.train
  ranges : Safety.Ranges s → Safety.Ranges t
  ordered : Safety.Ordered s → Safety.Ordered t
  buffers : Safety.Buffers s → Safety.Buffers t
  sound : Sound s → Sound t

/-- An operation that in addition strands no route: one that is stranded after it was so before. -/
structure Kept (s t : State) : Prop extends Lawful s t where
  stranded : Sound s → ∀ r, Stranded t r → Stranded s r

theorem Lawful.refl (s : State) : Lawful s s := ⟨rfl, rfl, id, id, id, id, id, id, id, id⟩

theorem Lawful.trans {s t u : State} (h : Lawful s t) (k : Lawful t u) : Lawful s u where
  pending := k.pending.trans h.pending
  total := k.total.trans h.total
  capacity := k.capacity ∘ h.capacity
  attn := k.attn ∘ h.attn
  trainLaws := k.trainLaws ∘ h.trainLaws
  derived := k.derived ∘ h.derived
  ranges := k.ranges ∘ h.ranges
  ordered := k.ordered ∘ h.ordered
  buffers := k.buffers ∘ h.buffers
  sound := k.sound ∘ h.sound

theorem Kept.refl (s : State) : Kept s s := ⟨.refl s, fun _ _ => id⟩

theorem Kept.trans {s t u : State} (h : Kept s t) (k : Kept t u) : Kept s u :=
  ⟨h.toLawful.trans k.toLawful, fun hs r hr => h.stranded hs r (k.stranded (h.sound hs) r hr)⟩

/-- A list of operations, each of which keeps the laws. -/
theorem Kept.foldl {α : Type} (f : State → α → State) (h : ∀ s a, Kept s (f s a)) (l : List α) (s : State) :
    Kept s (l.foldl f s) := by
  induction l generalizing s with
  | nil => exact .refl s
  | cons a l ih => exact (h s a).trans (ih _)

/-! ### Updates no law speaks of -/

/-- The state with what no law speaks of put to fixed values: it keeps the power, the tables but for the numbers that no
law reads, the store, the totals of the meters, the slots, the channels, the train, the list of actions and its numbers,
the valves and the switch, the mode, the tickets, the log and the counts of the line. -/
def bare (s : State) : State :=
  { s with
    rstin := false
    clock := State.reset.clock
    tables := { Tables.factory with
      slots := s.tables.slots
      params := { Params.factory with
        routingMask := s.tables.params.routingMask
        watermark := s.tables.params.watermark
        ticketAttention := s.tables.params.ticketAttention } }
    mu := { State.reset.mu with
      inlet := { Meter.zero with std := s.mu.inlet.std, residue := s.mu.inlet.residue }
      delivery := { Meter.zero with residue := s.mu.delivery.residue } }
    ip := { State.reset.ip with slots := s.ip.slots }
    lt := { LineTracker.cold with train := s.lt.train }
    cp := { CutPlanner.cold with actions := s.cp.actions, nextNum := s.cp.nextNum }
    rc := { State.reset.rc with valves := s.rc.valves, switching := s.rc.switching }
    sm := { State.reset.sm with mode := s.sm.mode, starting := s.sm.starting }
    li := { s.li with assembler := .hunting, unitAddr := 0, reply := none, edited := false }
    handed := [] }

/-- Each law is a law of the bare state, as it reads nothing else. -/
theorem Kept.of_bare {s t : State} (h : bare t = bare s) : Kept s t := by
  have hpending : (bare t).pending = (bare s).pending := by rw [h]
  have htotal : (bare t).mu.inlet.std = (bare s).mu.inlet.std := by rw [h]
  have hall : ∀ P : State → Prop, P (bare s) → P (bare t) := fun P => by rw [h]; exact id
  exact {
    pending := hpending
    total := htotal
    capacity := hall Safety.Capacity
    attn := hall Safety.AttnLaw
    trainLaws := hall Safety.TrainLaws
    derived := hall fun s => Safety.Derived s.lt.train
    ranges := hall Safety.Ranges
    ordered := hall Safety.Ordered
    buffers := hall Safety.Buffers
    sound := hall Sound
    stranded := fun _ r hr => by
      have hr' : Stranded (bare t) r := hr
      rw [h] at hr'
      exact hr' }

theorem Kept.hand (i : Instr) (s : State) : Kept s (s.hand i) := .of_bare rfl
theorem Kept.post (k : EventKind) (n : Nat) (d : Int) (s : State) : Kept s (s.post k n d) := .of_bare rfl
theorem Kept.take (i : Instr) (s : State) : Kept s (s.take i) := .of_bare rfl
theorem Kept.reply (c : Nat) (p : List Byte) (s : State) : Kept s (s.reply c p) := .of_bare rfl
theorem Kept.accept (c : Nat) (p : List Byte) (s : State) : Kept s (s.accept c p) := .of_bare rfl
theorem Kept.setWindow (w : Option WindowRecord) (s : State) : Kept s (s.setWindow w) := .of_bare rfl
theorem Kept.setConfirm (c : Option ConfirmRecord) (s : State) : Kept s (s.setConfirm c) := .of_bare rfl
theorem Kept.setPlan (p : Option Plan) (s : State) : Kept s (s.setPlan p) := .of_bare rfl
theorem Kept.setLatch (b : Bool) (s : State) : Kept s (s.setLatch b) := .of_bare rfl

/-! ### The train -/

/-- An interface that keeps its position, is FAR only if it was, and whose standstill count stays in its range (R29). -/
structure InterfaceKept (i j : Interface) : Prop where
  pos : j.pos = i.pos
  far : j.track = .far → i.track = .far
  standstills : i.standstills ≤ 255 → j.standstills ≤ 255

/-- An entry that keeps its ID, its volume and its place. -/
structure EntryPlaced (e f : Entry) : Prop where
  id : f.id = e.id
  launched : f.launched = e.launched
  adjust : f.adjust = e.adjust
  reference : f.reference = e.reference
  leading : ∀ j, f.leading = some j → ∃ i, e.leading = some i ∧ InterfaceKept i j

/-- An entry that keeps what the laws of the train read of it. -/
structure EntryKept (e f : Entry) : Prop extends EntryPlaced e f where
  complete : f.complete = e.complete

/-- A train whose entries are kept, one by one. -/
abbrev TrainKept : List Entry → List Entry → Prop := List.Forall₂ EntryKept

theorem InterfaceKept.refl (i : Interface) : InterfaceKept i i := ⟨rfl, id, id⟩

theorem InterfaceKept.trans {i j k : Interface} (h : InterfaceKept i j) (h' : InterfaceKept j k) : InterfaceKept i k :=
  ⟨h'.pos.trans h.pos, h.far ∘ h'.far, h'.standstills ∘ h.standstills⟩

theorem EntryKept.refl (e : Entry) : EntryKept e e := ⟨⟨rfl, rfl, rfl, rfl, fun j hj => ⟨j, hj, .refl j⟩⟩, rfl⟩

theorem EntryKept.trans {e f g : Entry} (h : EntryKept e f) (h' : EntryKept f g) : EntryKept e g := by
  refine ⟨⟨h'.id.trans h.id, h'.launched.trans h.launched, h'.adjust.trans h.adjust, h'.reference.trans h.reference,
    fun k hk => ?_⟩, h'.complete.trans h.complete⟩
  obtain ⟨j, hj, hjk⟩ := h'.leading k hk
  obtain ⟨i, hi, hij⟩ := h.leading j hj
  exact ⟨i, hi, hij.trans hjk⟩

/-- A change of an entry's marks, with its interface changed as `InterfaceKept` allows. -/
theorem EntryKept.of_map {e f : Entry} (g : Interface → Interface) (hg : ∀ i, InterfaceKept i (g i))
    (hid : f.id = e.id) (hlaunched : f.launched = e.launched) (hadjust : f.adjust = e.adjust)
    (hcomplete : f.complete = e.complete) (hbase : f.base = e.base) (hleading : f.leading = e.leading.map g) :
    EntryKept e f := by
  refine ⟨⟨hid, hlaunched, hadjust, ?_, fun j hj => ?_⟩, hcomplete⟩
  · unfold Entry.reference
    rw [hleading, hbase]
    cases e.leading with
    | none => rfl
    | some i => exact (hg i).pos
  · rw [hleading, Option.map_eq_some_iff] at hj
    obtain ⟨i, hi, rfl⟩ := hj
    exact ⟨i, hi, hg i⟩

/-- A change of an entry that leaves its interface alone. -/
theorem EntryKept.of_marks {e f : Entry} (hid : f.id = e.id) (hlaunched : f.launched = e.launched)
    (hadjust : f.adjust = e.adjust) (hcomplete : f.complete = e.complete) (hbase : f.base = e.base)
    (hleading : f.leading = e.leading) : EntryKept e f :=
  .of_map (fun i => i) .refl hid hlaunched hadjust hcomplete hbase (by simp [hleading])

theorem TrainKept.refl (t : List Entry) : TrainKept t t := List.forall₂_same.mpr fun e _ => .refl e

theorem TrainKept.trans {t u v : List Entry} (h : TrainKept t u) (h' : TrainKept u v) : TrainKept t v := by
  induction h generalizing v with
  | nil => exact h'
  | cons he _ ih =>
    cases h' with
    | cons he' h' => exact .cons (he.trans he') (ih h')

theorem TrainKept.map (f : Entry → Entry) (hf : ∀ e, EntryKept e (f e)) (t : List Entry) : TrainKept t (t.map f) :=
  List.forall₂_map_right_iff.mpr (List.forall₂_same.mpr fun e _ => hf e)

theorem TrainKept.modEntry (id : Nat) (f : Entry → Entry) (hf : ∀ e, EntryKept e (f e)) (t : List Entry) :
    TrainKept t (modEntry id f t) :=
  .map _ (fun e => by split; exacts [hf e, .refl e]) t

theorem TrainKept.modInterface (id : Nat) (g : Interface → Interface) (hg : ∀ i, InterfaceKept i (g i))
    (t : List Entry) : TrainKept t (modInterface id g t) :=
  .modEntry id (fun e => { e with leading := e.leading.map g }) (fun _ => .of_map g hg rfl rfl rfl rfl rfl rfl) t

/-- A change of the entry's marks: its delivery record, its triggers, its disposition. -/
theorem TrainKept.marks {id : Nat} {f : Entry → Entry} {t : List Entry}
    (hid : ∀ e, (f e).id = e.id := by exact fun _ => rfl)
    (hlaunched : ∀ e, (f e).launched = e.launched := by exact fun _ => rfl)
    (hadjust : ∀ e, (f e).adjust = e.adjust := by exact fun _ => rfl)
    (hcomplete : ∀ e, (f e).complete = e.complete := by exact fun _ => rfl)
    (hbase : ∀ e, (f e).base = e.base := by exact fun _ => rfl)
    (hleading : ∀ e, (f e).leading = e.leading := by exact fun _ => rfl) : TrainKept t (Machine.modEntry id f t) :=
  .modEntry id f (fun e => .of_marks (hid e) (hlaunched e) (hadjust e) (hcomplete e) (hbase e) (hleading e)) t

theorem TrainKept.markBatch (id : Nat) (f : TicketFlags → TicketFlags) (t : List Entry) :
    TrainKept t (markBatch id f t) :=
  .modEntry id _ (fun e => by split; exacts [.refl e, .of_marks rfl rfl rfl rfl rfl rfl]) t

theorem TrainKept.markManifold (f : TicketFlags → TicketFlags) (t : List Entry) : TrainKept t (markManifold f t) := by
  unfold Machine.markManifold
  split
  · exact .markBatch _ f t
  · exact .refl t

section
variable {e f : Entry} {t u : List Entry}

theorem TrainKept.placed (h : TrainKept t u) : List.Forall₂ EntryPlaced t u := h.imp fun _ _ he => he.toEntryPlaced

theorem EntryPlaced.volume (h : EntryPlaced e f) : f.volume = e.volume := by
  simp only [Entry.volume, h.launched, h.adjust]

theorem placed_ids (h : List.Forall₂ EntryPlaced t u) : u.map (·.id) = t.map (·.id) := by
  induction h with
  | nil => rfl
  | cons he _ ih => simp [he.id, ih]

theorem placed_derived (h : List.Forall₂ EntryPlaced t u) (hd : Safety.Derived t) : Safety.Derived u := by
  induction h with
  | nil => trivial
  | cons ha htail ih =>
    cases htail with
    | nil => trivial
    | cons hb hrest =>
      obtain ⟨hab, hd⟩ := hd
      refine ⟨fun j v hj hfar hv => ?_, ih hd⟩
      obtain ⟨i, hi, hij⟩ := hb.leading j hj
      rw [hij.pos, ha.reference]
      exact hab i v hi (hij.far hfar) (ha.volume ▸ hv)

theorem placed_closed (h : List.Forall₂ EntryPlaced t u) (hc : ∀ e ∈ t.dropLast, e.launched.isSome) :
    ∀ e ∈ u.dropLast, e.launched.isSome := by
  induction h with
  | nil => simp
  | cons ha htail ih =>
    cases htail with
    | nil => simp
    | cons hb hrest =>
      simp only [List.dropLast_cons_cons, List.mem_cons, forall_eq_or_imp] at hc ih ⊢
      exact ⟨ha.launched ▸ hc.1, ih hc.2⟩

theorem placed_standstills (h : List.Forall₂ EntryPlaced t u)
    (hs : ∀ e ∈ t, ∀ i, e.leading = some i → i.standstills ≤ 255) :
    ∀ f ∈ u, ∀ j, f.leading = some j → j.standstills ≤ 255 := by
  induction h with
  | nil => simp
  | cons he _ ih =>
    simp only [List.mem_cons, forall_eq_or_imp] at hs ⊢
    refine ⟨fun j hj => ?_, ih hs.2⟩
    obtain ⟨i, hi, hij⟩ := he.leading j hj
    exact hij.standstills (hs.1 i hi)

theorem TrainKept.completeFirst (h : TrainKept t u)
    (hp : t.Pairwise fun a b => b.complete = true → a.complete = true) :
    u.Pairwise fun a b => b.complete = true → a.complete = true := by
  have hmap : u.map Entry.complete = t.map Entry.complete := by
    clear hp
    induction h with
    | nil => rfl
    | cons he _ ih => simp [he.complete, ih]
  have := (List.pairwise_map (R := fun a b => b = true → a = true) (f := Entry.complete)).mpr hp
  rw [← hmap] at this
  exact List.pairwise_map.mp this

end

/-- A train whose entries keep their places, with the COMPLETE ones still in front, keeps the laws of the train. -/
theorem Kept.placeTrain {s : State} {t : List Entry} (h : List.Forall₂ EntryPlaced s.lt.train t)
    (hfirst : Safety.TrainLaws s → t.Pairwise fun a b => b.complete = true → a.complete = true) :
    Kept s (s.setTrain t) := by
  refine { Kept.refl s with
    capacity := fun ⟨htrain, hrest⟩ => ⟨?_, hrest⟩
    attn := id
    trainLaws := fun hlaws => ⟨?_, placed_closed h hlaws.2.1, hfirst hlaws⟩
    derived := placed_derived h
    ranges := fun ⟨hin, hdel, hstand, hrest⟩ => ⟨hin, hdel, placed_standstills h hstand, hrest⟩
    ordered := id
    buffers := id
    sound := id
    stranded := fun _ _ => id }
  · exact h.length_eq ▸ htrain
  · have hids := hlaws.1
    unfold Safety.UniqueIds at *
    rw [State.setTrain_lt, placed_ids h]
    exact hids

/-- A train kept entry by entry keeps the laws of the train. -/
theorem Kept.setTrain {s : State} {t : List Entry} (h : TrainKept s.lt.train t) : Kept s (s.setTrain t) :=
  .placeTrain h.placed fun ⟨_, _, hfirst⟩ => h.completeFirst hfirst

end Sys2Proof.Proofs.EveryStep
end

section
/-! What completion, tickets and derived positions keep (sections 1.3, 1.7, chapter 9). -/
namespace Sys2Proof.Proofs.EveryStep

open Sys2Proof Sys2Proof.Machine

/-! ### ATTN -/

theorem attnLaw_judgeAttn (s : State) : Safety.AttnLaw (judgeAttn s) := by
  unfold Safety.AttnLaw
  change (if s.running then attnWanted s else false) = (s.running && attnWanted s)
  cases s.running <;> rfl

/-- ATTN alone changes where the Ticket Store was judged (R172). -/
theorem judgeIfChanged_eq (wasEmpty : Bool) (s : State) :
    ∃ b, judgeIfChanged wasEmpty s = { s with el := { s.el with attn := b } }
      ∧ (s.ts.isEmpty = wasEmpty → b = s.el.attn)
      ∧ (s.ts.isEmpty ≠ wasEmpty → judgeIfChanged wasEmpty s = judgeAttn s) := by
  unfold judgeIfChanged
  by_cases h : s.ts.isEmpty = wasEmpty
  · exact ⟨s.el.attn, by simp [h], fun _ => rfl, fun hn => absurd h hn⟩
  · exact ⟨_, by rw [if_neg (by simpa using h)]; rfl, fun hn => absurd hn h, fun _ => by rw [if_neg (by simpa using h)]⟩

/-- Judging ATTN keeps every law. -/
theorem Kept.judgeAttn (s : State) : Kept s (judgeAttn s) :=
  { Kept.refl s with
    capacity := id, attn := fun _ => attnLaw_judgeAttn s, trainLaws := id, derived := id, ranges := id, ordered := id
    buffers := id, sound := id, stranded := fun _ _ => id }

theorem dropLast_sublist_dropLast {α : Type} {l m : List α} (h : l.Sublist m) : l.dropLast.Sublist m.dropLast := by
  rw [← List.reverse_sublist, ← List.tail_reverse, ← List.tail_reverse]
  exact h.reverse.tail

/-- The train and the tickets change together, with ATTN judged where the store's being empty changes. -/
theorem Kept.thenTickets {b s : State} (hb : Kept b s) {t : List Entry} {ts : List Ticket}
    (htrain : t.Sublist s.lt.train) (hts : Safety.Capacity b → ts.length ≤ Config.maxTickets)
    (hids : (s.lt.train.map (·.id) ++ s.ts.map (·.id)).Nodup → (t.map (·.id) ++ ts.map (·.id)).Nodup)
    (hderived : Safety.Derived s.lt.train → Safety.Derived t) :
    Kept b (judgeIfChanged s.ts.isEmpty { s.setTrain t with ts := ts }) := by
  obtain ⟨x, heq, hsame, hchanged⟩ := judgeIfChanged_eq s.ts.isEmpty { s.setTrain t with ts := ts }
  have hattn : Safety.AttnLaw s → Safety.AttnLaw (judgeIfChanged s.ts.isEmpty { s.setTrain t with ts := ts }) := by
    intro h
    by_cases hempty : ts.isEmpty = s.ts.isEmpty
    · have hwanted : attnWanted { s.setTrain t with ts := ts } = attnWanted s := by
        simp only [attnWanted, hempty]
        rfl
      rw [heq, hsame hempty]
      change s.el.attn = (s.running && attnWanted { s.setTrain t with ts := ts })
      rw [hwanted]
      exact h
    · rw [hchanged hempty]
      exact attnLaw_judgeAttn _
  rw [heq] at hattn ⊢
  exact { hb with
    capacity := fun h => ⟨htrain.length_le.trans (hb.capacity h).1, hts h, (hb.capacity h).2.2⟩
    attn := hattn ∘ hb.attn
    trainLaws := fun h => by
      obtain ⟨hnodup, hclosed, hfirst⟩ := hb.trainLaws h
      exact ⟨hids hnodup, fun e he => hclosed e ((dropLast_sublist_dropLast htrain).subset he), hfirst.sublist htrain⟩
    derived := hderived ∘ hb.derived
    ranges := fun h => by
      obtain ⟨hin, hdel, hstand, hrest⟩ := hb.ranges h
      exact ⟨hin, hdel, fun e he => hstand e (htrain.subset he), hrest⟩
    ordered := hb.ordered
    buffers := hb.buffers
    sound := hb.sound
    stranded := hb.stranded }

/-! ### Tickets -/

theorem nodup_of_eraseP {id : Nat} {t : List Entry} {xs : List Nat} (hmem : ∃ e ∈ t, e.id = id)
    (h : (t.map (·.id) ++ xs).Nodup) : ((t.eraseP fun x => x.id == id).map (·.id) ++ (xs ++ [id])).Nodup := by
  obtain ⟨e, he, hid⟩ := hmem
  obtain ⟨a, l₁, l₂, -, ha, ht, herase⟩ := List.exists_of_eraseP he (p := fun x => x.id == id) (by simpa using hid)
  have haid : a.id = id := by simpa using ha
  rw [ht] at h
  rw [herase]
  refine (List.Perm.nodup_iff ?_).mp h
  rw [← haid]
  simp only [List.map_append, List.map_cons, List.append_assoc]
  refine List.Perm.append_left _ ?_
  rw [← List.append_assoc, List.cons_append]
  exact (List.perm_append_singleton _ _).symm

/-- Taking an entry out keeps the positions derived, where the entry behind it is not FAR. -/
theorem derived_eraseP {id : Nat} {t : List Entry} (hd : Safety.Derived t)
    (hbehind : ∀ b i, behindOf id t = some b → b.leading = some i → i.track ≠ .far) :
    Safety.Derived (t.eraseP fun x => x.id == id) := by
  induction t with
  | nil => trivial
  | cons a rest ih =>
    have hrest : Safety.Derived rest := by
      cases rest with
      | nil => trivial
      | cons b rest => exact hd.2
    by_cases ha : a.id == id
    · rwa [List.eraseP_cons_of_pos (by exact ha)]
    · rw [List.eraseP_cons_of_neg (by exact ha)]
      have hbehind' : ∀ b i, behindOf id rest = some b → b.leading = some i → i.track ≠ .far := by
        simpa [behindOf, ha] using hbehind
      have ih := ih hrest hbehind'
      cases rest with
      | nil => trivial
      | cons b rest =>
        obtain ⟨hab, hrest⟩ := hd
        by_cases hb : b.id == id
        · rw [List.eraseP_cons_of_pos (by exact hb)] at ih ⊢
          cases rest with
          | nil => trivial
          | cons c rest =>
            refine ⟨fun i v hi hfar _ => absurd hfar (hbehind' c i ?_ hi), ih⟩
            simp [behindOf, hb]
        · rw [List.eraseP_cons_of_neg (by exact hb)] at ih ⊢
          exact ⟨hab, ih⟩

/-- R160: a ticket issued for an entry of the train, with room in the store, and with no FAR interface behind it. -/
theorem Kept.thenIssue {b s : State} (hb : Kept b s) {e : Entry} (hmem : ∃ x ∈ s.lt.train, x.id = e.id)
    (hroom : Safety.Capacity b → s.ts.length < Config.maxTickets)
    (hderived : Safety.Derived s.lt.train → Safety.Derived (s.lt.train.eraseP fun x => x.id == e.id)) :
    Kept b (issueTicket e s) := by
  refine .trans (hb.thenTickets List.eraseP_sublist (fun h => ?_) (fun h => ?_) hderived) (.post _ _ _ _)
  · rw [List.length_append]
    exact hroom h
  · rw [List.map_append]
    exact nodup_of_eraseP hmem h

/-- R164: the front entry released, with room in the store. -/
theorem Kept.thenRelease {b s : State} (hb : Kept b s) (hroom : Safety.Capacity b → s.ts.length < Config.maxTickets) :
    Kept b (releaseFront s) := by
  unfold releaseFront
  cases htrain : s.lt.train with
  | nil => exact hb
  | cons e rest =>
    dsimp only
    split
    · refine hb.thenIssue ⟨e, by simp [htrain], rfl⟩ hroom fun hd => ?_
      rw [htrain] at hd ⊢
      rw [List.eraseP_cons_of_pos (by simp)]
      cases rest with
      | nil => trivial
      | cons b rest => exact hd.2
    · exact hb

/-- R166: a ticket of the store leaves it, which makes room for a waiting entry. -/
theorem Kept.acknowledge {id : Nat} {s : State} {t : Ticket} (h : s.ts.find? (fun t => t.id == id) = some t) :
    Kept s (acknowledge id s) := by
  have hlength : (s.ts.eraseP fun t => t.id == id).length < s.ts.length := by
    have := List.length_eraseP_of_mem (List.mem_of_find?_eq_some h) (List.find?_some h)
    have := List.length_pos_of_mem (List.mem_of_find?_eq_some h)
    omega
  have herase : Kept s (judgeIfChanged s.ts.isEmpty { s.setTrain s.lt.train with ts := s.ts.eraseP fun t => t.id == id }) :=
    (Kept.refl s).thenTickets (.refl _) (fun hc => hlength.le.trans hc.2.1)
      (fun hn => hn.sublist ((List.Sublist.refl _).append (List.eraseP_sublist.map _))) (fun hd => hd)
  obtain ⟨b, heq, -⟩ := judgeIfChanged_eq s.ts.isEmpty { s.setTrain s.lt.train with ts := s.ts.eraseP fun t => t.id == id }
  refine herase.thenRelease fun hc => ?_
  rw [heq]
  exact hlength.trans_le hc.2.1

/-! ### Completion (R20 to R23) -/

section
variable {t u : List Entry}

/-- The IDs of two trains agree entry by entry, and with them which entry is behind which. -/
theorem behindOf_id_of_map (id : Nat) (h : u.map (·.id) = t.map (·.id)) :
    (behindOf id u).map (·.id) = (behindOf id t).map (·.id) := by
  induction t generalizing u with
  | nil => rw [List.map_eq_nil_iff.mp h]
  | cons a t ih =>
    cases u with
    | nil => cases h
    | cons b u =>
      obtain ⟨hab, htail⟩ := List.cons.inj h
      change b.id = a.id at hab
      unfold behindOf
      rw [hab]
      split
      · rw [← List.head?_map, ← List.head?_map, htail]
      · exact ih htail

end

theorem modEntry_forall {P : Entry → Prop} (id : Nat) {f : Entry → Entry} {t : List Entry}
    (hf : ∀ e, e.id = id → P e → P (f e)) (h : ∀ e ∈ t, P e) : ∀ e ∈ modEntry id f t, P e := by
  unfold modEntry
  simp only [List.forall_mem_map]
  intro e he
  by_cases hid : e.id = id
  · rw [if_pos (by simpa using hid)]
    exact hf e hid (h e he)
  · rw [if_neg (by simpa using hid)]
    exact h e he

/-- The leading interface of every entry with an ID is CLEARED. -/
def ClearedAt (id : Nat) (e : Entry) : Prop := e.id = id → ∀ i, e.leading = some i → i.track = .cleared

/-- R23, step 1. -/
theorem completedTrain_cleared (s : State) (m b : Entry) : ∀ e ∈ completedTrain s m b, ClearedAt b.id e := by
  unfold completedTrain
  refine modEntry_forall b.id (fun e _ he => he) (modEntry_forall m.id (fun e _ he => he) ?_)
  unfold modInterface modEntry
  simp only [List.forall_mem_map]
  intro e _
  by_cases hid : e.id = b.id
  · rw [if_pos (by simpa using hid)]
    intro _ i hi
    obtain ⟨j, -, rfl⟩ := Option.map_eq_some_iff.mp hi
    rfl
  · rw [if_neg (by simpa using hid)]
    exact fun h => absurd h hid

/-- R23, steps 1, 2 and 4 keep every entry. -/
theorem trainKept_completed (s : State) (m b : Entry) : TrainKept s.lt.train (completedTrain s m b) := by
  unfold completedTrain
  refine .trans ?_ .marks
  refine .trans ?_ .marks
  exact .modInterface b.id _ (by exact fun _ => ⟨rfl, nofun, fun h => h⟩) _

theorem mem_of_behindOf {id : Nat} {t : List Entry} {b : Entry} (h : behindOf id t = some b) : b ∈ t := by
  induction t with
  | nil => cases h
  | cons a rest ih =>
    unfold behindOf at h
    split at h
    · exact List.mem_cons_of_mem a (List.mem_of_mem_head? h)
    · exact List.mem_cons_of_mem a (ih h)

/-- R9, R23: the entry behind the completed batch has no FAR interface any more. -/
theorem behind_completed_not_far {s : State} {m b : Entry} (hb : behindOf m.id s.lt.train = some b) :
    ∀ e i, behindOf m.id (completedTrain s m b) = some e → e.leading = some i → i.track ≠ .far := by
  intro e i he hi
  have hid := behindOf_id_of_map m.id (placed_ids (trainKept_completed s m b).placed)
  rw [he, hb] at hid
  rw [completedTrain_cleared s m b e (mem_of_behindOf he) (Option.some.inj hid) i hi]
  simp

/-- The entries ahead of the manifold batch are COMPLETE (R9). -/
theorem manifold_pairwise {t : List Entry} {m : Entry} (hm : manifoldOf t = some m) (hnodup : (t.map (·.id)).Nodup) :
    t.Pairwise fun a b => b.id = m.id → a.complete = true := by
  obtain ⟨-, as, bs, rfl, has⟩ := List.find?_eq_some_iff_append.mp hm
  have hcomplete : ∀ a ∈ as, a.complete = true := by simpa using has
  rw [List.pairwise_append]
  refine ⟨List.pairwise_of_forall_mem_list fun a ha b _ _ => hcomplete a ha, ?_, fun a ha b _ _ => hcomplete a ha⟩
  simp only [List.map_append, List.map_cons, List.nodup_append, List.nodup_cons, List.mem_map, not_exists, not_and] at hnodup
  obtain ⟨-, ⟨hm', -⟩, -⟩ := hnodup
  rw [List.pairwise_cons]
  exact ⟨fun b hb hid => absurd hid (hm' b hb), List.pairwise_of_forall_mem_list fun _ _ b hb hid => absurd hid (hm' b hb)⟩

theorem manifoldOf_id_of_kept {t u : List Entry} (h : TrainKept t u) :
    (manifoldOf u).map (·.id) = (manifoldOf t).map (·.id) := by
  unfold manifoldOf
  induction h with
  | nil => rfl
  | cons he _ ih =>
    rw [List.find?_cons, List.find?_cons, he.complete]
    split
    · exact congrArg some he.id
    · exact ih

/-- R9, R23: the manifold batch, completed while the Ticket Store is full, waits COMPLETE at its place. -/
theorem Kept.waitComplete {s : State} {m : Entry} (hm : manifoldOf s.lt.train = some m) :
    Kept s (s.setTrain (modEntry m.id (fun e => { e with complete := true }) s.lt.train)) := by
  refine .placeTrain (List.forall₂_map_right_iff.mpr (List.forall₂_same.mpr fun e _ => ?_)) fun ⟨hids, _, hfirst⟩ => ?_
  · split
    · exact { EntryKept.refl e with }
    · exact (EntryKept.refl e).toEntryPlaced
  · unfold modEntry
    rw [List.pairwise_map]
    refine (hfirst.and (manifold_pairwise hm (List.Nodup.of_append_left hids))).imp fun {a b} ⟨hab, hmab⟩ => ?_
    by_cases ha : a.id = m.id
    · simp [ha]
    · by_cases hb : b.id = m.id
      · simpa [ha, hb] using hmab hb
      · simpa [ha, hb] using hab

theorem Kept.completeBatch {s : State} {m b : Entry} (hm : manifoldOf s.lt.train = some m)
    (hb : behindOf m.id s.lt.train = some b) : Kept s (completeBatch m b s) := by
  have hkept := trainKept_completed s m b
  have hs1 : Kept s ((s.setTrain (completedTrain s m b)).post .batchComplete m.id (indexOf m.id s.lt.train)) :=
    (Kept.setTrain hkept).trans (.post _ _ _ _)
  unfold Machine.completeBatch
  dsimp only
  split
  · rename_i hroom
    split
    · rename_i e he
      have hid : e.id = m.id := by simpa using List.find?_some he
      refine hs1.thenIssue ⟨e, List.mem_of_find?_eq_some he, rfl⟩ (fun _ => hroom) fun hd => derived_eraseP hd ?_
      rw [hid]
      exact behind_completed_not_far hb
    · exact hs1
  · have hman := manifoldOf_id_of_kept hkept
    rw [hm] at hman
    obtain ⟨m', hm', hid⟩ := Option.map_eq_some_iff.mp hman
    refine (hs1.trans ?_).trans (.post _ _ _ _)
    rw [← show m'.id = m.id from hid]
    exact .waitComplete hm'

/-- R21: the completion check. -/
theorem Kept.completionCheck (s : State) : Kept s (completionCheck s) := by
  have hloop : ∀ n s, Kept s (completionLoop n s) := by
    intro n
    induction n with
    | zero => exact .refl
    | succ n ih =>
      intro s
      unfold completionLoop
      split
      · rename_i t ht
        refine .trans ?_ (ih t)
        unfold completeOnce at ht
        split at ht
        · cases ht
        · split at ht
          · cases ht
          · split at ht
            · cases ht
              exact .completeBatch ‹_› ‹_›
            · cases ht
      · exact .refl s
  exact hloop _ s

/-! ### Derived positions (R6) -/

theorem derivePosition_volume (a e : Entry) : (derivePosition a e).volume = e.volume := by
  unfold derivePosition
  split
  · split <;> rfl
  · rfl

theorem derivedBehind_derivePosition (a e : Entry) : Safety.DerivedBehind a (derivePosition a e) := by
  intro i v hi hfar hv
  unfold derivePosition at hi
  split at hi
  · rename_i j w hj hw
    split at hi
    · cases hi
      rw [hv] at hw
      cases hw
      rfl
    · rw [hj] at hi
      cases hi
      exact absurd hfar ‹_›
  · rename_i hnone
    exact absurd hv (hnone i v hi)

theorem derived_rederiveBehind (a : Entry) (t : List Entry) : Safety.Derived (a :: rederiveBehind a t) := by
  induction t generalizing a with
  | nil => trivial
  | cons e rest ih => exact ⟨derivedBehind_derivePosition a e, ih _⟩

theorem derived_rederive (t : List Entry) : Safety.Derived (rederive t) := by
  cases t with
  | nil => trivial
  | cons e rest => exact derived_rederiveBehind e rest

/-- An entry that keeps its ID and its completion, is closed if it was, and keeps its standstill count in range. -/
structure EntryListed (e f : Entry) : Prop where
  id : f.id = e.id
  closed : e.launched.isSome → f.launched.isSome
  complete : f.complete = e.complete
  standstills : (∀ i, e.leading = some i → i.standstills ≤ 255) → ∀ j, f.leading = some j → j.standstills ≤ 255

theorem EntryListed.of_leading {e f : Entry} (g : Interface → Interface)
    (hg : ∀ i, i.standstills ≤ 255 → (g i).standstills ≤ 255) (hid : f.id = e.id)
    (hclosed : e.launched.isSome → f.launched.isSome) (hcomplete : f.complete = e.complete)
    (hleading : f.leading = e.leading.map g) : EntryListed e f := by
  refine ⟨hid, hclosed, hcomplete, fun h j hj => ?_⟩
  rw [hleading] at hj
  obtain ⟨i, hi, rfl⟩ := Option.map_eq_some_iff.mp hj
  exact hg i (h i hi)

theorem EntryListed.refl (e : Entry) : EntryListed e e := ⟨rfl, fun h => h, rfl, fun h => h⟩

theorem entryListed_derivePosition (a e : Entry) : EntryListed e (derivePosition a e) := by
  unfold derivePosition
  split
  · rename_i i v hi hv
    split
    · exact ⟨rfl, fun h => h, rfl, fun h j hj => by cases hj; exact h i hi⟩
    · exact .refl e
  · exact .refl e

theorem listed_rederive (t : List Entry) : List.Forall₂ EntryListed t (rederive t) := by
  have hbehind : ∀ a (t : List Entry), List.Forall₂ EntryListed t (rederiveBehind a t) := by
    intro a t
    induction t generalizing a with
    | nil => exact .nil
    | cons e rest ih => exact .cons (entryListed_derivePosition a e) (ih _)
  cases t with
  | nil => exact .nil
  | cons e rest => exact .cons (.refl e) (hbehind e rest)

/-- What the laws of the train but for the derived positions ask of a changed train. -/
structure TrainListed (t u : List Entry) : Prop where
  length : u.length ≤ t.length
  ids : (u.map (·.id)).Sublist (t.map (·.id))
  closed : (∀ e ∈ t.dropLast, e.launched.isSome) → ∀ e ∈ u.dropLast, e.launched.isSome
  completeFirst : (t.Pairwise fun a b => b.complete = true → a.complete = true) →
    u.Pairwise fun a b => b.complete = true → a.complete = true
  standstills : (∀ e ∈ t, ∀ i, e.leading = some i → i.standstills ≤ 255) →
    ∀ e ∈ u, ∀ i, e.leading = some i → i.standstills ≤ 255

theorem TrainListed.trans {t u v : List Entry} (h : TrainListed t u) (h' : TrainListed u v) : TrainListed t v :=
  ⟨h'.length.trans h.length, h'.ids.trans h.ids, h'.closed ∘ h.closed, h'.completeFirst ∘ h.completeFirst,
    h'.standstills ∘ h.standstills⟩

theorem TrainListed.of_sublist {t u : List Entry} (h : u.Sublist t) : TrainListed t u :=
  ⟨h.length_le, h.map _, fun hc e he => hc e ((dropLast_sublist_dropLast h).subset he), fun hp => hp.sublist h,
    fun hs e he => hs e (h.subset he)⟩

theorem TrainListed.of_forall₂ {t u : List Entry} (h : List.Forall₂ EntryListed t u) : TrainListed t u := by
  refine ⟨h.length_eq.ge, ?ids, ?closed, ?first, ?standstills⟩
  case ids =>
    have heq : u.map (·.id) = t.map (·.id) := by
      induction h with
      | nil => rfl
      | cons he _ ih => simp [he.id, ih]
    exact heq ▸ .refl _
  case closed =>
    intro hc
    induction h with
    | nil => simp
    | cons he htail ih =>
      cases htail with
      | nil => simp
      | cons _ _ =>
        simp only [List.dropLast_cons_cons, List.mem_cons, forall_eq_or_imp] at hc ih ⊢
        exact ⟨he.closed hc.1, ih hc.2⟩
  case first =>
    intro hp
    have hmap : u.map Entry.complete = t.map Entry.complete := by
      clear hp
      induction h with
      | nil => rfl
      | cons he _ ih => simp [he.complete, ih]
    have := (List.pairwise_map (R := fun a b => b = true → a = true) (f := Entry.complete)).mpr hp
    rw [← hmap] at this
    exact List.pairwise_map.mp this
  case standstills =>
    intro hs
    induction h with
    | nil => simp
    | cons he _ ih =>
      simp only [List.mem_cons, forall_eq_or_imp] at hs ⊢
      exact ⟨he.standstills hs.1, ih hs.2⟩

theorem TrainListed.modEntry {id : Nat} {f : Entry → Entry} (hf : ∀ e, EntryListed e (f e)) (t : List Entry) :
    TrainListed t (modEntry id f t) :=
  .of_forall₂ (List.forall₂_map_right_iff.mpr (List.forall₂_same.mpr fun e _ => by split; exacts [hf e, .refl e]))

/-- R6: a train changed otherwise keeps the laws once every FAR position is derived afresh. -/
theorem Kept.rederive {s : State} {t : List Entry} (h : TrainListed s.lt.train t) :
    Kept s (s.setTrain (rederive t)) := by
  have h := h.trans (.of_forall₂ (listed_rederive t))
  exact { Kept.refl s with
    capacity := fun ⟨htrain, hrest⟩ => ⟨h.length.trans htrain, hrest⟩
    attn := id
    trainLaws := fun ⟨hids, hclosed, hfirst⟩ =>
      ⟨hids.sublist (h.ids.append (.refl _)), h.closed hclosed, h.completeFirst hfirst⟩
    derived := fun _ => derived_rederive t
    ranges := fun ⟨hin, hdel, hstand, hrest⟩ => ⟨hin, hdel, h.standstills hstand, hrest⟩
    ordered := id
    buffers := id
    sound := id
    stranded := fun _ _ => id }

/-! ### The list of actions (R112) -/

/-- The list of actions is set to one that is ordered where the old was and holds 16 at most. -/
theorem Kept.setActions {s : State} {as : List Action}
    (hordered : Safety.Ordered s → as.Pairwise fun a b => a.trigger ≤ b.trigger)
    (hlength : s.cp.actions.length ≤ Config.maxActions → as.length ≤ Config.maxActions) : Kept s (s.setActions as) :=
  { Kept.refl s with
    capacity := fun ⟨htrain, hts, hel, hcp⟩ => ⟨htrain, hts, hel, hlength hcp⟩
    attn := id, trainLaws := id, derived := id, ranges := id, ordered := hordered, buffers := id, sound := id
    stranded := fun _ _ => id }

theorem Kept.subActions {s : State} {as : List Action} (h : as.Sublist s.cp.actions) : Kept s (s.setActions as) :=
  .setActions (fun ho => ho.sublist h) h.length_le.trans

/-- Actions changed one by one, their triggers kept. -/
theorem Kept.mapActions {s : State} {f : Action → Action} (hf : ∀ a, (f a).trigger = a.trigger) :
    Kept s (s.setActions (s.cp.actions.map f)) :=
  .setActions (fun ho => by
    rw [List.pairwise_map]
    exact ho.imp fun {a b} h => by rwa [hf a, hf b]) (by rw [List.length_map]; exact id)

theorem insertAction_perm (a : Action) (as : List Action) : (insertAction a as).Perm (a :: as) := by
  induction as with
  | nil => rfl
  | cons b rest ih =>
    unfold insertAction
    split
    · rfl
    · exact (ih.cons b).trans (.swap a b rest)

theorem insertAction_ordered {a : Action} {as : List Action} (h : as.Pairwise fun a b => a.trigger ≤ b.trigger) :
    (insertAction a as).Pairwise fun a b => a.trigger ≤ b.trigger := by
  induction as with
  | nil => simp [insertAction]
  | cons b rest ih =>
    obtain ⟨hb, hrest⟩ := List.pairwise_cons.mp h
    unfold insertAction
    split
    · rename_i hab
      refine List.pairwise_cons.mpr ⟨fun c hc => ?_, h⟩
      rcases List.mem_cons.mp hc with rfl | hc
      · exact hab.le
      · exact hab.le.trans (hb c hc)
    · refine List.pairwise_cons.mpr ⟨fun c hc => ?_, ih hrest⟩
      rcases List.mem_cons.mp ((insertAction_perm a rest).mem_iff.mp hc) with rfl | hc
      · omega
      · exact hb c hc

/-- R115: an action stored while fewer than 16 are held. -/
theorem Kept.insertAction {s : State} (a : Action) (h : s.cp.actions.length < Config.maxActions) :
    Kept s (s.setActions (insertAction a s.cp.actions)) :=
  .setActions insertAction_ordered fun _ => by rw [(insertAction_perm a _).length_eq]; exact h

/-- R112: an action number is given. -/
theorem Kept.takeNumber (s : State) : Kept s (takeNumber s) :=
  { Kept.refl s with
    capacity := id, attn := id, trainLaws := id, derived := id, ordered := id, buffers := id, sound := id
    stranded := fun _ _ => id
    ranges := fun ⟨hin, hdel, hstand, hhealth, hfaults, _, _, hrest⟩ => by
      have hnext : 1 ≤ nextNumber s.cp.nextNum ∧ nextNumber s.cp.nextNum ≤ 65535 := by
        unfold nextNumber
        split <;> omega
      exact ⟨hin, hdel, hstand, hhealth, hfaults, hnext.1, hnext.2, hrest⟩ }

end Sys2Proof.Proofs.EveryStep
end

section
/-! What the Route Controller keeps (chapter 7): the switch, make before break, and the fault counts. -/
namespace Sys2Proof.Proofs.EveryStep

open Sys2Proof Sys2Proof.Machine

/-! ### Valve states -/

section
variable {r x : RouteNo} {v w : ValveState} {s t : State}

theorem valveState_modValve_ne (f : Valve → Valve) (h : x ≠ r) : valveState (modValve r f s) x = valveState s x := by
  simp only [valveState, modValve, State.setValve, PerRoute.get_set_ne _ _ h]

theorem valveState_modValve_self (f : Valve → Valve) :
    valveState (modValve r f s) r = (s.rc.valves.get r).map fun v => (f v).state := by
  simp only [valveState, modValve, State.setValve, PerRoute.get_set, Option.map_map]
  rfl

theorem valveIs_iff : valveIs s r v = true ↔ valveState s r = some v := by simp [valveIs]

theorem valveIs_of_state (h : valveState t r = valveState s r) : valveIs t r v = valveIs s r v := by
  simp only [valveIs, h]

/-- A valve is in one state. -/
theorem valveIs_ne (h : valveIs s r v = true) (hvw : v ≠ w) : valveIs s r w = false := by
  rw [valveIs_iff] at h
  simp [valveIs, h, hvw]

end

/-! ### Rules for the Route Controller -/

theorem Lawful.ofRoutes {s t : State} (hframe : t.noRoutes = s.noRoutes)
    (hfaults : Safety.FaultCounts s → Safety.FaultCounts t) (hsound : Sound s → Sound t) : Lawful s t := by
  obtain ⟨rc, xs, rfl⟩ : ∃ rc xs, t = { s with rc := rc, handed := xs } := ⟨_, _, eq_of_noRoutes hframe⟩
  exact { Lawful.refl s with
    capacity := id, attn := id, trainLaws := id, derived := id, ordered := id, buffers := id, sound := hsound
    ranges := fun ⟨hin, hdel, hstand, hhealth, hcounts, hrest⟩ => ⟨hin, hdel, hstand, hhealth, hfaults hcounts, hrest⟩ }

/-- A step that begins to close no route but beside an OPEN one. -/
structure Moved (s t : State) : Prop extends Lawful s t where
  closes : Sound s → ∀ r, Stranded t r → valveIs s r .closing = true

theorem Kept.moved {s t : State} (h : Kept s t) : Moved s t := ⟨h.toLawful, fun hs r hr => (h.stranded hs r hr).1⟩

theorem Moved.trans {s t u : State} (h : Moved s t) (k : Kept t u) : Moved s u :=
  ⟨h.toLawful.trans k.toLawful, fun hs r hr => h.closes hs r (k.stranded (h.sound hs) r hr)⟩

/-- An operation by which no route leaves OPEN and none begins to close. -/
structure Easing (s t : State) : Prop where
  frame : t.noRoutes = s.noRoutes
  faults : Safety.FaultCounts s → Safety.FaultCounts t
  switching : t.rc.switching = s.rc.switching
  opened : ∀ r, valveIs s r .opened = true → valveIs t r .opened = true
  closing : ∀ r, valveIs t r .closing = true → valveIs s r .closing = true

theorem Easing.refl (s : State) : Easing s s := ⟨rfl, id, rfl, fun _ => id, fun _ => id⟩

theorem Easing.trans {s t u : State} (h : Easing s t) (k : Easing t u) : Easing s u :=
  ⟨k.frame.trans h.frame, k.faults ∘ h.faults, k.switching.trans h.switching, fun r => k.opened r ∘ h.opened r,
    fun r => h.closing r ∘ k.closing r⟩

/-- The mode and the start are no business of the Route Controller. -/
theorem sm_of_noRoutes {s t : State} (h : t.noRoutes = s.noRoutes) : t.sm = s.sm := by
  change t.noRoutes.sm = s.noRoutes.sm
  rw [h]

theorem Easing.sound {s t : State} (h : Easing s t) (hs : Sound s) : Sound t := by
  obtain ⟨⟨hstart, hswitch⟩, hcalm⟩ := hs
  rw [← sm_of_noRoutes h.frame, ← h.switching] at hstart
  rw [← sm_of_noRoutes h.frame] at hcalm
  refine ⟨⟨hstart, fun w hw => ?_⟩, hcalm⟩
  obtain ⟨hne, hmanual, hopen⟩ := hswitch w (h.switching ▸ hw)
  rw [← sm_of_noRoutes h.frame] at hmanual
  exact ⟨hne, hmanual, fun hp ha r hr hc => h.opened r (hopen hp ha r hr hc)⟩

theorem Easing.kept {s t : State} (h : Easing s t) : Kept s t :=
  ⟨.ofRoutes h.frame h.faults h.sound, fun _ r ⟨hc, hno⟩ =>
    ⟨h.closing r hc, fun ⟨x, hx, hopen⟩ => hno ⟨x, hx, h.opened x hopen⟩⟩⟩

theorem Easing.foldl {α : Type} {f : State → α → State} {l : List α} (h : ∀ a ∈ l, ∀ s, Easing s (f s a)) (s : State) :
    Easing s (l.foldl f s) := by
  induction l generalizing s with
  | nil => exact .refl s
  | cons a l ih =>
    exact (h a (List.mem_cons_self ..) s).trans (ih (fun b hb => h b (List.mem_cons_of_mem a hb)) _)

theorem Easing.post (k : EventKind) (n : Nat) (d : Int) (s : State) : Easing s (s.post k n d) :=
  ⟨rfl, id, rfl, fun _ => id, fun _ => id⟩

theorem faultCounts_modValve {r : RouteNo} {f : Valve → Valve} {s : State} (hf : ∀ v, v.faults ≤ 7 → (f v).faults ≤ 7)
    (h : Safety.FaultCounts s) : Safety.FaultCounts (modValve r f s) := by
  intro x v hv
  change (s.rc.valves.set r ((s.rc.valves.get r).map f)).get x = some v at hv
  by_cases hx : x = r
  · subst hx
    rw [PerRoute.get_set] at hv
    obtain ⟨w, hw, rfl⟩ := Option.map_eq_some_iff.mp hv
    exact hf w (h x w hw)
  · rw [PerRoute.get_set_ne _ _ hx] at hv
    exact h x v hv

/-- A valve that is not OPEN takes any state but CLOSING, or an OPEN one stays OPEN. -/
theorem Easing.modValve {r : RouteNo} {f : Valve → Valve} {s : State}
    (hopen : valveIs s r .opened = false ∨ ∀ v, (f v).state = .opened) (hclosing : ∀ v, (f v).state ≠ .closing)
    (hf : ∀ v, v.faults ≤ 7 → (f v).faults ≤ 7) : Easing s (modValve r f s) := by
  refine ⟨rfl, faultCounts_modValve hf, rfl, fun x hx => ?_, fun x hx => ?_⟩
  · by_cases hxr : x = r
    · subst hxr
      rcases hopen with hclosed | hopened
      · rw [hx] at hclosed
        cases hclosed
      · rw [valveIs_iff] at hx ⊢
        rw [valveState_modValve_self]
        obtain ⟨v, hv, -⟩ := Option.map_eq_some_iff.mp hx
        simp [hv, hopened]
    · rwa [valveIs_of_state (valveState_modValve_ne f hxr)]
  · by_cases hxr : x = r
    · subst hxr
      rw [valveIs_iff, valveState_modValve_self] at hx
      obtain ⟨v, -, hv⟩ := Option.map_eq_some_iff.mp hx
      exact absurd hv (hclosing v)
    · rwa [valveIs_of_state (valveState_modValve_ne f hxr)] at hx

/-! ### Entering a state (R128 to R133) -/

section
variable {r : RouteNo} {s : State}

theorem Easing.enterOpen (drop : Nat) (r : RouteNo) (s : State) : Easing s (enterOpen drop r s) := by
  refine .trans (t := { s with rc := { s.rc with openOrder := add64 s.rc.openOrder 1 } })
    ⟨rfl, id, rfl, fun _ => id, fun _ => id⟩ (.modValve (.inr fun _ => rfl) (by simp) fun v hv => ?_)
  exact (Nat.sub_le ..).trans hv

theorem Easing.enterClosed (drop : Nat) (h : valveIs s r .opened = false) : Easing s (enterClosed drop r s) :=
  .modValve (.inl h) (by simp) fun _ hv => (Nat.sub_le ..).trans hv

theorem Easing.commandOpen (r : RouteNo) (s : State) : Easing s (commandOpen r s) := by
  unfold Machine.commandOpen
  split
  · rename_i h
    split
    · exact .enterOpen 1 r s
    · refine .modValve (.inl ?_) (by simp) fun _ hv => hv
      simp only [Bool.or_eq_true] at h
      rcases h with (h | h) | h <;> exact valveIs_ne h (by simp)
  · exact .refl s

/-- R132: what a fault of route `r` leaves: every other valve, and the switch. -/
structure FaultedAt (r : RouteNo) (s t : State) : Prop where
  frame : t.noRoutes = s.noRoutes
  faults : Safety.FaultCounts s → Safety.FaultCounts t
  switching : t.rc.switching = s.rc.switching
  others : ∀ x, x ≠ r → valveState t x = valveState s x
  notClosing : valveIs t r .closing = false

theorem faultedAt_faultRoute (k : EventKind) (d : Option Int) (r : RouteNo) (s : State) :
    FaultedAt r s (faultRoute k d r s) := by
  have hclosing : ∀ b : Bool, (if b then ValveState.lockedOut else .fault) ≠ .closing := by decide
  let f : Valve → Valve := fun v => { v with
    state := if decide (faultLimitOf s r ≤ faultCount s r) then .lockedOut else .fault
    faults := faultCount s r
    timerStart := none }
  have hmod : FaultedAt r s (modValve r f s) :=
    { frame := rfl
      faults := faultCounts_modValve fun _ _ => Nat.min_le_left ..
      switching := rfl
      others := fun x hx => valveState_modValve_ne f hx
      notClosing := by
        rw [Bool.eq_false_iff, Ne, valveIs_iff, valveState_modValve_self]
        simp only [Option.map_eq_some_iff, not_exists, not_and]
        exact fun _ _ => hclosing _ }
  exact iteInduction (motive := FaultedAt r s) (fun _ => { hmod with }) (fun _ => { hmod with })

theorem FaultedAt.easing {t : State} (h : FaultedAt r s t) (hopen : valveIs s r .opened = false) : Easing s t := by
  refine ⟨h.frame, h.faults, h.switching, fun x hx => ?_, fun x hx => ?_⟩ <;> by_cases hxr : x = r
  · subst hxr
    rw [hx] at hopen
    cases hopen
  · rwa [valveIs_of_state (h.others x hxr)]
  · subst hxr
    rw [h.notClosing] at hx
    cases hx
  · rwa [valveIs_of_state (h.others x hxr)] at hx

theorem Easing.positionFromLimits (h : valveIs s r .opened = false) : Easing s (positionFromLimits r s) := by
  unfold Machine.positionFromLimits
  split
  · exact .enterOpen 0 r s
  · exact .enterClosed 0 h
  · exact .modValve (.inl h) (by simp) fun _ hv => hv
  · exact (faultedAt_faultRoute _ _ r s).easing h

end

/-! ### The switch (R136 to R138) -/

theorem Kept.endSwitch (k : EventKind) (o : Nat) (d : Int) (s : State) : Kept s (endSwitch k o d s) :=
  ⟨.ofRoutes rfl id fun ⟨_, hcalm⟩ => ⟨⟨fun _ => rfl, fun _ hw => by cases hw⟩, hcalm⟩, fun _ _ => id⟩

/-- A record set for a switch in progress, or for one that begins outside a start, is sound where its own clauses hold. -/
theorem Kept.setSwitch {w : Switch} {s : State} (hstart : Sound s → s.sm.starting = false) (htarget : Sound s → w.target ≠ [])
    (hmanual : Sound s → s.sm.mode = .manual → w.abandon = true)
    (hopen : Sound s → w.phase = .opening → w.abandon = false →
      ∀ r ∈ w.target, (w.commanded.contains r = true → w.arrived.contains r = true) → valveIs s r .opened = true) :
    Kept s (s.setSwitch (some w)) := by
  refine ⟨.ofRoutes rfl id fun hs => ⟨⟨fun hst => ?_, fun x hx => ?_⟩, hs.2⟩, fun _ _ => id⟩
  · have := (hstart hs).symm.trans hst
    cases this
  · cases hx
    exact ⟨htarget hs, hmanual hs, hopen hs⟩

theorem starting_of_switching {s : State} {w : Switch} (hs : Sound s) (hw : s.rc.switching = some w) :
    s.sm.starting = false := by
  by_contra h
  rw [hs.1.1 (by simpa using h)] at hw
  cases hw

/-- A comparison finds a target in TRACKING and SAFE alone, and never an empty one (R134). -/
theorem target_some {s : State} {rs : List RouteNo} {o : Nat} (h : target s = some (rs, o)) :
    (s.sm.mode = .tracking ∨ s.sm.mode = .safe) ∧ rs ≠ [] := by
  unfold target at h
  split at h
  case h_1 hm =>
    refine ⟨.inl hm, ?_⟩
    split at h
    · cases h
    · split at h
      · cases h
      · cases h
        simp
  case h_2 hm =>
    refine ⟨.inr hm, ?_⟩
    obtain ⟨r, -, hr⟩ := Option.map_eq_some_iff.mp h
    cases hr
    simp
  all_goals cases h

theorem Kept.beginSwitch {rs : List RouteNo} {o : Nat} {s : State} (h : target s = some (rs, o)) :
    Kept s (beginSwitch rs o s) := by
  obtain ⟨hmode, hne⟩ := target_some h
  unfold Machine.beginSwitch
  refine .trans (.trans (.setSwitch (fun hs => ?_) (fun _ => hne) (fun _ hm => ?_) fun _ _ _ r hr hc => ?_) (.post _ _ _ _))
    (Easing.foldl (fun r _ s => Easing.commandOpen r s) _).kept
  · by_contra hst
    have := hs.2 (by simpa using hst)
    rcases hmode with hm | hm <;> simp [hm] at this
  · rcases hmode with hm' | hm' <;> rw [hm'] at hm <;> cases hm
  · by_contra hno
    have := hc (by simpa [hr] using hno)
    simp at this

section
variable {w : Switch} {s : State}

theorem commandClose_others {r x : RouteNo} (h : x ≠ r) (s : State) : valveState (commandClose r s) x = valveState s x := by
  unfold commandClose
  split
  · split <;> exact valveState_modValve_ne _ h
  · rfl

theorem commandClose_switching (r : RouteNo) (s : State) : (commandClose r s).rc.switching = s.rc.switching := by
  unfold commandClose
  split
  · split <;> rfl
  · rfl

theorem faultCounts_commandClose (r : RouteNo) (s : State) (h : Safety.FaultCounts s) :
    Safety.FaultCounts (commandClose r s) := by
  unfold commandClose
  split
  · split
    · exact faultCounts_modValve (fun _ hv => (Nat.sub_le ..).trans hv) h
    · exact faultCounts_modValve (fun _ hv => hv) h
  · exact h

/-- While no route of a target has to stay OPEN for a switch's sake, the valves are free. -/
theorem sound_of_free {t : State} (hframe : t.noRoutes = s.noRoutes) (hswitching : t.rc.switching = s.rc.switching)
    (hfree : ∀ w, s.rc.switching = some w → w.phase = .closing ∨ w.abandon = true) (hs : Sound s) : Sound t := by
  obtain ⟨⟨hstart, hswitch⟩, hcalm⟩ := hs
  rw [← sm_of_noRoutes hframe, ← hswitching] at hstart
  rw [← sm_of_noRoutes hframe] at hcalm
  refine ⟨⟨hstart, fun w hw => ?_⟩, hcalm⟩
  rw [hswitching] at hw
  obtain ⟨hne, hmanual, -⟩ := hswitch w hw
  rw [← sm_of_noRoutes hframe] at hmanual
  refine ⟨hne, hmanual, fun hp ha => ?_⟩
  rcases hfree w hw with h | h
  · rw [hp] at h
    cases h
  · rw [ha] at h
    cases h

theorem Lawful.commandClose (r : RouteNo) (hfree : ∀ w, s.rc.switching = some w → w.phase = .closing ∨ w.abandon = true) :
    Lawful s (commandClose r s) :=
  .ofRoutes (commandClose_noRoutes r s) (faultCounts_commandClose r s)
    (sound_of_free (commandClose_noRoutes r s) (commandClose_switching r s) hfree)

/-- R137: the routes a phase 2 closes, one after another. -/
theorem closeAll (hfree : ∀ w, s.rc.switching = some w → w.phase = .closing ∨ w.abandon = true) (rs : List RouteNo) :
    Lawful s (rs.foldl (fun s r => commandClose r s) s)
      ∧ ∀ x ∉ rs, valveState (rs.foldl (fun s r => commandClose r s) s) x = valveState s x := by
  induction rs generalizing s with
  | nil => exact ⟨.refl s, fun _ _ => rfl⟩
  | cons r rs ih =>
    obtain ⟨hlawful, hothers⟩ := ih (s := commandClose r s) (by rw [commandClose_switching]; exact hfree)
    refine ⟨(Lawful.commandClose r hfree).trans hlawful, fun x hx => ?_⟩
    rw [List.mem_cons, not_or] at hx
    exact (hothers x hx.2).trans (commandClose_others hx.1 s)

/-- R137: phase 1 is over only with every route of the target OPEN. -/
theorem target_opened (hs : Sound s) (hw : s.rc.switching = some w) (hover : phaseOver (noteArrivals w s) = true)
    (hp : w.phase = .opening) (ha : w.abandon = false) : ∀ r ∈ w.target, valveIs s r .opened = true := by
  intro r hr
  obtain ⟨-, -, hopen⟩ := hs.1.2 w hw
  by_contra hno
  refine hno (hopen hp ha r hr fun hc => ?_)
  have hmem := List.all_eq_true.mp hover r (by simpa [noteArrivals] using hc)
  simp only [noteArrivals, List.contains_eq_mem, List.mem_filter, decide_eq_true_eq, hp, phaseEnd, Bool.or_eq_true] at hmem
  rcases hmem.2 with h | h
  · simpa using h
  · exact absurd h hno

theorem Kept.beginPhase2 (hw : s.rc.switching = some w) (hover : phaseOver (noteArrivals w s) = true)
    (hp : w.phase = .opening) (ha : w.abandon = false) : Kept s (beginPhase2 (noteArrivals w s) s) := by
  let s1 := s.setSwitch (some { noteArrivals w s with phase := .closing, commanded := closingRoutes s w.target, arrived := [] })
  have hs1 : Kept s s1 :=
    .setSwitch (fun hs => starting_of_switching hs hw) (fun hs => (hs.1.2 w hw).1) (fun hs => (hs.1.2 w hw).2.1)
      (fun _ h => by cases h)
  obtain ⟨hlawful, hothers⟩ := closeAll (s := s1) (fun w hw => by cases hw; exact .inl rfl) (closingRoutes s w.target)
  refine ⟨hs1.toLawful.trans hlawful, fun hs r ⟨hc, hno⟩ => ?_⟩
  have hstay : ∀ x ∈ w.target, valveIs (Machine.beginPhase2 (noteArrivals w s) s) x .opened = true := by
    intro x hx
    rw [valveIs_of_state (s := s)]
    · exact target_opened hs hw hover hp ha x hx
    · exact hothers x (by simp [closingRoutes, hx])
  obtain ⟨x, hx⟩ := List.exists_mem_of_ne_nil _ (hs.1.2 w hw).1
  refine absurd ⟨x, ?_, hstay x hx⟩ hno
  rintro rfl
  rw [valveIs_ne (hstay x hx) (by simp)] at hc
  cases hc

theorem Kept.advancePhase (s : State) : Kept s (advancePhase s) := by
  unfold Machine.advancePhase
  cases hw : s.rc.switching with
  | none => exact .refl s
  | some w =>
    dsimp only
    split
    · rename_i hover
      split
      · exact .endSwitch _ _ _ s
      · rename_i ha
        cases hp : w.phase with
        | opening =>
          have : (noteArrivals w s).phase = .opening := hp
          rw [this]
          exact .beginPhase2 hw hover hp (by simpa [noteArrivals] using ha)
        | closing =>
          have : (noteArrivals w s).phase = .closing := hp
          rw [this]
          exact .endSwitch _ _ _ s
    · refine .setSwitch (fun hs => starting_of_switching hs hw) (fun hs => (hs.1.2 w hw).1) (fun hs => (hs.1.2 w hw).2.1)
        fun hs hp ha r hr hc => ?_
      by_contra hno
      refine hno ((hs.1.2 w hw).2.2 hp ha r hr fun hcmd => ?_)
      have hmem := hc hcmd
      have hp' : w.phase = .opening := hp
      simp only [noteArrivals, List.contains_eq_mem, List.mem_filter, decide_eq_true_eq, hp', phaseEnd,
        Bool.or_eq_true] at hmem
      rcases hmem.2 with h | h
      · simpa using h
      · exact absurd h hno

theorem Kept.settleSwitch (s : State) : Kept s (settleSwitch s) := (Kept.advancePhase s).trans (.advancePhase _)

/-- R135: a comparison. -/
theorem Kept.compare (s : State) : Kept s (compare s) := by
  unfold Machine.compare
  split
  · exact .refl s
  · rename_i rs o htarget
    split
    · exact .refl s
    · split
      · split
        · exact .of_bare rfl
        · exact .hand _ s
      · exact (Kept.beginSwitch htarget).trans (.settleSwitch _)

theorem Kept.afterMove (s : State) : Kept s (afterMove s) := (Kept.settleSwitch s).trans (.compare _)

end

/-! ### Faults (R139) -/

theorem Kept.safeFailed (r : RouteNo) (s : State) : Kept s (safeFailed r s) := .of_bare rfl

/-- R139: a fault ends the switch its route is involved in, and the line-up is compared, which strands no route. -/
theorem afterFault_lawful {r : RouteNo} {s t : State} (h : FaultedAt r s t) (b : Bool) :
    Lawful s (afterFault r b t) ∧ (Sound s → ∀ x, Stranded (afterFault r b t) x → Stranded t x) := by
  have hthen : ∀ {m : State}, Lawful s m → (∀ x, Stranded m x → Stranded t x) → ∀ {u : State}, Kept m u →
      Lawful s u ∧ (Sound s → ∀ x, Stranded u x → Stranded t x) := fun hm hsame _ hu =>
    ⟨hm.trans hu.toLawful, fun hs x hx => hsame x (hu.stranded (hm.sound hs) x hx)⟩
  unfold afterFault
  split
  · rename_i w hw
    have hend : Lawful s (endSwitch .switchAbandoned w.owner 2 t) :=
      .ofRoutes ((endSwitch_noRoutes _ _ _ _).trans h.frame) h.faults fun hs =>
        ⟨⟨fun _ => rfl, fun _ hw => by cases hw⟩, by
          have := hs.2
          rwa [← sm_of_noRoutes h.frame] at this⟩
    have hthen := fun {u} (hu : Kept (endSwitch .switchAbandoned w.owner 2 t) u) => hthen hend (fun _ => id) hu
    dsimp only
    split
    · exact hthen (.hand _ _)
    · split
      · exact hthen ((Kept.safeFailed r _).trans (.compare _))
      · exact hthen (.trans (.hand _ _) (.compare _))
    all_goals exact hthen (.compare _)
  · rename_i hw
    have hstay : Lawful s t := by
      refine .ofRoutes h.frame h.faults fun hs => ?_
      obtain ⟨⟨hstart, hswitch⟩, hcalm⟩ := hs
      rw [← sm_of_noRoutes h.frame, ← h.switching] at hstart
      rw [← sm_of_noRoutes h.frame] at hcalm
      refine ⟨⟨hstart, fun w hw' => ?_⟩, hcalm⟩
      obtain ⟨hne, hmanual, hopen⟩ := hswitch w (h.switching ▸ hw')
      rw [← sm_of_noRoutes h.frame] at hmanual
      refine ⟨hne, hmanual, fun hp ha x hx hc => ?_⟩
      have hxr : x ≠ r := by
        rintro rfl
        simp [involved, hw', hx] at hw
      rw [valveIs_of_state (h.others x hxr)]
      exact hopen hp ha x hx hc
    have hthen := fun {u} (hu : Kept t u) => hthen hstay (fun _ => id) hu
    split
    · exact hthen (.hand _ _)
    · split
      · exact hthen ((Kept.safeFailed r _).trans (.compare _))
      · exact hthen (.compare _)

theorem Moved.afterFault {r : RouteNo} {s t : State} (h : FaultedAt r s t) (b : Bool) : Moved s (afterFault r b t) := by
  obtain ⟨hlawful, hstranded⟩ := afterFault_lawful h b
  refine ⟨hlawful, fun hs x hx => ?_⟩
  obtain ⟨hc, -⟩ := hstranded hs x hx
  by_cases hxr : x = r
  · subst hxr
    rw [h.notClosing] at hc
    cases hc
  · rwa [valveIs_of_state (h.others x hxr)] at hc

/-- What follows a fault that the state already shows. -/
theorem Kept.afterFault {r : RouteNo} {s : State} (h : faulted s r = true) (b : Bool) : Kept s (afterFault r b s) := by
  have hclosing : valveIs s r .closing = false := by
    unfold faulted at h
    rcases Bool.or_eq_true_iff.mp h with h | h <;> exact valveIs_ne h (by simp)
  obtain ⟨hlawful, hstranded⟩ := afterFault_lawful ⟨rfl, id, rfl, fun _ _ => rfl, hclosing⟩ b
  exact ⟨hlawful, hstranded⟩

/-! ### Events of the valves -/

theorem Moved.takeLimits (r : RouteNo) (o n : Limits) (s : State) : Moved s (takeLimits r o n s) := by
  have hfault : ∀ k d b, Moved s (Machine.afterFault r b (faultRoute k d r s)) := fun k d b =>
    .afterFault (faultedAt_faultRoute k d r s) b
  have hopen : ∀ d, Moved s (Machine.afterMove (Machine.enterOpen d r s)) := fun d =>
    ((Easing.enterOpen d r s).kept.trans (.afterMove _)).moved
  have hclosed : ∀ d, valveIs s r .opened = false → Moved s (Machine.afterMove (Machine.enterClosed d r s)) := fun d h =>
    ((Easing.enterClosed d h).kept.trans (.afterMove _)).moved
  have hstay : Moved s s := (Kept.refl s).moved
  unfold Machine.takeLimits
  split
  case h_1 => split_ifs; exacts [hfault _ _ _, hopen 1, hstay]
  case h_2 h => split_ifs; exacts [hfault _ _ _, hclosed 1 (valveIs_ne (valveIs_iff.mpr h) (by simp)), hstay]
  case h_3 => split_ifs; exacts [hfault _ _ _, hfault _ _ _, hstay]
  case h_4 => split_ifs; exacts [hfault _ _ _, hfault _ _ _, hstay]
  case h_5 h =>
    split_ifs
    exacts [hfault _ _ _, hopen 0, hclosed 0 (valveIs_ne (valveIs_iff.mpr h) (by simp)), hstay]
  all_goals exact hstay

theorem Moved.travelExpiry (r : RouteNo) (s : State) : Moved s (travelExpiry r s) := by
  unfold Machine.travelExpiry
  split
  · exact .afterFault (faultedAt_faultRoute _ _ r s) false
  · exact (Kept.refl s).moved

end Sys2Proof.Proofs.EveryStep
end

section
/-! What the Cut Planner keeps (chapter 6). -/
namespace Sys2Proof.Proofs.EveryStep

open Sys2Proof Sys2Proof.Machine

/-! ### The plan line-up (R117, R118) -/

theorem Kept.applyPlan (rs : List RouteNo) (k : PlanKind) (o : Nat) (s : State) : Kept s (applyPlan rs k o s) := by
  unfold Machine.applyPlan
  split
  · exact (Kept.setPlan _ s).trans (.post _ _ _ _)
  · exact .setPlan _ s

theorem Kept.planBody (id : Nat) (s : State) : Kept s (planBody id s) := (Kept.applyPlan _ _ _ s).trans (.compare _)

theorem Kept.markManifold (f : TicketFlags → TicketFlags) (s : State) : Kept s (s.setTrain (markManifold f s.lt.train)) :=
  .setTrain (.markManifold f _)

theorem Kept.applyAction (a : Action) (s : State) : Kept s (applyAction a s) := by
  unfold Machine.applyAction
  split
  · dsimp only
    split
    · exact (Kept.applyPlan _ _ _ s).trans (.markManifold _ _)
    · exact .applyPlan _ _ _ s
  · exact .refl s

theorem trainKept_flagAction (a : Action) (t : List Entry) : TrainKept t (flagAction a t) := by
  unfold flagAction
  split
  · exact .markManifold _ t
  · dsimp only
    split
    · exact (TrainKept.markBatch _ _ t).trans (.markBatch _ _ _)
    · exact .markBatch _ _ t

theorem Kept.releaseProtection (a : Action) (s : State) : Kept s (releaseProtection a s) := by
  unfold Machine.releaseProtection
  split
  · exact .of_bare rfl
  · exact .refl s

theorem trainKept_markLeft (a : Action) (t : List Entry) : TrainKept t (markLeft a t) := by
  unfold markLeft
  split
  · exact .marks
  · exact .refl t

theorem Kept.dueEffect (a : Action) (s : State) : Kept s (dueEffect a s) := by
  refine .trans ?_ (.releaseProtection a _)
  refine .trans ?_ (.setTrain (trainKept_flagAction a _))
  refine .trans ?_ (.post _ _ _ _)
  exact (Kept.setTrain (trainKept_markLeft a s.lt.train)).trans (.applyAction a _)

theorem Kept.dueAction (f : Precedence) (a : Action) (s : State) : Kept s (dueAction f a s) := by
  refine (Kept.dueEffect a s).trans ?_
  unfold Machine.dueAction
  dsimp only
  split
  · refine .trans ?_ (.hand _ _)
    split
    · exact .compare _
    · exact .refl _
  · exact .completionCheck _

/-- The comparison at the end of a command adds to what the command kept. -/
theorem Kept.settlePlan {b s : State} (f : Precedence) (before : State) (h : Kept b s) : Kept b (settlePlan f before s) := by
  unfold Machine.settlePlan
  split
  · exact h
  · split
    · exact h
    · exact h.trans (.compare s)

theorem Kept.dueLoop (f : Precedence) (n : Nat) (s : State) : Kept s (dueLoop f n s) := by
  induction n generalizing s with
  | zero => exact .refl s
  | succ n ih =>
    unfold Machine.dueLoop
    cases hactions : s.cp.actions with
    | nil => exact .refl s
    | cons a rest =>
      dsimp only
      split
      · refine ((Kept.subActions ?_).trans (.dueAction f a _)).trans (ih _)
        rw [hactions]
        exact List.sublist_cons_self a rest
      · exact .refl s

theorem Kept.cpAdvance (n : Nat) (f : Precedence) (s : State) : Kept s (cpAdvance n f s) :=
  .settlePlan f _ (.trans (t := { s with cp := { s.cp with curS := n } }) (.of_bare rfl) (.dueLoop f _ _))

/-! ### Scheduling (R112 to R116) -/

theorem Kept.placeAction (f : Precedence) (a : Action) (b : Bool) (s : State) : Kept s (placeAction f a b s) := by
  unfold Machine.placeAction
  split
  · exact .dueAction f _ s
  · split
    · exact .insertAction a ‹_›
    · exact (Kept.post _ _ _ s).trans (.hand _ _)

theorem Kept.checkDisposition (id : Nat) (s : State) : Kept s (checkDisposition id s) := by
  unfold Machine.checkDisposition
  split
  · exact .refl s
  · split
    · exact .refl s
    · refine (Kept.setTrain (.trans (.modEntry id _ ?_ _) (.markBatch id _ _))).trans (.post _ _ _ _)
      exact fun e => .of_map _ (by exact fun _ => ⟨rfl, fun h => h, fun h => h⟩) rfl rfl rfl rfl rfl rfl

theorem Kept.setMeasured (k : Nat) (s : State) : Kept s (setMeasured k s) := .setTrain .marks

theorem Kept.keepTriggers (a : Action) (s : State) : Kept s (keepTriggers a s) := .setTrain .marks

theorem Kept.reportMerged (k : Nat) (c : Int) (s : State) : Kept s (reportMerged k c s) :=
  (Kept.setTrain (.markBatch k _ _)).trans (.post _ _ _ _)

theorem Kept.removeZoneDivert (b : Nat) (s : State) : Kept s (removeZoneDivert b s) := by
  unfold Machine.removeZoneDivert
  split
  · refine .trans ?_ (.hand _ _)
    refine .trans (t := s.setActions (s.cp.actions.filter fun a => !zoneDivert b a)) (.subActions List.filter_sublist) ?_
    exact .setTrain .marks
  · exact .refl s

theorem convertEnter_trigger (tb : Tables) (k : Nat) (a : Action) : (convertEnter tb k a).trigger = a.trigger := by
  unfold convertEnter
  split <;> rfl

theorem Kept.measureTrailing (k b : Nat) (s : State) : Kept s (measureTrailing k b s).1 := by
  unfold Machine.measureTrailing
  split
  · exact .refl s
  · have h := Kept.setMeasured k s
    dsimp only
    split
    · split
      · refine (h.trans ?_).trans ((Kept.removeZoneDivert b _).trans (.reportMerged k _ _))
        exact .mapActions (convertEnter_trigger _ k)
      · exact h.trans (.post _ _ _ _)
    · exact h

theorem Kept.measureEnter (k : Nat) (a : Action) (s : State) : Kept s (measureEnter k a s).1 := by
  unfold Machine.measureEnter
  split
  · exact .refl s
  · have h := Kept.setMeasured k s
    dsimp only
    split
    · split
      · refine .trans ?_ (.reportMerged k _ _)
        split
        · exact h.trans (.removeZoneDivert _ _)
        · exact h
      · exact h.trans (.post _ _ _ _)
    · exact h

theorem Kept.measureAhead (a : Action) (s : State) : Kept s (measureAhead a s).1 := by
  have h := Kept.keepTriggers a s
  unfold Machine.measureAhead
  split
  · split
    · exact h.trans (.measureTrailing _ _ _)
    · exact h
  · exact h

theorem Kept.scheduleAction (f : Precedence) (a : Action) (b : Bool) (s : State) : Kept s (scheduleAction f a b s) := by
  have h := Kept.measureAhead a s
  unfold Machine.scheduleAction
  dsimp only
  split
  · exact (h.trans (.measureEnter _ a _)).trans (.placeAction f _ b _)
  · split
    · exact h
    · exact h.trans (.placeAction f a b _)

theorem Kept.scheduleLevel (f : Precedence) (id : Nat) (h : HandedAs) (l : Level) (x : Nat) (s : State) :
    Kept s (scheduleLevel f id h l x s) := by
  unfold Machine.scheduleLevel
  split
  · exact .refl s
  · split
    · exact .refl s
    · split
      · exact .refl s
      · exact (Kept.takeNumber s).trans (.scheduleAction f _ _ _)
    · exact ((Kept.checkDisposition id s).trans (.takeNumber _)).trans (.scheduleAction f _ _ _)

theorem Kept.planning {k : State → State} {s : State} (h : Kept s (k s)) : Kept s (planning k s) := by
  unfold Machine.planning
  split
  · exact .refl s
  · exact h

theorem Kept.crossingToPlanner (ch : Channel) (id : Nat) (l : Level) (x : Nat) (b : Bool) (f : Precedence) (s : State) :
    Kept s (crossingToPlanner ch id l x b f s) := by
  unfold Machine.crossingToPlanner
  split
  · exact .refl s
  · split
    · exact .settlePlan f s (.scheduleLevel f id _ l x s)
    · exact .refl s

theorem Kept.pointsToPlanner (id : Nat) (f : Precedence) (ps : List CutPoint) (s : State) :
    Kept s (pointsToPlanner id f ps s) := by
  induction ps generalizing s with
  | nil => exact .refl s
  | cons p ps ih => exact (Kept.scheduleLevel f id _ p.level p.point s).trans (ih _)

theorem Kept.advanceFirst (id : Nat) (f : Precedence) (s : State) : Kept s (advanceFirst id f s) := by
  unfold Machine.advanceFirst
  split
  · exact .refl s
  · split
    · exact .refl s
    · exact .settlePlan f s ((Kept.subActions List.eraseP_sublist).trans (.dueAction f _ _))

/-! ### Protection and return (R120 to R122) -/

theorem Kept.setProtectCount (p : PerChannel Nat) (s : State) : Kept s { s with cp := { s.cp with protectCount := p } } :=
  .of_bare rfl

theorem Kept.setProtectedMark (p : PerChannel (Option Protection)) (s : State) :
    Kept s { s with cp := { s.cp with protectedMark := p } } := .of_bare rfl

theorem Kept.markProtected (ch : Channel) (a : Action) (gone : Bool) (s : State) : Kept s (markProtected ch a gone s) :=
  .of_bare rfl

theorem Kept.excursionStart (ch : Channel) (x : Nat) (g : Bool) (f : Precedence) (s : State) :
    Kept s (excursionStart ch x g f s) := by
  unfold Machine.excursionStart
  split
  · refine .settlePlan f s ?_
    have h := (Kept.takeNumber s).trans (.placeAction f (excursionAction .protect ch x s) (ch == .manifold) _)
    split
    · exact h
    · exact h.trans (.markProtected _ _ _ _)
  · exact .refl s

theorem Kept.excursionEnd (ch : Channel) (x : Nat) (f : Precedence) (s : State) : Kept s (excursionEnd ch x f s) := by
  unfold Machine.excursionEnd
  split
  · refine .settlePlan f s ?_
    have h := ((Kept.setProtectedMark (s.cp.protectedMark.set ch none) s).trans (.takeNumber _)).trans
      (.placeAction f (excursionAction .return_ ch x s) (ch == .manifold) _)
    split
    · exact h.trans (.setProtectCount _ _)
    · exact h
  · exact .refl s

theorem Kept.orphanProtection (ch : Channel) (s : State) : Kept s (orphanProtection ch s) := by
  unfold Machine.orphanProtection
  split
  · exact .of_bare rfl
  · exact .refl s

theorem Kept.standAsDivert (id : Nat) (x : Int) (b : Bool) (s : State) : Kept s (standAsDivert id x b s) := by
  unfold Machine.standAsDivert
  dsimp only
  have h : Kept s (s.setTrain (modEntry id (fun e => { e with
      protectStands := true, firstLeft := e.firstLeft || b
      firstTrigger := if e.firstTrigger.isNone then some x else e.firstTrigger }) s.lt.train)) := .setTrain .marks
  split
  · split
    · exact h.trans (.measureTrailing _ _ _)
    · exact h
  · exact h

theorem takeOverAction_trigger (n id : Nat) (a : Action) : (takeOverAction n id a).trigger = a.trigger := by
  unfold takeOverAction
  split <;> rfl

theorem Kept.protectTakeover (ch : Channel) (id : Nat) (s : State) : Kept s (protectTakeover ch id s) := by
  unfold Machine.protectTakeover
  split
  · exact .refl s
  · refine .trans (t := { s with cp := { s.cp with
      protectedMark := s.cp.protectedMark.set ch none
      protectCount := s.cp.protectCount.set ch (s.cp.protectCount.get ch - 1) } }) (.of_bare rfl) ?_
    dsimp only
    split
    · exact .trans (.mapActions (takeOverAction_trigger _ id)) (.standAsDivert _ _ _ _)
    · split
      · split
        · exact ((Kept.setPlan _ _).trans (.compare _)).trans (.standAsDivert _ _ _ _)
        · exact .refl _
      · exact .refl _

theorem Kept.stripCheck (s : State) : Kept s (stripCheck s) := by
  unfold Machine.stripCheck
  split
  · exact .refl s
  · split
    · exact .refl s
    · refine iteInduction (motive := Kept s) (fun _ => .trans ?_ (.planBody _ _)) (fun _ => ?_)
      all_goals
        refine .trans ?_ (.post _ _ _ _)
        exact .setTrain .marks

end Sys2Proof.Proofs.EveryStep
end

section
/-! What the Line Tracker and its window handling keep (chapters 1 and 5). -/
namespace Sys2Proof.Proofs.EveryStep

open Sys2Proof Sys2Proof.Machine

/-- An interface changed in place, for every batch with the ID. -/
theorem Kept.modInterface {id : Nat} {g : Interface → Interface} {s : State} (hg : ∀ i, InterfaceKept i (g i)) :
    Kept s (s.setTrain (modInterface id g s.lt.train)) := .setTrain (.modInterface id g hg _)

/-! ### Candidates (R86 to R91) -/

theorem Kept.supplyDefault (e : Entry) (d : Int) (s : State) : Kept s (supplyDefault e d s) := by
  unfold Machine.supplyDefault
  split
  · exact .refl s
  · exact (Kept.setTrain (.markBatch e.id _ _)).trans (.post _ _ _ _)

theorem Kept.takeSnapshot (a e : Entry) (sn : Snapshot) (s : State) : Kept s (takeSnapshot a e sn s) := by
  refine .trans (.trans ?_ (.supplyDefault a 1 _)) (.supplyDefault e 2 _)
  exact .modInterface fun _ => ⟨rfl, fun h => h, fun h => h⟩

theorem Kept.releaseFrom (id : Nat) (c : Channel) (s : State) : Kept s (releaseFrom id c s) := by
  unfold Machine.releaseFrom
  split
  · exact .hand _ s
  · exact .refl s

theorem Kept.handPoints (id : Nat) (s : State) : Kept s (handPoints id s) := by
  unfold Machine.handPoints
  split
  · exact .refl s
  · split
    · exact .refl s
    · exact .hand _ s

theorem Kept.placeVolumetric (id : Nat) (k : EventKind) (d : Int) (s : State) : Kept s (placeVolumetric id k d s) := by
  refine .trans (.trans (.trans (.trans (.trans ?_ (.releaseFrom _ _ _)) (.releaseFrom _ _ _)) (.post _ _ _ _))
    (.handPoints _ _)) (.completionCheck _)
  exact .modInterface fun _ => ⟨rfl, nofun, fun h => h⟩

theorem Kept.openWindow (e : Entry) (c : Channel) (sn : Snapshot) (x : Int) (s : State) :
    Kept s (openWindow e c sn x s) := by
  refine .trans (.trans (.trans ?_ (.setWindow _ _)) (.post _ _ _ _)) (.hand _ _)
  exact .modInterface fun _ => ⟨rfl, nofun, fun h => h⟩

theorem Kept.considerCandidate (a e : Entry) (i : Interface) (s : State) : Kept s (considerCandidate a e i s).1 := by
  unfold Machine.considerCandidate
  dsimp only
  split
  · exact .refl s
  · split
    · exact (Kept.takeSnapshot _ _ _ s).trans (.placeVolumetric _ _ _ _)
    · split
      · exact (Kept.takeSnapshot _ _ _ s).trans (.placeVolumetric _ _ _ _)
      · split
        · exact (Kept.takeSnapshot _ _ _ s).trans (.placeVolumetric _ _ _ _)
        · exact (Kept.takeSnapshot _ _ _ s).trans (.openWindow _ _ _ _ _)

theorem Kept.considerWindow (s : State) : Kept s (considerWindow s) := by
  have hloop : ∀ n s, Kept s (considerLoop n s) := by
    intro n
    induction n with
    | zero => exact .refl
    | succ n ih =>
      intro s
      unfold considerLoop
      split
      · exact .refl s
      · split
        · exact .refl s
        · dsimp only
          split
          · exact (Kept.considerCandidate _ _ _ s).trans (ih _)
          · exact .considerCandidate _ _ _ s
  exact hloop _ s

theorem Kept.closeVolumetric (id : Nat) (k : EventKind) (d : Int) (s : State) : Kept s (closeVolumetric id k d s) :=
  ((Kept.setWindow none s).trans (.placeVolumetric id k d _)).trans (.considerWindow _)

/-! ### Manifold confirmation (R96 to R99) -/

theorem Kept.noConfirm (id : Nat) (d : Int) (s : State) : Kept s (noConfirm id d s) := by
  refine .trans ?_ (.post _ _ _ _)
  exact .modInterface fun _ => ⟨rfl, fun h => h, fun h => h⟩

theorem Kept.openConfirm (id : Nat) (l u : Int) (sn : Snapshot) (s : State) : Kept s (openConfirm id l u sn s) := by
  unfold Machine.openConfirm
  dsimp only
  split
  · exact .setConfirm _ s
  · exact (Kept.setConfirm _ s).trans (.hand _ _)

theorem Kept.considerConfirm (s : State) : Kept s (considerConfirm s) := by
  have hloop : ∀ n s, Kept s (confirmLoop n s) := by
    intro n
    induction n with
    | zero => exact .refl
    | succ n ih =>
      intro s
      unfold confirmLoop
      split
      · exact .refl s
      · split
        · exact .refl s
        · dsimp only
          split_ifs
          · exact .refl s
          · exact (Kept.noConfirm _ 2 s).trans (ih _)
          · exact .refl s
          · exact .openConfirm _ _ _ _ s
  exact hloop _ s

theorem Kept.endConfirm (id : Nat) (d : Int) (s : State) : Kept s (endConfirm id d s) :=
  ((Kept.setConfirm none s).trans (.noConfirm id d _)).trans (.considerConfirm _)

theorem Kept.confirmGivenUp (id : Nat) (s : State) : Kept s (confirmGivenUp id s) := by
  unfold Machine.confirmGivenUp
  split
  · split
    · exact .endConfirm id 3 s
    · exact .refl s
  · exact .refl s

/-! ### The S advance (R1) -/

theorem Kept.windowExpiry (s : State) : Kept s (windowExpiry s) := by
  unfold Machine.windowExpiry
  split
  · exact .refl s
  · split_ifs
    · exact .closeVolumetric _ _ _ s
    · exact (Kept.setWindow _ s).trans (.hand _ _)
    · exact .refl s

theorem Kept.confirmExpiry (s : State) : Kept s (confirmExpiry s) := by
  unfold Machine.confirmExpiry
  split
  · exact .refl s
  · split_ifs
    · exact .endConfirm _ _ s
    · exact (Kept.setConfirm _ s).trans (.hand _ _)
    · exact .refl s

theorem Kept.ltAdvance (n : Nat) (s : State) : Kept s (ltAdvance n s) := by
  refine .trans (.trans (.trans (.trans (.trans ?_ (.completionCheck _)) (.windowExpiry _)) (.considerWindow _))
    (.confirmExpiry _)) (.considerConfirm _)
  exact .of_bare rfl

/-! ### Anchors (R16, R17, R92) -/

theorem Kept.applyAnchor (id : Nat) (src : AnchorSource) (p : Nat) (i : Interface) (s : State) :
    Kept s (applyAnchor id src p i s) := by
  refine .trans ?_ (.post _ _ _ _)
  refine .trans (t := s.setTrain (Machine.rederive (Machine.modInterface id (fun j => { j with
    residual := some ((p : Int) - i.pos), pos := p, track := .anchored, method := some (methodOf src) }) s.lt.train)))
    (.rederive (.modEntry (by exact fun e => .of_leading _ (by exact fun _ h => h) rfl (fun h => h) rfl rfl) _)) (.of_bare rfl)

theorem Kept.anchorInterface (id : Nat) (v : Int) (src : AnchorSource) (s : State) :
    Kept s (anchorInterface id v src s) := by
  unfold Machine.anchorInterface
  split
  · split
    · dsimp only
      split
      · exact (Kept.applyAnchor _ _ _ _ s).trans (.setWindow none _)
      · exact .applyAnchor _ _ _ _ s
    · exact .refl s
  · exact .refl s

theorem Kept.afterAnchor (b s : State) : Kept s (afterAnchor b s) := by
  unfold Machine.afterAnchor
  split
  · exact (Kept.completionCheck s).trans (.considerWindow _)
  · exact .completionCheck s

theorem Kept.takeAnchor (id : Nat) (v : Int) (src : AnchorSource) (s : State) : Kept s (takeAnchor id v src s) := by
  unfold Machine.takeAnchor
  split
  · split
    · exact (Kept.anchorInterface id v src s).trans (.afterAnchor s _)
    · exact .refl s
  · exact .refl s

/-! ### What the channels report (R92 to R99) -/

theorem Kept.takeCrossing (ch : Channel) (id : Nat) (l : Level) (x : Nat) (s : State) :
    Kept s (takeCrossing ch id l x s) :=
  .modInterface fun i => by split; exacts [⟨rfl, fun h => h, fun h => h⟩, .refl i]

theorem Kept.takeMiss (ch : Channel) (id : Nat) (s : State) : Kept s (takeMiss ch id s) := by
  unfold Machine.takeMiss
  split
  · split
    · exact .closeVolumetric _ _ _ s
    · split
      · split_ifs
        exacts [.endConfirm _ _ s, .refl s]
      · exact .refl s
  · split
    · split_ifs
      exacts [.endConfirm _ _ s, .refl s]
    · exact .refl s

theorem Kept.windowLost (ch : Channel) (id : Nat) (s : State) : Kept s (windowLost ch id s) := by
  unfold Machine.windowLost
  split
  · split_ifs
    exacts [.closeVolumetric _ _ _ s, .setWindow _ s, .refl s]
  · exact .refl s

theorem Kept.confirmLost (ch : Channel) (id : Nat) (s : State) : Kept s (confirmLost ch id s) := by
  unfold Machine.confirmLost
  split
  · split_ifs
    exacts [.endConfirm _ _ s, .setConfirm _ s, .refl s]
  · exact .refl s

theorem Kept.handAgain {s t : State} (ch : Channel) (id : Nat) (r : HoldRole) (h : Kept s t) :
    Kept s (handAgain ch id r t s) := by
  unfold Machine.handAgain
  split
  · exact h.trans (.hand _ _)
  · exact .refl s

theorem Kept.windowLeftOff (ch : Channel) (s : State) : Kept s (windowLeftOff ch s) := by
  unfold Machine.windowLeftOff
  split
  · split_ifs
    exacts [.handAgain _ _ _ (.setWindow _ s), .refl s]
  · exact .refl s

theorem Kept.confirmLeftOff (ch : Channel) (s : State) : Kept s (confirmLeftOff ch s) := by
  unfold Machine.confirmLeftOff
  split
  · split_ifs
    exacts [.handAgain _ _ _ (.setConfirm _ s), .refl s]
  · exact .refl s

theorem Kept.takeLowContrast (ch : Channel) (id : Nat) (r : HoldRole) (x : Nat) (s : State) :
    Kept s (takeLowContrast ch id r x s) := by
  unfold Machine.takeLowContrast
  split
  · split
    · split_ifs
      · refine .trans ?_ (.closeVolumetric _ _ _ _)
        exact .modInterface fun _ => ⟨rfl, fun h => h, fun h => h⟩
      · exact .refl s
    · exact .refl s
  · split
    · split_ifs
      exacts [.endConfirm _ _ s, .refl s]
    · exact .refl s

theorem Kept.judgeDeparture (id st p tol : Nat) (s : State) : Kept s (judgeDeparture id st p tol s) := by
  have hmod : ∀ (g : ConfirmResult), Kept s (s.setTrain (Machine.modInterface id (fun i => { i with
      mfStart := some st, mfResult := some g }) s.lt.train)) := fun g => .modInterface fun _ => ⟨rfl, fun h => h, fun h => h⟩
  refine iteInduction (motive := Kept s) (fun _ => .trans ?_ (.hand _ _)) (fun _ => ?_) <;>
    exact (hmod _).trans (.post _ _ _ _)

theorem Kept.takeConfirmDeparture (id st : Nat) (s : State) : Kept s (takeConfirmDeparture id st s) := by
  unfold Machine.takeConfirmDeparture
  split
  · split
    · refine .trans ?_ (.considerConfirm _)
      split
      · exact (Kept.setConfirm none s).trans (.judgeDeparture _ _ _ _ _)
      · exact .setConfirm none s
    · exact .refl s
  · exact .refl s

end Sys2Proof.Proofs.EveryStep
end

section
/-! What the Signature Detector keeps (chapter 4). -/
namespace Sys2Proof.Proofs.EveryStep

open Sys2Proof Sys2Proof.Machine

/-- R62: a channel's buffers within their sizes. -/
def Fits (c : ChannelState) : Prop :=
  c.body.length ≤ Config.bodyCap ∧ c.settleBuf.length ≤ Config.bodyCap ∧ c.acquire.length ≤ Config.acquireCount

theorem length_keepLast_le {α : Type} (k : Nat) (xs : List α) : (keepLast k xs).length ≤ k := by
  unfold keepLast
  rw [List.length_drop]
  omega

/-- A channel is set to one whose buffers fit where its own did. -/
theorem Kept.setChannel {ch : Channel} {c : ChannelState} {s : State} (h : Fits (s.sd.get ch) → Fits c) :
    Kept s (s.setChannel ch c) := by
  refine { Kept.refl s with
    capacity := id, attn := id, trainLaws := id, derived := id, ranges := id, ordered := id, sound := id
    stranded := fun _ _ => id, buffers := fun hs x => ?_ }
  change Fits ((s.sd.set ch c).get x)
  by_cases hx : x = ch
  · subst hx
    rw [PerChannel.get_set]
    exact h (hs x)
  · rw [PerChannel.get_set_ne _ _ hx]
    exact hs x

theorem Kept.modChannel {ch : Channel} {f : ChannelState → ChannelState} {s : State} (h : ∀ c, Fits c → Fits (f c)) :
    Kept s (modChannel ch f s) := .setChannel (h _)

theorem fits_unfollow {c : ChannelState} (m : ChannelMode) (h : Fits c) : Fits (unfollow m c) := ⟨h.1, Nat.zero_le _, h.2.2⟩

theorem fits_toAcquire (c : ChannelState) : Fits (toAcquire c) := ⟨Nat.zero_le _, Nat.zero_le _, Nat.zero_le _⟩

/-! ### The interface followed -/

theorem Kept.takeInterface (ch : Channel) (ho : HandOff) (s : State) : Kept s (takeInterface ch ho s) := by
  unfold Machine.takeInterface
  dsimp only
  split
  · refine .trans ?_ (.hand _ _)
    exact .setChannel (fits_unfollow .clean)
  · split
    · exact .setChannel (fits_unfollow .watch)
    · split
      · refine .trans ?_ (.post _ _ _ _)
        exact .setChannel (fits_unfollow .watch)
      · exact .setChannel (fits_unfollow .watch)

theorem Kept.toClean {ch : Channel} {c : ChannelState} {s : State} (h : Fits (s.sd.get ch) → Fits c) :
    Kept s (toClean ch c s) := by
  unfold Machine.toClean
  dsimp only
  split
  · exact .setChannel (fits_unfollow .clean ∘ h)
  · refine .trans ?_ (.takeInterface ch _ _)
    exact .setChannel (fits_unfollow .clean ∘ h)

/-! ### Crossings and departures (R72, R73, R76) -/

theorem Kept.handToTracker (ch : Channel) (id x : Nat) (ls : List Level) (s : State) :
    Kept s (handToTracker ch id x ls s) := .foldl _ (fun s _ => .hand _ s) ls s

theorem Kept.handToPlanner (ch : Channel) (id x : Nat) (b : Bool) (ls : List Level) (s : State) :
    Kept s (handToPlanner ch id x b ls s) := .foldl _ (fun s _ => .hand _ s) ls s

theorem Kept.examineLevels (ch : Channel) (f t : Nat) (b : Bool) (s : State) : Kept s (examineLevels ch f t b s) := by
  unfold Machine.examineLevels
  dsimp only
  split
  · exact .refl s
  · split_ifs
    · refine .trans (.trans ?_ (.handToTracker _ _ _ _ _)) (.handToPlanner _ _ _ _ _ _)
      exact .setChannel id
    · refine .trans ?_ (.handToTracker _ _ _ _ _)
      exact .setChannel id
    · exact .refl s

theorem Kept.filterHanded (p : Instr → Bool) (s : State) : Kept s { s with handed := s.handed.filter p } := .of_bare rfl

theorem Kept.discardCrossings (ch : Channel) (s : State) : Kept s (discardCrossings ch s) := by
  unfold Machine.discardCrossings
  dsimp only
  split
  · exact .refl s
  · refine .trans ?_ (.filterHanded _ _)
    refine .trans ?_ (.setChannel id)
    exact .modInterface fun i => by split; exacts [⟨rfl, fun h => h, fun h => h⟩, .refl i]

/-- R76: whatever keeps the laws may take the points that are supplied. -/
theorem Kept.supplyWith {give : List CutPoint → State → State} (hgive : ∀ ps s, Kept s (give ps s)) (id pos : Nat)
    (own : Levels (Option Nat)) (s : State) : Kept s (supplyWith give id pos own s) := by
  unfold Machine.supplyWith
  split
  · exact .refl s
  · split
    · exact .refl s
    · dsimp only
      split
      · exact .refl s
      · refine .trans ?_ (hgive _ _)
        exact .modInterface fun _ => ⟨rfl, fun h => h, fun h => h⟩

theorem Kept.supplyPoints (id pos : Nat) (own : Levels (Option Nat)) (s : State) : Kept s (supplyPoints id pos own s) :=
  .supplyWith (fun _ s => .hand _ s) id pos own s

theorem Kept.supplyMidzone (ch : Channel) (s : State) : Kept s (supplyMidzone ch s) := by
  unfold Machine.supplyMidzone
  dsimp only
  split
  · exact .refl s
  · split
    · split
      · exact .supplyPoints _ _ _ s
      · exact .refl s
    · exact .refl s

theorem Kept.confirmDeparture (ch : Channel) (s : State) : Kept s (confirmDeparture ch s) := by
  have h : Kept s (s.setChannel ch { s.sd.get ch with mode := .mixed, expiryMark := false }) := .setChannel id
  unfold Machine.confirmDeparture
  dsimp only
  split
  · split
    · exact (h.trans (.hand _ _)).trans (.foldl _ (fun s l => by split; exacts [.hand _ s, .refl s]) _ _)
    · exact h.trans (.hand _ _)
  · exact h

theorem Kept.falseDeparture (ch : Channel) (t : Nat) (s : State) : Kept s (falseDeparture ch t s) := by
  unfold Machine.falseDeparture
  dsimp only
  split
  · exact .refl s
  · have h := fun n d => (Kept.discardCrossings ch s).trans (.post .falseDeparture n d _)
    split
    · exact ((h _ _).trans (.toClean id)).trans (.hand _ _)
    · exact (h _ _).trans (.modChannel fun _ => id)

/-! ### Long zones, settling and excursions (R74 to R78) -/

theorem Kept.declareLong (ch : Channel) (n : Nat) (s : State) : Kept s (declareLong ch n s) := by
  refine .trans (.trans (.trans ?_ (.handToPlanner _ _ _ _ _ _)) (.setChannel fun _ => fits_toAcquire _)) (.post _ _ _ _)
  exact .handToTracker _ _ _ _ s

theorem length_settledBody_le (band : Nat) (buf : List Int) : (settledBody band buf).length ≤ buf.length := by
  unfold settledBody
  split
  · exact Nat.zero_le _
  · exact List.length_filter_le ..

theorem Kept.settle (ch : Channel) (s : State) : Kept s (settle ch s) :=
  .toClean fun ⟨_, hsettle, hacquire⟩ => ⟨(length_settledBody_le _ _).trans hsettle, hsettle, hacquire⟩

theorem Kept.enterExcursion (ch : Channel) (s : State) : Kept s (enterExcursion ch s) := by
  unfold Machine.enterExcursion
  dsimp only
  split
  · exact .refl s
  · split
    · exact .refl s
    · refine .trans (.trans ?_ (.post _ _ _ _)) (.hand _ _)
      exact .setChannel id

theorem Kept.endExcursion (ch : Channel) (n : Nat) (s : State) : Kept s (endExcursion ch n s) := by
  unfold Machine.endExcursion
  dsimp only
  split
  · exact .refl s
  · refine .trans ?_ (.toClean fun h => h)
    exact (Kept.post _ _ _ s).trans (.hand _ _)

/-! ### Readings (R63 to R78) -/

theorem Kept.readAcquire (ch : Channel) (v : Int) (q : ReadingQuality) (s : State) : Kept s (readAcquire ch v q s) := by
  unfold Machine.readAcquire
  dsimp only
  split
  · exact .setChannel fun ⟨hbody, hsettle, _⟩ => ⟨hbody, hsettle, Nat.zero_le _⟩
  · split
    · exact .toClean fun ⟨_, hsettle, _⟩ =>
        ⟨(length_keepLast_le _ _).trans (by decide), hsettle, Nat.zero_le _⟩
    · exact .setChannel fun ⟨hbody, hsettle, _⟩ => ⟨hbody, hsettle, length_keepLast_le _ _⟩

theorem Kept.readClean (ch : Channel) (v : Int) (q : ReadingQuality) (t : Nat) (s : State) :
    Kept s (readClean ch v q t s) := by
  have hgrown : ∀ {c : ChannelState}, Fits c →
      Fits (if q = .good then { c with body := keepLast Config.bodyCap (c.body ++ [v]) } else c) := fun {c} h => by
    split
    · exact ⟨length_keepLast_le _ _, h.2⟩
    · exact h
  unfold Machine.readClean
  dsimp only
  split
  · exact .setChannel hgrown
  · exact .setChannel hgrown
  · refine iteInduction (motive := Kept s) (fun _ => .trans ?_ (.enterExcursion ch _)) (fun _ => ?_) <;>
      exact .setChannel id

theorem Kept.readFollowing (ch : Channel) (v : Int) (q : ReadingQuality) (t : Nat) (s : State) :
    Kept s (readFollowing ch v q t s) := by
  unfold Machine.readFollowing
  dsimp only
  split
  · split
    case h_1 =>
      unfold Machine.readWatch
      split
      · refine .trans ?_ (.examineLevels _ _ _ _ _)
        exact .modChannel fun _ => id
      · exact .refl s
    case h_2 =>
      unfold Machine.readLocked
      split
      · refine .trans ?_ (.post _ _ _ _)
        exact .modChannel fun _ => id
      · exact .refl s
    case h_3 =>
      unfold Machine.readDeparting
      dsimp only
      split_ifs
      · exact .falseDeparture _ _ s
      · exact (Kept.examineLevels _ _ _ _ s).trans (.confirmDeparture _ _)
      · exact .examineLevels _ _ _ _ s
    case h_4 =>
      unfold Machine.readMixed
      dsimp only
      split_ifs
      · exact .declareLong _ _ s
      · refine (Kept.examineLevels _ _ _ _ s).trans (.modChannel fun c h => ⟨h.1, ?_, h.2.2⟩)
        simp
      · refine (Kept.examineLevels _ _ _ _ s).trans (.modChannel fun c h => ⟨h.1, ?_, h.2.2⟩)
        simp
      · exact .examineLevels _ _ _ _ s
    case h_5 =>
      have hread : Kept s (Machine.modChannel ch (fun c => { c with
          settleBuf := if q = .good then keepLast Config.bodyCap (c.settleBuf ++ [v]) else c.settleBuf }) s) :=
        .modChannel fun c h => ⟨h.1, by dsimp only; split; exacts [length_keepLast_le _ _, h.2.1], h.2.2⟩
      unfold Machine.readSettling
      split
      · exact .declareLong _ _ s
      · split
        · exact .modChannel fun c h => ⟨h.1, Nat.zero_le _, h.2.2⟩
        · exact iteInduction (motive := Kept s) (fun _ => hread.trans (.settle ch _)) (fun _ => hread)
    case h_6 => exact .refl s
  · exact .refl s

theorem Kept.readExcursion (ch : Channel) (v : Int) (t : Nat) (s : State) : Kept s (readExcursion ch v t s) := by
  refine iteInduction (motive := Kept s) (fun _ => .trans ?_ (.endExcursion ch t _)) (fun _ => ?_) <;>
    exact .setChannel id

theorem Kept.readOff (ch : Channel) (v : Int) (q : ReadingQuality) (s : State) : Kept s (readOff ch v q s) := by
  unfold Machine.readOff
  split
  · exact .refl s
  · refine .trans ?_ (.hand _ _)
    exact .modChannel fun c h => ⟨h.1, h.2.1, by simp⟩

theorem Kept.noteS (ch : Channel) (n : Nat) (s : State) : Kept s (noteS ch n s) := .modChannel fun _ => id

theorem Kept.takeReading (ch : Channel) (v : Int) (q : ReadingQuality) (t : Nat) (s : State) :
    Kept s (takeReading ch v q t s) := by
  have h : Kept s (Machine.modChannel ch (fun c => { c with current := some ⟨v, q, t⟩ }) (Machine.noteS ch t s)) :=
    (Kept.noteS ch t s).trans (.modChannel fun _ => id)
  unfold Machine.takeReading
  dsimp only
  split
  · exact h.trans (.readOff _ _ _ _)
  · exact h.trans (.readAcquire _ _ _ _)
  · exact h.trans (.readClean _ _ _ _ _)
  · exact h.trans (.readExcursion _ _ _ _)
  · exact h.trans (.readFollowing _ _ _ _ _)

theorem Kept.reportCeased (b : Bool) (s : State) : Kept s (reportCeased b s) := by
  unfold Machine.reportCeased
  split
  · exact .hand _ s
  · exact .refl s

theorem Kept.channelEvent {k : State → State} {s : State} (h : Kept s (k s)) : Kept s (channelEvent k s) :=
  h.trans (.reportCeased _ _)

theorem Kept.channelAdvance (ch : Channel) (n : Nat) (s : State) : Kept s (channelAdvance ch n s) := by
  have h := Kept.noteS ch n s
  unfold Machine.channelAdvance
  dsimp only
  split
  · split_ifs
    exacts [h.trans (.enterExcursion _ _), h]
  · split_ifs
    exacts [h.trans (.confirmDeparture _ _), h]
  · split_ifs
    exacts [h.trans (.declareLong _ _ _), h]
  · split_ifs
    exacts [h.trans (.declareLong _ _ _), h.trans (.settle _ _), h]
  · split_ifs
    exacts [h.trans (.endExcursion _ _ _), h]
  all_goals exact h

/-! ### Slot changes and window events (R68, R70 to R72, R101) -/

theorem Kept.reportLost (ch : Channel) (ho : Option HandOff) (s : State) : Kept s (reportLost ch ho s) := by
  unfold Machine.reportLost
  split
  · exact .hand _ s
  · exact .refl s

theorem Kept.dropDeparting (ch : Channel) (s : State) : Kept s (dropDeparting ch s) := by
  unfold Machine.dropDeparting
  split
  · exact .discardCrossings ch s
  · exact .refl s

theorem Kept.slotLost (ch : Channel) (s : State) : Kept s (slotLost ch s) := by
  unfold Machine.slotLost
  dsimp only
  split
  · exact .refl s
  · refine .trans (.trans (.trans ?_ (.setChannel fun _ => ?_)) (.reportLost _ _ _)) (.reportLost _ _ _)
    · have h := (Kept.dropDeparting ch s).trans (.supplyMidzone ch _)
      split
      · exact h.trans (.orphanProtection ch _)
      · exact h
    · exact ⟨Nat.zero_le _, Nat.zero_le _, Nat.zero_le _⟩

theorem Kept.slotRecovered (ch : Channel) (s : State) : Kept s (slotRecovered ch s) := by
  unfold Machine.slotRecovered
  split
  · refine .trans ?_ (.hand _ _)
    exact .modChannel fun c h => ⟨h.1, h.2.1, Nat.zero_le _⟩
  · exact .refl s

theorem Kept.giveUp (ho : Option HandOff) (s : State) : Kept s (giveUp ho s) := by
  unfold Machine.giveUp
  split
  · split
    · exact .confirmGivenUp _ s
    · exact .refl s
  · exact .refl s

theorem Kept.holdWaiting (ch : Channel) (ho : HandOff) (s : State) : Kept s (holdWaiting ch ho s) := by
  have h : Kept s (s.setChannel ch { s.sd.get ch with waiting := some ho }) := .setChannel id
  unfold Machine.holdWaiting
  dsimp only
  split_ifs
  · exact .confirmGivenUp _ s
  · exact h.trans (.giveUp _ _)
  · exact h

theorem Kept.giveUpJudged (ch : Channel) (ho : HandOff) (s : State) : Kept s (giveUpJudged ch ho s) :=
  .modChannel fun c h => by split <;> exact h

theorem Kept.replaceActive (ch : Channel) (ho : HandOff) (s : State) : Kept s (replaceActive ch ho s) := by
  have h : Kept s (Machine.modChannel ch (fun c => { unfollow .clean c with waiting := some ho })
      (Machine.dropDeparting ch s)) := (Kept.dropDeparting ch s).trans (.modChannel fun _ => fits_unfollow .clean)
  unfold Machine.replaceActive
  dsimp only
  split
  · exact .confirmGivenUp _ s
  · refine .trans ?_ (.takeInterface ch ho _)
    split
    · exact h.trans (.giveUp _ _)
    · exact h

theorem Kept.takeHandOff (ch : Channel) (ho : HandOff) (s : State) : Kept s (takeHandOff ch ho s) := by
  have hjudged := (Kept.giveUpJudged ch ho s).trans (.holdWaiting ch ho _)
  unfold Machine.takeHandOff
  split
  exacts [.takeInterface ch ho s, .holdWaiting ch ho s, hjudged, hjudged, .holdWaiting ch ho s, .replaceActive ch ho s,
    .replaceActive ch ho s, .replaceActive ch ho s, .hand _ s]

theorem Kept.windowExpired (ch : Channel) (id : Nat) (s : State) : Kept s (windowExpired ch id s) := by
  unfold Machine.windowExpired
  dsimp only
  split_ifs
  · refine .trans ?_ (.hand _ _)
    exact .setChannel fun h => h
  · split
    · exact (Kept.toClean fun h => h).trans (.hand _ _)
    · exact (Kept.toClean fun h => h).trans (.hand _ _)
    · exact .setChannel fun h => h
    · exact .refl s
  · exact .refl s

theorem Kept.leaveZone (ch : Channel) (s : State) : Kept s (leaveZone ch s) :=
  (Kept.discardCrossings ch s).trans (.modChannel fun _ => id)

theorem Kept.released (ch : Channel) (id : Nat) (s : State) : Kept s (released ch id s) := by
  unfold Machine.released
  dsimp only
  split_ifs
  · exact .setChannel fun h => h
  · split
    · exact .toClean fun h => h
    · exact .toClean fun h => h
    · exact (Kept.discardCrossings ch s).trans (.toClean fun h => h)
    · exact .leaveZone ch s
    · exact .leaveZone ch s
    · exact .refl s
  · exact .refl s

/-! ### The host's decision (R79, R101) -/

theorem Kept.rejectExcursion (ch : Channel) (s : State) : Kept s (rejectExcursion ch s) := .modChannel fun _ => id

theorem Kept.acceptExcursion (ch : Channel) (ho : HandOff) (s : State) : Kept s (acceptExcursion ch ho s) := by
  unfold Machine.acceptExcursion
  dsimp only
  split
  · have h := fun c : ChannelState => (Kept.setChannel (ch := ch) (s := s) fun _ => fits_toAcquire c).trans
      (.giveUp (s.sd.get ch).waiting _)
    split
    · exact (h _).trans (.supplyPoints _ _ _ _)
    · exact h _
  · refine .trans ?_ (.giveUp _ _)
    exact .setChannel (fits_unfollow .mixed)

end Sys2Proof.Proofs.EveryStep
end

section
/-! What the Event Log, the Meter Unit and the Instrument Poller keep (chapters 2, 3, 10). -/
namespace Sys2Proof.Proofs.EveryStep

open Sys2Proof Sys2Proof.Machine

theorem satInc_le {top n : Nat} : satInc top n ≤ top := by
  unfold satInc
  split <;> omega

theorem Kept.refuse (c : Nat) (x : RefusalCode) (d : Int) (s : State) : Kept s (s.refuse c x d) :=
  { Kept.refl s with
    capacity := id, attn := id, trainLaws := id, derived := id, ordered := id, buffers := id, sound := id
    stranded := fun _ _ => id
    ranges := fun ⟨hin, hdel, hstand, hhealth, hfaults, hnum, hnum', hlost, hbad, hdrop, _⟩ =>
      ⟨hin, hdel, hstand, hhealth, hfaults, hnum, hnum', hlost, hbad, hdrop, satInc_le⟩ }

/-! ### The Event Log (R169 to R172) -/

/-- The log changes and ATTN is judged. -/
theorem Kept.setLog {s : State} {el : EventLog}
    (hrecords : s.el.records.length ≤ Config.maxEvents → el.records.length ≤ Config.maxEvents)
    (hlost : s.el.lost ≤ Config.count16Max → el.lost ≤ Config.count16Max) :
    Kept s (Machine.judgeAttn { s with el := el }) :=
  { Kept.refl s with
    capacity := fun ⟨htrain, hts, hel, hcp⟩ => ⟨htrain, hts, hrecords hel, hcp⟩
    attn := fun _ => attnLaw_judgeAttn _
    trainLaws := id, derived := id, ordered := id, buffers := id, sound := id
    stranded := fun _ _ => id
    ranges := fun ⟨hin, hdel, hstand, hhealth, hfaults, hnum, hnum', hl, hrest⟩ =>
      ⟨hin, hdel, hstand, hhealth, hfaults, hnum, hnum', hlost hl, hrest⟩ }

theorem Kept.takeRecords (n : Nat) (s : State) : Kept s (takeRecords n s) :=
  .setLog (fun h => (List.length_drop ▸ Nat.sub_le ..).trans h) fun _ => Nat.zero_le _

theorem Kept.storeEvent (k : EventKind) (n : Nat) (d : Int) (s : State) : Kept s (storeEvent k n d s) := by
  unfold Machine.storeEvent
  split
  · rename_i hroom
    exact .setLog (fun _ => by rw [List.length_append]; exact hroom) id
  · exact { Kept.refl s with
      capacity := id, attn := id, trainLaws := id, derived := id, ordered := id, buffers := id, sound := id
      stranded := fun _ _ => id
      ranges := fun ⟨hin, hdel, hstand, hhealth, hfaults, hnum, hnum', _, hrest⟩ =>
        ⟨hin, hdel, hstand, hhealth, hfaults, hnum, hnum', satInc_le, hrest⟩ }

/-! ### The Meter Unit (R30 to R43) -/

theorem Kept.countPulse (m : MeterId) (s : State) : Kept s (countPulse m s) := by
  cases m <;> exact .of_bare rfl

theorem Kept.postOverrange (m : MeterId) (b s : State) : Kept s (postOverrange m b s) := by
  unfold Machine.postOverrange
  split
  · exact .post _ _ _ s
  · exact .refl s

theorem Kept.postSubstituted (m : MeterId) (b s : State) : Kept s (postSubstituted m b s) := by
  have h := fun f => Kept.markManifold f s
  unfold Machine.postSubstituted
  dsimp only
  split
  · split
    · exact h _
    · exact (h _).trans (.post _ _ _ _)
  · exact .refl s

theorem Kept.flowingClose (q : Nat) (s : State) : Kept s (flowingClose q s) := by
  exact iteInduction (motive := Kept s) (fun _ => .of_bare rfl) (fun _ => .of_bare rfl)

theorem Kept.standstillClose (n : Nat) (s : State) : Kept s (standstillClose n s) := by
  exact iteInduction (motive := Kept s) (fun _ => .of_bare rfl) (fun _ => .of_bare rfl)

theorem Kept.flowClose (q n : Nat) (s : State) : Kept s (flowClose q n s) := by
  unfold Machine.flowClose
  split
  · exact .flowingClose q s
  · exact .standstillClose n s

theorem Kept.handResults (n i d : Nat) (s : State) : Kept s (handResults n i d s) :=
  ((((Kept.hand _ s).trans (.hand _ _)).trans (.hand _ _)).trans (.hand _ _)).trans (.hand _ _)

/-- R42: a standstill raises the counts of FAR interfaces. -/
theorem Kept.raiseStandstills (s : State) : Kept s (s.setTrain (s.lt.train.map raiseStandstill)) := by
  refine .setTrain (.map raiseStandstill (fun e => .of_map (fun i =>
    if i.track = .far then { i with standstills := satInc 255 i.standstills } else i) (fun i => ?_) rfl rfl rfl rfl rfl rfl) _)
  split
  · exact ⟨rfl, fun h => h, fun _ => satInc_le⟩
  · exact .refl i

/-! ### The Instrument Poller (R49 to R59) -/

/-- R58: a slot whose health counter is in its range. -/
theorem Kept.setSlot {k : SlotNo} {x : SlotState} {s : State} (h : Safety.HealthCounts s → x.health ≤ 15) :
    Kept s (s.setSlot k x) := by
  refine { Kept.refl s with
    capacity := id, attn := id, trainLaws := id, derived := id, ordered := id, buffers := id, sound := id
    stranded := fun _ _ => id
    ranges := fun ⟨hin, hdel, hstand, hhealth, hrest⟩ => ⟨hin, hdel, hstand, ⟨fun y => ?_, hhealth.2⟩, hrest⟩ }
  change ((s.ip.slots.set k x).get y).health ≤ 15
  by_cases hy : y = k
  · subst hy
    rw [PerSlot.get_set]
    exact h hhealth
  · rw [PerSlot.get_set_ne _ _ hy]
    exact hhealth.1 y

theorem Kept.setPoller {p : Poller} {s : State} (h : p.slots = s.ip.slots) : Kept s (s.setPoller p) := by
  refine .of_bare ?_
  change { bare s with ip := { State.reset.ip with slots := p.slots } } = bare s
  rw [h]
  rfl

theorem Kept.beginCycle (s : State) : Kept s (beginCycle s) := .setPoller rfl

theorem Kept.goOn (c : Cycle) (s : State) : Kept s (goOn c s) := by
  unfold Machine.goOn
  split
  · exact .setPoller rfl
  · split
    · exact .beginCycle s
    · exact .setPoller rfl

theorem Kept.setAssembled (bs : List Byte) (s : State) : Kept s (setAssembled bs s) := .setPoller rfl

theorem Kept.nextPoll (c : Cycle) (s : State) : Kept s (nextPoll c s) := (Kept.setAssembled [] s).trans (.goOn c _)

theorem Kept.pollTick (s : State) : Kept s (pollTick s) := by
  unfold Machine.pollTick
  split
  · exact .trans (t := s.setPoller { s.ip with overrunLatch := false }) (.setPoller rfl) (.beginCycle _)
  · dsimp only
    split
    · exact .setPoller rfl
    · exact .trans (t := s.setPoller { s.ip with deferred := true, overrunLatch := true }) (.setPoller rfl) (.post _ _ _ _)

theorem Kept.requestSent (s : State) : Kept s (requestSent s) := by
  unfold Machine.requestSent
  split
  · rename_i c _
    split
    · dsimp only
      refine .trans (t := s.setPoller { s.ip with
          cycle := some { c with phase := .waiting (s.clock.ms + s.tables.params.responseTimeout) } })
        (.setPoller rfl) (.setSlot fun h => h.1 _)
    · exact .refl s
  · exact .refl s

theorem health_failedPoll {c : SlotConfig} {x : SlotState} (r : LastResult) (h : c.failThreshold ≤ 15) :
    (failedPoll c r x).health ≤ 15 := by
  unfold failedPoll
  dsimp only
  split_ifs
  · exact Nat.min_le_left ..
  · exact Nat.le_add_left 1 14
  · dsimp only at *
    omega

theorem Kept.takeFailedPoll (k : SlotNo) (r : LastResult) (s : State) : Kept s (takeFailedPoll k r s) := by
  have h : Kept s (s.setSlot k (failedPoll (s.tables.slots.get k) r (s.ip.slots.get k))) :=
    .setSlot fun hc => health_failedPoll r (hc.2.1 k)
  unfold Machine.takeFailedPoll
  dsimp only
  split
  · split
    · exact (h.trans (.post _ _ _ _)).trans (.hand _ _)
    · exact h.trans (.post _ _ _ _)
  · exact h

theorem Kept.handReading (r : SlotRole) (v : Int) (q : ReadingQuality) (t : Nat) (s : State) :
    Kept s (handReading r v q t s) := by
  unfold Machine.handReading
  split
  · exact .hand _ s
  · exact .refl s

section
variable {k : SlotNo} {x : SlotState} {s : State} (hx : Safety.HealthCounts s → x.health ≤ 15)
include hx

theorem Kept.acceptRunning (v : Int) (q : ReadingQuality) : Kept s (acceptRunning k v q x s) := by
  unfold Machine.acceptRunning
  dsimp only
  refine .trans (.setSlot fun h => ?_) (.handReading _ _ _ _ _)
  cases q
  · exact (Nat.sub_le ..).trans (hx h)
  · exact hx h

theorem Kept.acceptFailed (v : Int) (q : ReadingQuality) : Kept s (acceptFailed k v q x s) := by
  unfold Machine.acceptFailed
  split
  · exact .setSlot hx
  · split
    · have h : Kept s ((s.setSlot k { x with quality := .good, health := 0, recovery := 0 }).post .slotRecovered
          (slotNumber k) (min x.failures Config.i32Max)) := (Kept.setSlot fun _ => Nat.zero_le _).trans (.post _ _ _ _)
      unfold Machine.recoverSlot
      dsimp only
      split
      · exact (h.trans (.hand _ _)).trans (.handReading _ _ _ _ _)
      · exact h
    · exact .setSlot hx

end

theorem Kept.takeAccepted (k : SlotNo) (v : Int) (q : ReadingQuality) (r : LastResult) (s : State) :
    Kept s (takeAccepted k v q r s) := by
  have hx : Safety.HealthCounts s → (acceptValueOf v r s.stationS (s.ip.slots.get k)).health ≤ 15 := fun h => h.1 k
  unfold Machine.takeAccepted
  dsimp only
  split
  · exact .acceptFailed hx v q
  · exact .acceptRunning hx v q

theorem Kept.takeOutcome (k : SlotNo) (r : LastResult) (v : Int) (s : State) : Kept s (takeOutcome k r v s) := by
  cases r
  case good => exact .takeAccepted _ _ _ _ s
  case suspect => exact .takeAccepted _ _ _ _ s
  all_goals exact .takeFailedPoll _ _ s

theorem Kept.takeResponse (bs : List Byte) (s : State) : Kept s (takeResponse bs s) := by
  unfold Machine.takeResponse
  split
  · split
    · dsimp only
      split
      · exact .setAssembled _ s
      · exact (Kept.takeOutcome _ _ _ s).trans (.nextPoll _ _)
    · exact .refl s
  · exact .refl s

theorem Kept.takeTimeout (s : State) : Kept s (takeTimeout s) := by
  unfold Machine.takeTimeout
  split
  · split
    · exact (Kept.takeFailedPoll _ _ s).trans (.nextPoll _ _)
    · exact .refl s
  · exact .refl s

/-- One millisecond, with what falls due in it, is no more than the clock and hand-offs. -/
theorem Kept.tick (s : State) : Kept s (tick s) := by
  have hclock : Kept s { s with clock := advanceClock s.clock } := .of_bare rfl
  have hperiod : ∀ s, Kept s (duePeriod s) := fun s => by
    unfold duePeriod
    split
    · exact .of_bare rfl
    · exact .refl s
  have htick : ∀ s, Kept s (dueTick s) := fun s => by
    unfold dueTick
    split
    · exact .trans (t := s.setPoller { s.ip with tickDue := s.ip.tickDue + s.tables.params.pollPeriod }) (.setPoller rfl) (.hand _ _)
    · exact .refl s
  have htimeout : ∀ s, Kept s (dueTimeout s) := fun s => by
    unfold dueTimeout
    split
    · exact .hand _ s
    · exact .refl s
  have hexpiries : ∀ s, Kept s (dueExpiries s) := fun s =>
    .foldl _ (fun s r => by split; exacts [.hand _ s, .refl s]) _ s
  unfold Machine.tick
  split
  · dsimp only
    split
    · exact hclock
    · exact (((hclock.trans (hperiod _)).trans (htick _)).trans (htimeout _)).trans (hexpiries _)
  · exact .refl s

end Sys2Proof.Proofs.EveryStep
end

section
/-! What the host's train notices and its commands to the modes and the valves keep (chapters 1, 5, 7, 8). -/
namespace Sys2Proof.Proofs.EveryStep

open Sys2Proof Sys2Proof.Machine

/-! ### BATCH LAUNCH (R12) -/

theorem launchRefusal_none {id p d l : Nat} {s : State} (h : launchRefusal id p d l s = none) :
    idHeld s id = false ∧ tailOpen s.lt.train = false ∧ s.lt.train.length < Config.maxTrain := by
  unfold launchRefusal at h
  split at h
  · cases h
  · split at h
    · cases h
    · split_ifs at h with _ hid htail hfull
      exact ⟨by simpa using hid, by simpa using htail, by omega⟩

theorem derived_append {e : Entry} {t : List Entry} (h : Safety.Derived t)
    (hlast : ∀ b, t.getLast? = some b → Safety.DerivedBehind b e) : Safety.Derived (t ++ [e]) := by
  induction t with
  | nil => trivial
  | cons a rest ih =>
    cases rest with
    | nil => exact ⟨hlast a rfl, trivial⟩
    | cons b rest => exact ⟨h.1, ih h.2 fun c hc => hlast c (by rwa [List.getLast?_cons_cons])⟩

/-- R10, R12: an entry joins a train whose back entry is closed, under an ID that is not held. -/
theorem Kept.appendEntry {e : Entry} {s : State} (hroom : s.lt.train.length < Config.maxTrain)
    (hid : idHeld s e.id = false) (htail : tailOpen s.lt.train = false) (hcomplete : e.complete = false)
    (hstand : ∀ i, e.leading = some i → i.standstills ≤ 255)
    (hderived : ∀ b, s.lt.train.getLast? = some b → Safety.DerivedBehind b e) :
    Kept s (s.setTrain (s.lt.train ++ [e])) := by
  refine { Kept.refl s with
    capacity := fun ⟨_, hrest⟩ => ⟨by rw [State.setTrain_lt, List.length_append]; exact hroom, hrest⟩
    attn := id
    trainLaws := fun ⟨hids, hclosed, hfirst⟩ => ⟨?ids, ?closed, ?first⟩
    derived := fun hd => derived_append hd hderived
    ranges := fun ⟨hin, hdel, hst, hrest⟩ => ⟨hin, hdel, ?stand, hrest⟩
    ordered := id, buffers := id, sound := id, stranded := fun _ _ => id }
  case ids =>
    unfold idHeld at hid
    simp only [Bool.or_eq_false_iff, List.any_eq_false, beq_iff_eq] at hid
    unfold Safety.UniqueIds at hids ⊢
    change ((s.lt.train ++ [e]).map (·.id) ++ s.ts.map (·.id)).Nodup
    rw [List.map_append, List.append_assoc]
    refine (List.perm_middle (l₂ := s.ts.map (·.id))).nodup_iff.mpr (List.nodup_cons.mpr ⟨?_, hids⟩)
    rw [List.mem_append, List.mem_map, List.mem_map]
    rintro (⟨x, hx, hxe⟩ | ⟨x, hx, hxe⟩)
    · exact hid.1 x hx hxe
    · exact hid.2 x hx hxe
  case closed =>
    rw [State.setTrain_lt]
    change ∀ x ∈ (s.lt.train ++ [e]).dropLast, _
    rw [List.dropLast_concat]
    intro x hx
    rcases List.eq_nil_or_concat s.lt.train with hnil | ⟨t, b, ht⟩
    · rw [hnil] at hx
      cases hx
    · rw [ht, List.concat_eq_append] at hx
      rw [ht, List.concat_eq_append, List.dropLast_concat] at hclosed
      rcases List.mem_append.mp hx with hx | hx
      · exact hclosed x hx
      · obtain rfl := List.mem_singleton.mp hx
        unfold tailOpen at htail
        rw [ht, List.concat_eq_append, List.getLast?_concat] at htail
        simpa [Option.isSome_iff_ne_none] using htail
  case first =>
    change (s.lt.train ++ [e]).Pairwise _
    rw [List.pairwise_append]
    refine ⟨hfirst, List.pairwise_singleton .., fun a _ b hb hc => ?_⟩
    rw [List.mem_singleton.mp hb, hcomplete] at hc
    cases hc
  case stand =>
    change ∀ x ∈ s.lt.train ++ [e], _
    intro x hx
    rcases List.mem_append.mp hx with hx | hx
    · exact hst x hx
    · rw [List.mem_singleton.mp hx]
      exact hstand

theorem Kept.launch {id p d l : Nat} {s : State} (h : launchRefusal id p d l s = none) :
    Kept s (launch (launchedEntry id p d l s) s) := by
  obtain ⟨hid, htail, hroom⟩ := launchRefusal_none h
  have happend : Kept s (s.setTrain (s.lt.train ++ [launchedEntry id p d l s])) := by
    unfold launchedEntry
    split
    · rename_i hlast
      refine .appendEntry hroom hid htail rfl ?_ ?_
      · intro i hi
        cases hi
      · intro b hb
        rw [hlast] at hb
        cases hb
    · rename_i b hlast
      refine .appendEntry hroom hid htail rfl ?_ ?_
      · intro i hi
        cases hi
        exact Nat.zero_le _
      · intro c hc i v hi _ hv
        rw [hlast] at hc
        cases hc
        cases hi
        simp [newInterface, hv]
  unfold Machine.launch
  dsimp only
  split
  · exact (happend.trans (.post _ _ _ _)).trans (.planBody _ _)
  · exact happend.trans (.post _ _ _ _)

/-! ### The other notices (R13 to R15, R100, R101, R110) -/

theorem Kept.planBatch (e : Entry) (d : Disposition) (s : State) : Kept s (planBatch e d s) := by
  have h : Kept s (s.setTrain (modEntry e.id (fun e => { e with disposition := some d, stripMark := false })
    s.lt.train)) := .setTrain .marks
  unfold Machine.planBatch
  dsimp only
  split
  · exact h.trans (.planBody _ _)
  · exact h

theorem Kept.releaseOther (ch : Channel) (id : Nat) (s : State) : Kept s (releaseOther ch id s) := by
  unfold Machine.releaseOther
  split
  · split_ifs
    · exact .hand _ s
    · exact .refl s
  · exact .refl s

theorem Kept.acceptSnapshot (ch : Channel) (a e : Entry) (i : Interface) (s : State) :
    Kept s (acceptSnapshot ch a e i s) := by
  unfold Machine.acceptSnapshot
  split
  · exact .takeSnapshot _ _ _ s
  · refine .trans ?_ (.releaseOther _ _ _)
    exact .modInterface fun _ => ⟨rfl, fun h => h, fun h => h⟩

theorem Kept.acceptOnChannel (ch : Channel) (id : Nat) (s : State) : Kept s (acceptOnChannel ch id s) := by
  unfold Machine.acceptOnChannel
  split
  · exact .acceptExcursion _ _ s
  · exact .refl s

theorem Kept.hostAccept (ch : Channel) (n : Nat) (a e : Entry) (i : Interface) (s : State) :
    Kept s (hostAccept ch n a e i s) :=
  ((((Kept.acceptSnapshot ch a e i s).trans (.anchorInterface _ _ _ _)).trans (.acceptOnChannel _ _ _)).trans
    (.protectTakeover _ _ _)).trans (.afterAnchor _ _)

/-! ### What a request answers -/

/-- An answer that goes on, to a state that keeps the laws: the same one without power and in a start (R153, R154). -/
def Answered (s : State) (r : Result) : Prop := ∃ t, r = .next t ∧ Kept s t ∧ (s.running = false → t = s)

theorem answered_request {k : State → State} {s : State} (h : s.sm.starting = false → Kept s (k s)) :
    Answered s (request k s) := by
  refine ⟨_, rfl, ?_, fun hidle => if_neg (by simp [hidle])⟩
  split
  · rename_i hrun
    refine h ?_
    unfold State.running at hrun
    simpa using (Bool.and_eq_true_iff.mp hrun).2
  · exact .refl s

theorem answered_notice {c : Nat} {k : State → State} {s : State} (h : Kept s (k s)) : Answered s (notice c k s) := by
  refine answered_request fun _ => ?_
  split
  · exact .refuse _ _ _ s
  · exact h

section
variable (s : State)

theorem answered_batchLaunch (id p d l : Nat) : Answered s (execBatchLaunch id p d l s) := by
  refine answered_notice ?_
  split
  · exact .refuse _ _ _ s
  · exact (Kept.launch ‹_›).trans (.accept _ _ _)

theorem answered_batchClose (id l : Nat) : Answered s (execBatchClose id l s) := by
  refine answered_notice ?_
  split
  · exact .refuse _ _ _ s
  · split_ifs
    · exact .refuse _ _ _ s
    · exact .refuse _ _ _ s
    · refine .trans (.trans (.rederive ?_) (.post _ _ _ _)) (.accept _ _ _)
      exact .modEntry (by exact fun e => .of_leading (fun i => i) (fun _ h => h) rfl (fun _ => rfl) rfl (by simp)) _

theorem answered_batchAdjust (id : Nat) (c : Int) : Answered s (execBatchAdjust id c s) := by
  refine answered_notice ?_
  split
  · exact .refuse _ _ _ s
  · split
    · exact .refuse _ _ _ s
    · split_ifs
      · exact .refuse _ _ _ s
      · exact .refuse _ _ _ s
      · refine .trans (.trans (.rederive ?_) (.post _ _ _ _)) (.accept _ _ _)
        exact .modEntry (by exact fun e => .of_leading (fun i => i) (fun _ h => h) rfl (fun h => h) rfl (by simp)) _

theorem answered_batchPlan (id k r v : Nat) : Answered s (execBatchPlan id k r v s) := by
  refine answered_notice ?_
  split
  · exact .refuse _ _ _ s
  · split
    · exact .refuse _ _ _ s
    · split
      · exact .refuse _ _ _ s
      · split
        · exact .refuse _ _ _ s
        · exact (Kept.planBatch _ _ s).trans (.accept _ _ _)

theorem answered_batchWithdraw (id : Nat) : Answered s (execBatchWithdraw id s) := by
  refine answered_notice ?_
  split
  · exact .refuse _ _ _ s
  · split
    · exact .trans (.trans (.rederive (.of_sublist List.eraseP_sublist)) (.post _ _ _ _)) (.accept _ _ _)
    · exact .refuse _ _ _ s

theorem answered_interfaceDecide (c d : Nat) : Answered s (execInterfaceDecide c d s) := by
  refine answered_notice ?_
  split
  · split
    · exact .refuse _ _ _ s
    · split_ifs
      · split
        · exact .refuse _ _ _ s
        · exact .trans (.channelEvent (.hostAccept _ _ _ _ _ s)) (.accept _ _ _)
      · exact (Kept.rejectExcursion _ s).trans (.accept _ _ _)
      · exact .refuse _ _ _ s
  · exact .refuse _ _ _ s

end

/-! ### Changes of mode (R138, R145, R149, R150) -/

section
variable {s : State} (hstart : s.sm.starting = false)
include hstart

/-- R138: the mode changes, and with it the mark of a switch in progress. -/
theorem Kept.abandonFor (new : StationMode) : Kept s (markAbandon new (s.setMode new)) := by
  have hsound : Sound s → Sound (markAbandon new (s.setMode new)) := by
    intro hs
    unfold markAbandon
    refine (sound_of_not_starting ?_).mpr ?_
    · split <;> exact hstart
    · split
      · refine ⟨fun h => absurd (hstart.symm.trans h) (by simp), fun w hw => ?_⟩
        obtain ⟨x, hx, rfl⟩ := Option.map_eq_some_iff.mp hw
        exact ⟨(hs.1.2 x hx).1, fun _ => rfl, fun _ h => by cases h⟩
      · rename_i hnew
        refine ⟨hs.1.1, fun w hw => ?_⟩
        obtain ⟨hne, -, hopen⟩ := hs.1.2 w hw
        exact ⟨hne, fun h => absurd (.inr h) hnew, hopen⟩
  unfold markAbandon at hsound ⊢
  split at hsound <;> rename_i hnew
  · rw [if_pos hnew]
    exact ⟨{ Lawful.refl s with
      capacity := id, attn := id, trainLaws := id, derived := id, ranges := id, ordered := id, buffers := id
      sound := hsound }, fun _ _ => id⟩
  · rw [if_neg hnew]
    exact ⟨{ Lawful.refl s with
      capacity := id, attn := id, trainLaws := id, derived := id, ranges := id, ordered := id, buffers := id
      sound := hsound }, fun _ _ => id⟩

/-- What no law speaks of may change before the Route Controller takes the mode. -/
theorem Kept.takeMode {u : State} (old new : StationMode) (h : bare u = bare (s.setMode new)) :
    Kept s (takeMode old new u) := by
  have hlatch : bare (clearLatchFrom old u) = bare (s.setMode new) := by
    unfold clearLatchFrom
    split
    · exact (show bare (u.setLatch false) = bare u from rfl).trans h
    · exact h
  refine .trans (.trans (Kept.abandonFor hstart new) (.of_bare ?_)) (.compare _)
  generalize clearLatchFrom old u = v at hlatch ⊢
  have hswitch : v.rc.switching = s.rc.switching := congrArg (·.rc.switching) hlatch
  unfold markAbandon
  split
  · change { bare v with
      rc := { State.reset.rc with
        valves := (bare v).rc.valves, switching := v.rc.switching.map fun w : Switch => { w with abandon := true } } } = _
    rw [hlatch, hswitch]
    rfl
  · exact hlatch

theorem Kept.changeMode (new : StationMode) (c : ModeCause) : Kept s (changeMode new c s) := .takeMode hstart _ new rfl

theorem Kept.takeSafeDemand (r : RouteNo) (c : SafeCause) : Kept s (takeSafeDemand r c s) := by
  unfold Machine.takeSafeDemand
  split
  · exact .takeMode hstart _ .safe rfl
  · exact .refl s

theorem Kept.takeHoldDemand : Kept s (takeHoldDemand s) := by
  unfold Machine.takeHoldDemand
  split
  · exact .changeMode hstart _ _
  · exact .changeMode hstart _ _
  · exact .changeMode hstart _ _
  · exact .refl s
  · exact .refl s

end

/-! ### The host's commands to the valves (R133, R140) -/

section
variable {r : RouteNo} {s : State}

theorem otherOpen_iff : otherOpen s r = true ↔ Safety.OtherOpen s r := by
  simp only [otherOpen, openRoutes, Safety.OtherOpen, List.any_eq_true, List.mem_filter, bne_iff_ne]
  constructor
  · rintro ⟨x, ⟨-, hopen⟩, hne⟩
    exact ⟨x, hne, hopen⟩
  · rintro ⟨x, hne, hopen⟩
    exact ⟨x, ⟨by cases x <;> decide, hopen⟩, hne⟩

/-- R129, R140: in MANUAL a route begins to close beside an OPEN one. -/
theorem Kept.commandClose (hmode : s.sm.mode = .manual) (hother : Safety.OtherOpen s r) : Kept s (commandClose r s) := by
  have hframe := commandClose_noRoutes r s
  have hsame : ∀ x, x ≠ r → ∀ v, valveIs (Machine.commandClose r s) x v = valveIs s x v := fun x hx v =>
    valveIs_of_state (commandClose_others hx s)
  refine ⟨.ofRoutes hframe (faultCounts_commandClose r s) fun hs =>
    sound_of_free hframe (commandClose_switching r s) (fun w hw => .inr ((hs.1.2 w hw).2.1 hmode)) hs, ?_⟩
  rintro - x ⟨hc, hno⟩
  obtain ⟨y, hy, hopen⟩ := hother
  have hyt : valveIs (Machine.commandClose r s) y .opened = true := by rwa [hsame y hy]
  by_cases hyx : y = x
  · subst hyx
    rw [valveIs_ne hyt (by simp)] at hc
    cases hc
  · exact absurd ⟨y, hyx, hyt⟩ hno

theorem Easing.keepState {f : Valve → Valve} (hstate : ∀ v, (f v).state = v.state)
    (hf : ∀ v, v.faults ≤ 7 → (f v).faults ≤ 7) : Easing s (Machine.modValve r f s) := by
  have hsame : ∀ x v, valveIs (Machine.modValve r f s) x v = valveIs s x v := by
    refine fun x v => valveIs_of_state ?_
    by_cases hx : x = r
    · subst hx
      rw [valveState_modValve_self]
      simp only [hstate]
      rfl
    · exact valveState_modValve_ne f hx
  exact ⟨rfl, faultCounts_modValve hf, rfl, fun x hx => by rwa [hsame], fun x hx => by rwa [hsame] at hx⟩

theorem Kept.clearLockout (h : valveState s r = some .lockedOut) : Kept s (clearLockout r s) := by
  let s1 := Machine.modValve r (fun v => { v with faults := 0 }) s
  have hs1 : Kept s s1 := (Easing.keepState (f := fun v => { v with faults := 0 }) (fun _ => rfl) fun _ _ => Nat.zero_le _).kept
  have hopen : valveIs s1 r .opened = false := by
    obtain ⟨v, hv, hstate⟩ := Option.map_eq_some_iff.mp h
    rw [valveIs, valveState_modValve_self, hv]
    simp [hstate]
  have hs2 := (hs1.trans (Easing.positionFromLimits hopen).kept).trans (.post .lockoutCleared (routeNumber r) 0 _)
  unfold Machine.clearLockout
  dsimp only
  split
  · exact hs2.trans (.afterFault ‹_› false)
  · exact hs2.trans (.afterMove _)

end

section
variable (s : State)

theorem answered_setMode (c : Nat) : Answered s (execSetMode c s) := by
  refine answered_request fun hstart => ?_
  split
  · exact .refuse _ _ _ s
  · split
    · exact .refuse _ _ _ s
    · exact .accept _ _ s
    · exact (Kept.changeMode hstart _ _).trans (.accept _ _ _)

theorem answered_valveCommand (r c : Nat) : Answered s (execValveCommand r c s) := by
  refine answered_request fun _ => ?_
  split
  · exact .refuse _ _ _ s
  · rename_i hmode
    split
    · exact .refuse _ _ _ s
    · split_ifs with h₁ h₂ h₃ h₄ h₅
      iterate 5 exact .refuse _ _ _ s
      refine .trans (.trans ?_ (.afterMove _)) (.accept _ _ _)
      split
      · exact (Easing.commandOpen _ s).kept
      · rename_i r _ hopen
        refine .commandClose (by simpa using hmode) (otherOpen_iff.mp ?_)
        have hc : c = 2 := (not_not.mp (not_or.mp h₁).2).resolve_left (by simpa using hopen)
        simpa [hc] using h₄

theorem answered_clearLockout (r : Nat) : Answered s (execClearLockout r s) := by
  refine answered_request fun _ => ?_
  split
  · exact .refuse _ _ _ s
  · split
    · exact .refuse _ _ _ s
    · exact (Kept.clearLockout ‹_›).trans (.accept _ _ _)
    · exact .refuse _ _ _ s

theorem answered_setTime (n : Nat) : Answered s (execSetTime n s) :=
  answered_request fun _ => .trans (t := setTime n s) (.of_bare rfl) (.accept _ _ _)

theorem answered_warmStart : Answered s (execWarmStart s) :=
  answered_request fun _ => .trans (t := { s with sm := { s.sm with requested := some .warm } }) (.of_bare rfl)
    (.accept _ _ _)

theorem answered_coldStart : Answered s (execColdStart s) := by
  refine answered_request fun _ => ?_
  split
  · exact .trans (t := { s with sm := { s.sm with requested := some .cold } }) (.of_bare rfl) (.accept _ _ _)
  · exact .refuse _ _ _ s

end

end Sys2Proof.Proofs.EveryStep
end

section
/-! What the SET requests, the reads and the host line keep (chapters 6, 7, 11). -/
namespace Sys2Proof.Proofs.EveryStep

open Sys2Proof Sys2Proof.Machine

/-! ### SET PARAMETER (R181) -/

/-- The parameters that ATTN is judged by (R172). -/
structure SameAttention (p q : Params) : Prop where
  mask : q.routingMask = p.routingMask
  watermark : q.watermark = p.watermark
  tickets : q.ticketAttention = p.ticketAttention

theorem setTuning_attention {n : Nat} (h : n ≠ 32) (v : Int) (p : Params) : SameAttention p (setTuning n v p) := by
  unfold setTuning
  split
  case h_28 => exact absurd rfl h
  all_goals exact ⟨rfl, rfl, rfl⟩

/-- R181: the structural parameters but for the routing mask and the ticket attention leave ATTN's grounds alone. -/
theorem setStructural_attention {t : Tables} {n : Nat} {v : Int} {p : Params} (h : setStructural t n v = some p)
    (hmask : n ≠ 31) (htickets : n ≠ 33) : SameAttention t.params p := by
  unfold setStructural at h
  dsimp only at h
  split at h
  case h_1 => split_ifs at h; cases h; exact ⟨rfl, rfl, rfl⟩
  case h_2 => split_ifs at h <;> cases h <;> exact ⟨rfl, rfl, rfl⟩
  case h_3 =>
    split at h
    · split_ifs at h
      cases h
      exact ⟨rfl, rfl, rfl⟩
    · cases h
  case h_4 => exact absurd rfl hmask
  case h_5 => exact absurd rfl htickets
  case h_6 => cases h

/-- A parameter whose setting has ATTN judged. -/
def judgesAttn (n : Nat) : Prop := n = 31 ∨ n = 32 ∨ n = 33

theorem Kept.setEdited (s : State) : Kept s (setEdited s) := .of_bare rfl

theorem Kept.setParams {p : Params} {s : State} (h : SameAttention s.tables.params p) :
    Kept s (s.setTables { s.tables with params := p }) := by
  refine .of_bare ?_
  change { bare s with tables := { (bare s).tables with params := { Params.factory with
    routingMask := p.routingMask, watermark := p.watermark, ticketAttention := p.ticketAttention } } } = bare s
  rw [h.mask, h.watermark, h.tickets]
  rfl

theorem Kept.judgeParams (p : Params) (s : State) :
    Kept s (Machine.judgeAttn (Machine.setEdited (s.setTables { s.tables with params := p }))) :=
  { Kept.refl s with
    capacity := id, attn := fun _ => attnLaw_judgeAttn _, trainLaws := id, derived := id, ranges := id, ordered := id
    buffers := id, sound := id, stranded := fun _ _ => id }

theorem Kept.takeParameter {n : Nat} {p : Params} {s : State} (h : judgesAttn n ∨ SameAttention s.tables.params p) :
    Kept s (takeParameter n p s) := by
  by_cases hn : judgesAttn n
  · rcases hn with rfl | rfl | rfl <;> exact .judgeParams p s
  · have hset := (Kept.setParams (h.resolve_left hn)).trans (.setEdited _)
    unfold judgesAttn at hn
    unfold Machine.takeParameter Machine.afterParameter
    split
    · exact hset.trans (.completionCheck _)
    · exact (hset.trans (.setLatch false _)).trans (.compare _)
    · exact absurd (.inl rfl) hn
    · exact absurd (.inr (.inl rfl)) hn
    · exact absurd (.inr (.inr rfl)) hn
    · exact hset

/-! ### SET ROUTE (R127) -/

section
variable {r : RouteNo} {s : State}

theorem Kept.setRouteTable (e : Option RouteEntry) (s : State) : Kept s (s.setTables (writeRoute r e s.tables)) :=
  .of_bare rfl

theorem valveState_setValve_self (v : Option Valve) : valveState (s.setValve r v) r = v.map (·.state) := by
  simp only [valveState, State.setValve, PerRoute.get_set]

theorem valveState_setValve_ne {x : RouteNo} (v : Option Valve) (h : x ≠ r) :
    valveState (s.setValve r v) x = valveState s x := by
  simp only [valveState, State.setValve, PerRoute.get_set_ne _ _ h]

/-- R127: the valve record of a route that is not OPEN is created or discarded. -/
theorem Easing.setValve {v : Option Valve} (hopen : valveIs s r .opened = false)
    (hv : ∀ w, v = some w → w.state ≠ .closing ∧ w.faults ≤ 7) : Easing s (s.setValve r v) := by
  refine ⟨rfl, fun hf x w hw => ?_, rfl, fun x hx => ?_, fun x hx => ?_⟩ <;> by_cases hxr : x = r
  · subst hxr
    change (s.rc.valves.set x v).get x = some w at hw
    rw [PerRoute.get_set] at hw
    exact (hv w hw).2
  · change (s.rc.valves.set r v).get x = some w at hw
    rw [PerRoute.get_set_ne _ _ hxr] at hw
    exact hf x w hw
  · subst hxr
    rw [hx] at hopen
    cases hopen
  · rwa [valveIs_of_state (valveState_setValve_ne v hxr)]
  · subst hxr
    rw [valveIs_iff, valveState_setValve_self] at hx
    obtain ⟨w, hw, hstate⟩ := Option.map_eq_some_iff.mp hx
    exact absurd hstate (hv w hw).1
  · rwa [valveIs_of_state (valveState_setValve_ne v hxr)] at hx

theorem not_opened_of_routeInUse {k : Option RouteKind} (h : routeInUse s r k = false) : valveIs s r .opened = false := by
  simp only [routeInUse, routeBusy, Bool.or_eq_false_iff] at h
  obtain ⟨⟨⟨⟨⟨hopen, -⟩, -⟩, -⟩, -⟩, -⟩ := h
  exact hopen

/-- R127, order 3: neither an entry nor a removal is accepted for an OPEN route. -/
theorem not_opened_of_routeRefusal {route op kind product : Nat} (h : routeRefusal route op kind product s = none)
    (hr : routeOfNumber route = some r) : valveIs s r .opened = false := by
  unfold routeRefusal at h
  rw [hr] at h
  split at h
  · cases h
  · dsimp only at h
    split at h
    · unfold routeWriteRefusal at h
      split at h
      · cases h
      · split at h
        · cases h
        · split at h
          · split_ifs at h with _ huse
            exact not_opened_of_routeInUse (by simpa using huse)
          · split_ifs at h with huse
            exact not_opened_of_routeInUse (by simpa using huse)
    · split_ifs at h with huse
      exact not_opened_of_routeInUse (by simpa using huse)

theorem Kept.writeRouteEntry (e : RouteEntry) (h : valveIs s r .opened = false) : Kept s (writeRouteEntry r e s) := by
  have htable := Kept.setRouteTable (r := r) (some e) s
  unfold Machine.writeRouteEntry
  dsimp only
  split
  · exact htable
  · refine .trans (htable.trans (Easing.setValve (v := some newValve) (by exact h) fun w hw => ?_).kept)
      (Easing.positionFromLimits ?_).kept
    · cases hw
      decide
    · rw [valveIs, valveState_setValve_self]
      rfl

theorem Kept.afterRouteEntry (b : Bool) (s : State) : Kept s (afterRouteEntry r b s) := by
  unfold Machine.afterRouteEntry
  split
  · rename_i h
    exact .afterFault (Bool.and_eq_true_iff.mp h).2 false
  · exact .compare s

theorem Kept.removeRoute (h : valveIs s r .opened = false) : Kept s (removeRoute r s) :=
  (Kept.setRouteTable (r := r) none s).trans (Easing.setValve (v := none) (by exact h) fun _ hw => by cases hw).kept

end

/-! ### SET SLOT (R48) -/

theorem Kept.setSlotTable {k : SlotNo} {c : SlotConfig} {s : State} (h : c.failThreshold ≤ 15) :
    Kept s (s.setTables { s.tables with slots := s.tables.slots.set k c }) := by
  refine { Kept.refl s with
    capacity := id, attn := id, trainLaws := id, derived := id, ordered := id, buffers := id, sound := id
    stranded := fun _ _ => id
    ranges := fun ⟨hin, hdel, hstand, ⟨hhealth, hthreshold, hstores⟩, hrest⟩ =>
      ⟨hin, hdel, hstand, ⟨hhealth, fun x => ?_, hstores⟩, hrest⟩ }
  change ((s.tables.slots.set k c).get x).failThreshold ≤ 15
  by_cases hx : x = k
  · subst hx
    rw [PerSlot.get_set]
    exact h
  · rw [PerSlot.get_set_ne _ _ hx]
    exact hthreshold x

theorem clampNat_le {lo hi : Nat} (h : lo ≤ hi) (x : Int) : clampNat lo hi x ≤ hi := by
  unfold clampNat clampInt
  omega

theorem slotRequest_threshold {t : Tables} {slot role address enable range rate status rl ft rc : Nat} {k : SlotNo}
    {c : SlotConfig} (h : slotRequest t slot role address enable range rate status rl ft rc = some (k, c)) :
    c.failThreshold ≤ 15 := by
  unfold slotRequest at h
  split at h
  · split_ifs at h
    cases h
    exact clampNat_le (by decide) _
  · cases h

theorem Kept.abandonPoll (k : SlotNo) (s : State) : Kept s (abandonPoll k s) := by
  unfold Machine.abandonPoll
  split
  · split_ifs
    · exact .nextPoll _ s
    · exact .refl s
  · exact .refl s

theorem Kept.takeSlot {k : SlotNo} {c : SlotConfig} {s : State} (h : c.failThreshold ≤ 15) : Kept s (takeSlot k c s) := by
  have hset := (Kept.setSlotTable (k := k) (s := s) h).trans (.setEdited _)
  have hclear := fun x => (hset.trans (.setSlot (k := k) (x := clearSlot x) fun _ => Nat.zero_le _)).trans
    (.abandonPoll k _)
  unfold Machine.takeSlot
  dsimp only
  split
  · split
    · exact (hclear _).trans (.hand _ _)
    · exact hclear _
  · exact hset

/-! ### Saving (R182) -/

/-- The configuration store takes an image and a save whose thresholds are in their range. -/
theorem Kept.setStore {c : ConfigStore} {s : State}
    (himage : Safety.HealthCounts s → ∀ tb, c.image = some tb → Safety.Thresholds tb)
    (hsaving : Safety.HealthCounts s → ∀ tb, c.saving = some tb → Safety.Thresholds tb) : Kept s { s with cs := c } :=
  { Kept.refl s with
    capacity := id, attn := id, trainLaws := id, derived := id, ordered := id, buffers := id, sound := id
    stranded := fun _ _ => id
    ranges := fun ⟨hin, hdel, hstand, hhealth, hrest⟩ =>
      ⟨hin, hdel, hstand, ⟨hhealth.1, hhealth.2.1, himage hhealth, hsaving hhealth⟩, hrest⟩ }

theorem Kept.writeVerified (s : State) : Kept s (writeVerified s) := by
  unfold Machine.writeVerified
  split
  · rename_i t ht
    exact (Kept.setStore (fun ⟨_, _, _, hs⟩ tb h => by cases h; exact hs t ht) fun _ _ h => by cases h).trans (.post _ _ _ _)
  · exact .refl s

theorem Kept.writeFailed (s : State) : Kept s (writeFailed s) := by
  unfold Machine.writeFailed
  split
  · exact ((Kept.setStore (fun _ _ h => by cases h) fun _ _ h => by cases h).trans (.setEdited _)).trans (.post _ _ _ _)
  · exact .refl s

/-! ### The requests -/

section
variable (s : State)

theorem answered_setParameter (n : Nat) (v : Int) : Answered s (execSetParameter n v s) := by
  refine answered_request fun _ => ?_
  split
  · split
    · exact .refuse _ _ _ s
    · refine .trans (.takeParameter ?_) (.accept _ _ _)
      by_cases hn : n = 32
      · exact .inl (.inr (.inl hn))
      · exact .inr (setTuning_attention hn _ _)
  · split
    · rename_i p hp
      refine .trans (.takeParameter ?_) (.accept _ _ _)
      by_cases hn : n = 31 ∨ n = 33
      · exact .inl (hn.imp_right .inr)
      · exact .inr (setStructural_attention hp (fun h => hn (.inl h)) fun h => hn (.inr h))
    · exact .refuse _ _ _ s

/-- The tables change in what no law reads. -/
theorem Kept.setProducts (ps : List ProductRow) : Kept s (s.setTables { s.tables with products := ps }) := .of_bare rfl

theorem Kept.setPairs (ps : List PairRow) : Kept s (s.setTables { s.tables with pairs := ps }) := .of_bare rfl

theorem Kept.writePair (a b : Nat) (p : PairEntry) : Kept s (s.setTables (writePair a b p s.tables)) := by
  unfold Machine.writePair
  split
  · exact .of_bare rfl
  · exact .setPairs s _

theorem answered_setProduct (c o : Nat) (name : List Byte) (a r lo hi : Nat) :
    Answered s (execSetProduct c o name a r lo hi s) := by
  refine answered_request fun _ => ?_
  split
  · exact .refuse _ _ _ s
  · split
    · exact ((Kept.setProducts s _).trans (.setEdited _)).trans (.accept _ _ _)
    · exact ((Kept.setProducts s _).trans (.setEdited _)).trans (.accept _ _ _)

theorem answered_setPair (a b o r h t bm g mm : Nat) : Answered s (execSetPair a b o r h t bm g mm s) := by
  refine answered_request fun _ => ?_
  split
  · exact .refuse _ _ _ s
  · split
    · exact ((Kept.writePair s _ _ _).trans (.setEdited _)).trans (.accept _ _ _)
    · exact ((Kept.setPairs s _).trans (.setEdited _)).trans (.accept _ _ _)

theorem answered_setRoute (r o k p tl nt fl : Nat) : Answered s (execSetRoute r o k p tl nt fl s) := by
  refine answered_request fun _ => ?_
  split
  · exact .refuse _ _ _ s
  · exact .refuse _ _ _ s
  · rename_i hrefusal hroute
    have hopen := not_opened_of_routeRefusal hrefusal hroute
    split
    · exact (((Kept.writeRouteEntry _ hopen).trans (.setEdited _)).trans (.afterRouteEntry _ _)).trans (.accept _ _ _)
    · exact (((Kept.removeRoute hopen).trans (.setEdited _)).trans (.compare _)).trans (.accept _ _ _)

theorem answered_setSlot (k r a e rg rt st rl ft rc : Nat) : Answered s (execSetSlot k r a e rg rt st rl ft rc s) := by
  refine answered_request fun _ => ?_
  split
  · exact .refuse _ _ _ s
  · exact (Kept.takeSlot (slotRequest_threshold ‹_›)).trans (.accept _ _ _)

theorem answered_saveConfiguration : Answered s (execSaveConfiguration s) := by
  refine answered_request fun _ => ?_
  split
  · exact .refuse _ _ _ s
  · refine .trans (t := { { s with cs := ⟨none, some s.tables⟩ } with li := { s.li with edited := false } })
      (.trans (.setStore (fun _ _ h => by cases h) fun hc tb h => ?_) (.of_bare rfl)) (.accept _ _ _)
    cases h
    exact hc.2.1

theorem answered_ackTicket (id : Nat) : Answered s (execAckTicket id s) := by
  refine answered_request fun _ => ?_
  split
  · exact .refuse _ _ _ s
  · split
    · exact .refuse _ _ _ s
    · exact (Kept.acknowledge ‹_›).trans (.accept _ _ _)

theorem answered_readEvents (n : Nat) : Answered s (execReadEvents n s) := by
  refine answered_request fun _ => ?_
  split
  · exact .refuse _ _ _ s
  · exact (Kept.takeRecords n s).trans (.accept _ _ _)

theorem answered_readStatus (p : Nat) : Answered s (execReadStatus p s) := by
  refine answered_request fun _ => ?_
  split
  iterate 3 exact .accept _ _ s
  exact .refuse _ _ _ s

theorem answered_readTrain (i : Nat) : Answered s (execReadTrain i s) := by
  refine answered_request fun _ => ?_
  split
  · exact .refuse _ _ _ s
  · exact .accept _ _ s

theorem answered_readBatch (id : Nat) : Answered s (execReadBatch id s) := by
  refine answered_request fun _ => ?_
  split
  · exact .refuse _ _ _ s
  · exact .accept _ _ s

theorem answered_readTicket (id : Nat) : Answered s (execReadTicket id s) := by
  refine answered_request fun _ => ?_
  split
  · split <;> exact .accept _ _ s
  · split
    · exact .refuse _ _ _ s
    · exact .accept _ _ s

theorem answered_readConfiguration (p i : Nat) : Answered s (execReadConfiguration p i s) := by
  refine answered_request fun _ => ?_
  split
  · split
    · exact .refuse _ _ _ s
    · exact .accept _ _ s
  · split
    · exact .refuse _ _ _ s
    · exact .accept _ _ s
  · exact .accept _ _ s
  · exact .refuse _ _ _ s

/-- R177: what a request of the catalogue answers. -/
theorem answered_runRequest (i : Instr) : Answered s (runRequest i s) := by
  unfold runRequest
  split
  case h_1 => exact answered_readStatus s _
  case h_2 => exact answered_request fun _ => .accept _ _ s
  case h_3 => exact answered_request fun _ => .accept _ _ s
  case h_4 => exact answered_request fun _ => .accept _ _ s
  case h_5 => exact answered_readTrain s _
  case h_6 => exact answered_readBatch s _
  case h_7 => exact answered_readEvents s _
  case h_8 => exact answered_readTicket s _
  case h_9 => exact answered_ackTicket s _
  case h_10 => exact answered_batchLaunch s _ _ _ _
  case h_11 => exact answered_batchClose s _ _
  case h_12 => exact answered_batchAdjust s _ _
  case h_13 => exact answered_batchPlan s _ _ _ _
  case h_14 => exact answered_batchWithdraw s _
  case h_15 => exact answered_interfaceDecide s _ _
  case h_16 => exact answered_setMode s _
  case h_17 => exact answered_valveCommand s _ _
  case h_18 => exact answered_clearLockout s _
  case h_19 => exact answered_setTime s _
  case h_20 => exact answered_warmStart s
  case h_21 => exact answered_coldStart s
  case h_22 => exact answered_setParameter s _ _
  case h_23 => exact answered_setProduct s _ _ _ _ _ _ _
  case h_24 => exact answered_setPair s _ _ _ _ _ _ _ _ _
  case h_25 => exact answered_setRoute s _ _ _ _ _ _ _
  case h_26 => exact answered_setSlot s _ _ _ _ _ _ _ _ _ _
  case h_27 => exact answered_saveConfiguration s
  case h_28 => exact answered_readConfiguration s _ _
  case h_29 => exact ⟨s, rfl, .refl s, fun _ => rfl⟩

end

/-! ### The host line (R175 to R177) -/

theorem Kept.dispatchRequest (c : Nat) (p : List Byte) (s : State) : Kept s (dispatchRequest c p s) := by
  unfold Machine.dispatchRequest
  split
  · exact .refuse _ _ _ s
  · exact .refuse _ _ _ s
  · rename_i i _
    obtain ⟨t, ht, hk, -⟩ := answered_runRequest s i
    rw [ht]
    exact hk

theorem Kept.setAssembler (a : Assembler) (s : State) : Kept s (setAssembler a s) := .of_bare rfl

theorem Kept.dropFrame (s : State) : Kept s (dropFrame s) :=
  { Kept.refl s with
    capacity := id, attn := id, trainLaws := id, derived := id, ordered := id, buffers := id, sound := id
    stranded := fun _ _ => id
    ranges := fun ⟨hin, hdel, hstand, hhealth, hfaults, hnum, hnum', hlost, hbad, _, hrefusals⟩ =>
      ⟨hin, hdel, hstand, hhealth, hfaults, hnum, hnum', hlost, hbad, satInc_le, hrefusals⟩ }

theorem Kept.badCrcFrame (s : State) : Kept s (badCrcFrame s) :=
  { Kept.refl s with
    capacity := id, attn := id, trainLaws := id, derived := id, ordered := id, buffers := id, sound := id
    stranded := fun _ _ => id
    ranges := fun ⟨hin, hdel, hstand, hhealth, hfaults, hnum, hnum', hlost, _, hrest⟩ =>
      ⟨hin, hdel, hstand, hhealth, hfaults, hnum, hnum', hlost, satInc_le, hrest⟩ }

theorem Kept.collect (bs : List Byte) (s : State) : Kept s (collect bs s) := by
  unfold Machine.collect
  split
  · exact .dropFrame s
  · split
    · refine (Kept.setAssembler .hunting s).trans ?_
      unfold judgeFrame
      split
      · exact .badCrcFrame _
      · split
        · exact .refl _
        · exact .dispatchRequest _ _ _
    · exact .setAssembler _ s

theorem Kept.receiveBytes (bs : List Byte) (s : State) : Kept s (receiveBytes bs s) := by
  refine .foldl _ (fun s b => ?_) bs s
  unfold hostByte
  split
  · split
    · exact .collect _ s
    · exact .refl s
  · exact .collect _ s
  · exact .refl s

theorem Kept.whileCollecting {k : State → State} {s : State} (h : Kept s (k s)) : Kept s (whileCollecting k s) := by
  unfold Machine.whileCollecting
  split
  · exact h
  · exact .refl s
  · exact .refl s

theorem Kept.replySent (s : State) : Kept s (replySent s) := by
  have h : Kept s { s with li := { s.li with
      assembler := .hunting, reply := none, unitAddr := s.tables.params.unitAddress } } := .of_bare rfl
  unfold Machine.replySent
  split
  · exact .refl s
  · dsimp only
    split
    · exact h.trans (.hand _ _)
    · exact h

end Sys2Proof.Proofs.EveryStep
end

section
/-! What a step keeps: events, requests, and the starts (chapter 8). -/
namespace Sys2Proof.Proofs.EveryStep

open Sys2Proof Sys2Proof.Machine

/-! ### A step -/

/-- What a step keeps, whatever the state it finds. -/
structure Stepped (s t : State) : Prop where
  pending : t.pending = s.pending
  total : s.mu.inlet.std + (periodRecord s .inlet).1.std < 2 ^ 64 →
    s.stationS ≤ t.stationS ∨ (t.stationS = 0 ∧ t.sm.kind = .cold ∧ t.sm.starting = true)
  capacity : Safety.Capacity s → Safety.Capacity t
  attn : Safety.AttnLaw s → Safety.AttnLaw t
  trainLaws : Safety.TrainLaws s → Safety.TrainLaws t
  derived : Safety.Derived s.lt.train → Safety.Derived t.lt.train
  ranges : Safety.Ranges s → Safety.Ranges t
  ordered : Safety.Ordered s → Safety.Ordered t
  buffers : Safety.Buffers s → Safety.Buffers t
  sound : Safety.SwitchSound s → Safety.SwitchSound t
  closes : Safety.SwitchSound s → ∀ r, Stranded t r → valveIs s r .closing = true

/-- What a command answers is a step that keeps the laws. -/
def Steps (s : State) (r : Result) : Prop := ∃ t, r = .next t ∧ Stepped s t

section
variable {s t : State}

theorem stationS_le_of_total (h : t.mu.inlet.std = s.mu.inlet.std) : s.stationS ≤ t.stationS := by
  unfold State.stationS
  rw [h]

/-- Outside a start an operation that moves the valves as R129 says is such a step. -/
theorem Moved.stepped (hstart : s.sm.starting = false) (h : Moved s t) : Stepped s t where
  pending := h.pending
  total := fun _ => .inl (stationS_le_of_total h.total)
  capacity := h.capacity
  attn := h.attn
  trainLaws := h.trainLaws
  derived := h.derived
  ranges := h.ranges
  ordered := h.ordered
  buffers := h.buffers
  sound := fun hs => (h.sound ((sound_of_not_starting hstart).mpr hs)).1
  closes := fun hs => h.closes ((sound_of_not_starting hstart).mpr hs)

/-- In every state an operation that touches neither the mode nor the valves is such a step. -/
theorem Kept.stepped (h : Kept s t) (hrc : t.rc = s.rc) (hsm : t.sm = s.sm) : Stepped s t where
  pending := h.pending
  total := fun _ => .inl (stationS_le_of_total h.total)
  capacity := h.capacity
  attn := h.attn
  trainLaws := h.trainLaws
  derived := h.derived
  ranges := h.ranges
  ordered := h.ordered
  buffers := h.buffers
  sound := fun hs => by
    unfold Safety.SwitchSound valveIs valveState at *
    rwa [hrc, hsm]
  closes := fun _ r ⟨hc, _⟩ => by
    unfold valveIs valveState at *
    rwa [hrc] at hc

theorem Stepped.refl (s : State) : Stepped s s := (Kept.refl s).stepped rfl rfl

/-- The hand-off taken first is no part of what the laws read. -/
theorem Stepped.of_take {i : Instr} (h : Stepped (s.take i) t) : Stepped s t :=
  ⟨h.pending, h.total, h.capacity, h.attn, h.trainLaws, h.derived, h.ranges, h.ordered, h.buffers, h.sound, h.closes⟩

theorem starting_of_running (h : s.running = true) : s.sm.starting = false := by
  simpa using (Bool.and_eq_true_iff.mp h).2

/-- R153, R154: an event has its effect while the unit runs. -/
theorem steps_event_of {i : Instr} {k : State → State}
    (h : (s.take i).sm.starting = false → Stepped (s.take i) (k (s.take i))) : Steps s (event i k s) := by
  refine ⟨_, rfl, .of_take (i := i) ?_⟩
  split
  · exact h (starting_of_running ‹_›)
  · exact .refl _

theorem steps_event {i : Instr} {k : State → State} (h : Kept (s.take i) (k (s.take i))) : Steps s (event i k s) :=
  steps_event_of fun hstart => h.moved.stepped hstart

end

/-! ### The period close (R30 to R43) -/

theorem Kept.closePeriod (s : State) :
    Kept { s with mu := { s.mu with inlet := closedMeter s .inlet, delivery := closedMeter s .delivery } }
      (closePeriod s) :=
  (((((Kept.postOverrange .inlet s _).trans (.postSubstituted .inlet s _)).trans (.postOverrange .delivery s _)).trans
    (.postSubstituted .delivery s _)).trans (.flowClose _ _ _)).trans (.handResults _ _ _ _)

theorem residue_closedMeter (s : State) (m : MeterId) : (closedMeter s m).residue < 1000000 :=
  Nat.mod_lt _ (by decide)

/-- R37, [11]: the totaliser of a closed period that still fits 64 bits is the sum. -/
theorem std_closedMeter {s : State} {m : MeterId} (h : (meterOf s.mu m).std + (periodRecord s m).1.std < 2 ^ 64) :
    (closedMeter s m).std = (meterOf s.mu m).std + (periodRecord s m).1.std := by
  unfold closedMeter add64
  exact if_pos h

theorem stepped_closePeriod {s : State} (hstart : s.sm.starting = false) : Stepped s (closePeriod s) := by
  have h := Kept.closePeriod s
  have hsound : Safety.SwitchSound s → Sound { s with
      mu := { s.mu with inlet := closedMeter s .inlet, delivery := closedMeter s .delivery } } :=
    (sound_of_not_starting hstart).mpr
  exact {
    pending := h.pending
    total := fun hfit => .inl (by
      unfold State.stationS
      rw [h.total]
      change s.mu.inlet.std / 1000 ≤ (closedMeter s .inlet).std / 1000
      rw [std_closedMeter (m := .inlet) hfit]
      exact Nat.div_le_div_right (Nat.le_add_right ..))
    capacity := h.capacity
    attn := h.attn
    trainLaws := h.trainLaws
    derived := h.derived
    ranges := fun ⟨_, _, hrest⟩ => h.ranges ⟨residue_closedMeter s .inlet, residue_closedMeter s .delivery, hrest⟩
    ordered := h.ordered
    buffers := h.buffers
    sound := fun hs => (h.sound (hsound hs)).1
    closes := fun hs r hr => (h.stranded (hsound hs) r hr).1 }

/-! ### A start is taken (R153 to R156) -/

/-- What a start leaves, whatever the state it found but for the lists, the train and the counts. -/
structure Started (s t : State) : Prop where
  pending : t.pending = s.pending
  total : s.stationS ≤ t.stationS ∨ (t.stationS = 0 ∧ t.sm.kind = .cold ∧ t.sm.starting = true)
  capacity : Safety.Capacity s → Safety.Capacity t
  attn : Safety.AttnLaw t
  trainLaws : Safety.TrainLaws s → Safety.TrainLaws t
  derived : Safety.Derived t.lt.train
  ranges : Safety.Ranges s → Safety.Ranges t
  ordered : Safety.Ordered s → Safety.Ordered t
  buffers : Safety.Buffers t
  sound : Safety.SwitchSound t
  stranded : ∀ r, ¬ Stranded t r

theorem Started.stepped {s t : State} (h : Started s t) : Stepped s t :=
  ⟨h.pending, fun _ => h.total, h.capacity, fun _ => h.attn, h.trainLaws, fun _ => h.derived, h.ranges, h.ordered,
    fun _ => h.buffers, fun _ => h.sound, fun _ r hr => absurd hr (h.stranded r)⟩

theorem Kept.postStart (k : StartKind) (c : StartCause) (g : Nat) (s : State) : Kept s (postStart k c g s) := by
  cases k
  · exact .post _ _ _ s
  · exact (Kept.post _ _ _ s).trans (.post _ _ _ _)

theorem Kept.scheduleReturn (s : State) : Kept s (scheduleReturn s) := by
  unfold Machine.scheduleReturn
  split
  · exact .refl s
  · split
    · exact (Kept.takeNumber s).trans (.placeAction _ _ _ _)
    · exact .refl s

theorem Kept.startSupply (s : State) (id : Nat) : Kept s (startSupply s id) := by
  unfold Machine.startSupply
  split
  · split
    · exact .supplyWith (fun ps s => .planning (.pointsToPlanner _ _ _ _)) _ _ _ s
    · exact .refl s
  · exact .refl s

theorem Kept.startSupplies (k : StartKind) (s : State) : Kept s (startSupplies k s) := by
  cases k
  · exact .refl s
  · exact .foldl _ Kept.startSupply _ s

theorem Kept.handEnd (s : State) : Kept s (handEnd s) := by
  unfold Machine.handEnd
  split
  · exact .refl s
  · exact .hand _ s

theorem Kept.takeStart (k : StartKind) (c : StartCause) (s : State) : Kept (takeUp k c s) (takeStart k c s) :=
  (((Kept.postStart k c _ _).trans (.scheduleReturn _)).trans (.startSupplies k _)).trans (.handEnd _)

section
variable (k : StartKind) (c : StartCause) (s : State)

/-- R28: the train a start takes up has the entries of the one it found, or none. -/
theorem listed_takeUp : TrainListed s.lt.train (takeUp k c s).lt.train := by
  cases k
  · exact .of_sublist (List.nil_sublist _)
  · refine .trans (.of_forall₂ ?_) (.of_forall₂ (listed_rederive _))
    refine List.forall₂_map_right_iff.mpr (List.forall₂_same.mpr fun e _ => ?_)
    refine .of_leading startInterface (fun i hi => ?_) rfl (fun h => h) rfl rfl
    unfold startInterface
    split <;> exact hi

theorem derived_takeUp : Safety.Derived (takeUp k c s).lt.train := by
  cases k
  · trivial
  · exact derived_rederive _

/-- R167: the tickets a start takes up. -/
theorem tickets_takeUp : (takeUp k c s).ts.Sublist s.ts := by
  cases k
  · exact List.nil_sublist _
  · exact .refl _

/-- R125: the actions a start takes up. -/
theorem actions_takeUp : (takeUp k c s).cp.actions.Sublist s.cp.actions := by
  cases k
  · exact List.nil_sublist _
  · change (if _ then _ else _ : List Action).Sublist _
    split
    · exact List.nil_sublist _
    · exact List.filter_sublist

/-- R174: the records a start takes up. -/
theorem records_takeUp : (takeUp k c s).el.records.Sublist s.el.records := by
  cases k
  · exact List.nil_sublist _
  · exact .refl _

/-- R144: no valve travels through a start. -/
theorem not_closing_takeUp (r : RouteNo) : valveIs (takeUp k c s) r .closing = false := by
  have hstate : ∀ v, (startValve k v).state ≠ .closing := by
    intro v
    unfold startValve
    split
    · dsimp only
      split <;> simp
    · simp [newValve]
  rw [Bool.eq_false_iff, Ne, valveIs_iff]
  simp only [valveState, takeUp, startRoutes, PerRoute.get_build, Option.map_map, Option.map_eq_some_iff, not_exists,
    not_and]
  exact fun _ _ => hstate _

theorem faultCounts_takeUp (h : Safety.FaultCounts s) : Safety.FaultCounts (takeUp k c s) := by
  intro r v hv
  change (PerRoute.build _).get r = some v at hv
  rw [PerRoute.get_build] at hv
  obtain ⟨e, -, rfl⟩ := Option.map_eq_some_iff.mp hv
  unfold startValve
  split
  · rename_i w hw
    have hfaults := h r w hw
    exact hfaults
  · exact Nat.zero_le _

theorem residue_startMeter {m : Meter} (h : m.residue < 1000000) : (startMeter k m).residue < 1000000 := by
  cases k
  · exact Nat.zero_lt_succ _
  · exact h

theorem ranges_takeUp (h : Safety.Ranges s) : Safety.Ranges (takeUp k c s) := by
  obtain ⟨hin, hdel, hstand, ⟨-, -, himage, -⟩, hfaults, hnum, hnum', hlost, -⟩ := h
  have hhealth : ∀ x, ((takeUp k c s).ip.slots.get x).health ≤ 15 := fun x => by
    change ((PerSlot.all SlotState.start).get x).health ≤ 15
    rw [PerSlot.get_all]
    exact Nat.zero_le _
  have hthresholds : Safety.Thresholds (loadedTables s) := by
    unfold loadedTables
    cases hi : s.cs.image with
    | none =>
      intro x
      cases x <;> decide
    | some tb => exact himage tb hi
  refine ⟨residue_startMeter k hin, residue_startMeter k hdel, (listed_takeUp k c s).standstills hstand,
    ⟨hhealth, hthresholds, himage, fun _ h => by cases h⟩, faultCounts_takeUp k c s hfaults, ?_⟩
  cases k
  · exact ⟨Nat.le_refl 1, show 1 ≤ 65535 by decide, Nat.zero_le _, Nat.zero_le _, Nat.zero_le _, Nat.zero_le _⟩
  · exact ⟨hnum, hnum', hlost, Nat.zero_le _, Nat.zero_le _, Nat.zero_le _⟩

/-- R156: a start decides HOLD or UNCONFIGURED and leaves no switch. -/
theorem sound_takeUp : Sound (takeUp k c s) := by
  refine ⟨⟨fun _ => rfl, fun _ hw => by cases hw⟩, fun _ => ?_⟩
  change decidedMode s ≠ _ ∧ decidedMode s ≠ _
  unfold decidedMode
  split
  · split <;> simp
  · simp

theorem buffers_takeUp : Safety.Buffers (takeUp k c s) := by
  intro x
  cases x <;> exact ⟨Nat.zero_le _, Nat.zero_le _, Nat.zero_le _⟩

theorem handEnd_mu (s : State) : (Machine.handEnd s).mu = s.mu := by
  unfold Machine.handEnd
  split <;> rfl

theorem handEnd_sm (s : State) : (Machine.handEnd s).sm = s.sm := by
  unfold Machine.handEnd
  split <;> rfl

/-- R45, R125: a cold start keeps no plan line-up and supplies no points. -/
theorem takeStart_cold : takeStart .cold c s
    = Machine.handEnd (Machine.postStart .cold c (discardedPulses c s) (takeUp .cold c s)) := rfl

/-- R45, R46: a cold start sets S to 0, a warm one keeps it. -/
theorem stationS_takeStart : s.stationS ≤ (takeStart k c s).stationS
    ∨ ((takeStart k c s).stationS = 0 ∧ (takeStart k c s).sm.kind = .cold ∧ (takeStart k c s).sm.starting = true) := by
  cases k
  · refine .inr ?_
    rw [takeStart_cold, State.stationS, handEnd_mu, handEnd_sm]
    exact ⟨Nat.zero_div 1000, rfl, rfl⟩
  · exact .inl (stationS_le_of_total (Kept.takeStart .warm c s).total)

theorem started_takeStart : Started s (takeStart k c s) := by
  have h := Kept.takeStart k c s
  have hlisted := listed_takeUp k c s
  exact {
    pending := h.pending
    total := stationS_takeStart k c s
    capacity := fun ⟨htrain, hts, hel, hcp⟩ => h.capacity ⟨hlisted.length.trans htrain,
      (tickets_takeUp k c s).length_le.trans hts, (records_takeUp k c s).length_le.trans hel,
      (actions_takeUp k c s).length_le.trans hcp⟩
    attn := h.attn (by
      unfold Safety.AttnLaw State.running
      change (startLog k s.el).attn = (_ && !true && _)
      cases k <;> simp [startLog])
    trainLaws := fun ⟨hids, hclosed, hfirst⟩ => h.trainLaws
      ⟨hids.sublist (hlisted.ids.append ((tickets_takeUp k c s).map _)), hlisted.closed hclosed,
        hlisted.completeFirst hfirst⟩
    derived := h.derived (derived_takeUp k c s)
    ranges := h.ranges ∘ ranges_takeUp k c s
    ordered := fun ho => h.ordered (ho.sublist (actions_takeUp k c s))
    buffers := h.buffers (buffers_takeUp k c s)
    sound := (h.sound (sound_takeUp k c s)).1
    stranded := fun r hr => by
      have hclosing := (h.stranded (sound_takeUp k c s) r hr).1
      rw [not_closing_takeUp] at hclosing
      cases hclosing }

end

end Sys2Proof.Proofs.EveryStep
end

section
/-! The statements about every step (O2, O4 to O12), from what each command keeps. -/
namespace Sys2Proof.Proofs.EveryStep

open Sys2Proof Sys2Proof.Machine

/-! ### Power and RSTIN (R152, R153) -/

theorem steps_powerOn (b : Bool) (s : State) : Steps s (execPowerOn b s) := by
  refine ⟨_, rfl, ?_⟩
  split
  · exact .of_take (.refl _)
  · have h := (started_takeStart (if s.sm.check && !b then .warm else .cold) .powerOn
      { s.take (.powerOn b) with
        powered := true, sm := { s.sm with check := s.sm.check && !b, powerOnTest := s.sm.check && !b } }).stepped
    exact ⟨h.pending, h.total, h.capacity, fun _ => (started_takeStart _ _ _).attn, h.trainLaws, h.derived, h.ranges,
      h.ordered, h.buffers, fun _ => (started_takeStart _ _ _).sound, fun _ r hr => absurd hr ((started_takeStart _ _ _).stranded r)⟩

theorem steps_powerLoss (b : Bool) (s : State) : Steps s (execPowerLoss b s) := by
  refine ⟨_, rfl, ?_⟩
  split
  · exact {
      pending := rfl
      total := fun _ => .inl (Nat.le_refl _)
      capacity := id
      attn := fun _ => rfl
      trainLaws := id
      derived := id
      ranges := fun ⟨hin, hdel, hstand, ⟨hhealth, hthresholds, himage, _⟩, hrest⟩ =>
        ⟨hin, hdel, hstand, ⟨hhealth, hthresholds, himage, fun _ h => by cases h⟩, hrest⟩
      ordered := id
      buffers := id
      sound := fun ⟨_, hs⟩ => ⟨nofun, hs⟩
      closes := fun _ _ hr => hr.1 }
  · exact .of_take (.refl _)

theorem steps_rstinAsserted (s : State) : Steps s (execRstinAsserted s) := by
  refine ⟨_, rfl, ?_⟩
  unfold rstinAsserted
  dsimp only
  split
  · have h := (started_takeStart .warm .rstin { s.take .rstinAsserted with rstin := true }).stepped
    exact ⟨h.pending, h.total, h.capacity, fun _ => (started_takeStart _ _ _).attn, h.trainLaws, h.derived, h.ranges,
      h.ordered, h.buffers, h.sound, h.closes⟩
  · exact Kept.stepped (.of_bare rfl) rfl rfl

theorem steps_rstinReleased (s : State) : Steps s (execRstinReleased s) := by
  refine ⟨_, rfl, ?_⟩
  unfold rstinReleased
  dsimp only
  split
  · exact Kept.stepped (.of_bare rfl) rfl rfl
  · exact Kept.stepped (.of_bare rfl) rfl rfl

theorem steps_requestedStart (s : State) : Steps s (execRequestedStartTaken s) := by
  refine steps_event_of fun _ => ?_
  unfold requestedStart
  split
  · exact (started_takeStart _ _ _).stepped
  · exact .refl _

/-! ### The end of a start (R155) -/

/-- R144: routes take their states from their limits: none begins to close, and the switch stands. -/
structure Repositioned (s t : State) : Prop where
  frame : t.noRoutes = s.noRoutes
  faults : Safety.FaultCounts s → Safety.FaultCounts t
  switching : t.rc.switching = s.rc.switching
  closing : ∀ r, valveIs t r .closing = true → valveIs s r .closing = true

section
variable {s t : State} {r : RouteNo}

theorem Repositioned.refl (s : State) : Repositioned s s := ⟨rfl, id, rfl, fun _ => id⟩

theorem Repositioned.trans {u : State} (h : Repositioned s t) (k : Repositioned t u) : Repositioned s u :=
  ⟨k.frame.trans h.frame, k.faults ∘ h.faults, k.switching.trans h.switching, fun r => h.closing r ∘ k.closing r⟩

theorem Easing.repositioned (h : Easing s t) : Repositioned s t := ⟨h.frame, h.faults, h.switching, h.closing⟩

theorem Repositioned.modValve {f : Valve → Valve} (hclosing : ∀ v, (f v).state ≠ .closing)
    (hf : ∀ v, v.faults ≤ 7 → (f v).faults ≤ 7) : Repositioned s (modValve r f s) := by
  refine ⟨rfl, faultCounts_modValve hf, rfl, fun x hx => ?_⟩
  by_cases hxr : x = r
  · subst hxr
    rw [valveIs_iff, valveState_modValve_self] at hx
    obtain ⟨v, -, hv⟩ := Option.map_eq_some_iff.mp hx
    exact absurd hv (hclosing v)
  · rwa [valveIs_of_state (valveState_modValve_ne f hxr)] at hx

theorem FaultedAt.repositioned (h : FaultedAt r s t) : Repositioned s t := by
  refine ⟨h.frame, h.faults, h.switching, fun x hx => ?_⟩
  by_cases hxr : x = r
  · subst hxr
    rw [h.notClosing] at hx
    cases hx
  · rwa [valveIs_of_state (h.others x hxr)] at hx

theorem Repositioned.positionFromLimits (r : RouteNo) (s : State) : Repositioned s (positionFromLimits r s) := by
  unfold Machine.positionFromLimits
  split
  · exact (Easing.enterOpen 0 r s).repositioned
  · exact .modValve (by simp) fun _ hv => (Nat.sub_le ..).trans hv
  · exact .modValve (by simp) fun _ hv => hv
  · exact (faultedAt_faultRoute _ _ r s).repositioned

theorem Repositioned.startPositions (rs : List RouteNo) (s : State) : Repositioned s (rs.foldl startPosition s) := by
  induction rs generalizing s with
  | nil => exact .refl s
  | cons r rs ih =>
    refine .trans ?_ (ih _)
    unfold startPosition
    split
    · exact .refl s
    · exact .refl s
    · exact .positionFromLimits r s

end

/-- R155: while a start is under way there is no switch, and none of its routes begins to close. -/
theorem stepped_startEnd {s : State} (hstart : s.sm.starting = true) : Stepped s (startEnd s) := by
  have hpos := Repositioned.startPositions allRoutes s
  let u := allRoutes.foldl startPosition s
  have hkept : Kept (openWork u) (completionCheck (compare (openWork u))) :=
    (Kept.compare _).trans (.completionCheck _)
  have hjudged := hkept.trans (.judgeAttn _)
  have hfields : ∀ P : State → Prop, P s.noRoutes → P u.noRoutes := fun P h => hpos.frame.symm ▸ h
  have hsound : Safety.SwitchSound s → Sound (openWork u) := fun ⟨hnone, _⟩ => by
    have hswitch : u.rc.switching = none := hpos.switching.trans (hnone hstart)
    refine ⟨⟨nofun, fun w hw => ?_⟩, nofun⟩
    have hw' : u.rc.switching = some w := hw
    rw [hswitch] at hw'
    cases hw'
  exact {
    pending := hjudged.pending.trans (hfields (fun t => t.pending = s.pending) rfl)
    total := fun _ => .inl (stationS_le_of_total
      (hjudged.total.trans (hfields (fun t => t.mu.inlet.std = s.mu.inlet.std) rfl)))
    capacity := fun h => hjudged.capacity (hfields Safety.Capacity h)
    attn := fun _ => attnLaw_judgeAttn _
    trainLaws := fun h => hjudged.trainLaws (hfields Safety.TrainLaws h)
    derived := fun h => hjudged.derived (hfields (fun t => Safety.Derived t.lt.train) h)
    ranges := fun ⟨hin, hdel, hstand, hhealth, hfaults, hrest⟩ => hjudged.ranges
      (show Safety.Ranges u from ⟨hfields (fun t => t.mu.inlet.residue < 1000000) hin,
        hfields (fun t => t.mu.delivery.residue < 1000000) hdel,
        hfields (fun t => ∀ e ∈ t.lt.train, ∀ i, e.leading = some i → i.standstills ≤ 255) hstand,
        hfields Safety.HealthCounts hhealth, hpos.faults hfaults,
        hfields (fun t => 1 ≤ t.cp.nextNum ∧ t.cp.nextNum ≤ 65535 ∧ t.el.lost ≤ Config.count16Max
          ∧ t.li.badCrc ≤ Config.count16Max ∧ t.li.dropped ≤ Config.count16Max ∧ t.li.refusals ≤ Config.count16Max) hrest⟩)
    ordered := fun h => hjudged.ordered (hfields Safety.Ordered h)
    buffers := fun h => hjudged.buffers (hfields Safety.Buffers h)
    sound := fun h => (hjudged.sound (hsound h)).1
    closes := fun h r hr => hpos.closing r (hjudged.stranded (hsound h) r hr).1 }

theorem steps_startEnd (s : State) : Steps s (execStartEnd s) := by
  refine ⟨_, rfl, .of_take (i := .startEnd) ?_⟩
  split
  · rename_i h
    simp only [Bool.and_eq_true] at h
    exact stepped_startEnd h.1.2
  · exact .refl _

/-! ### Limits, posted events and the clock -/

theorem steps_valveLimitChange (r : RouteNo) (o c : Bool) (s : State) : Steps s (execValveLimitChange r o c s) := by
  have hlimits : Kept s { s with rc := { s.rc with limits := s.rc.limits.set r ⟨o, c⟩ } } := .of_bare rfl
  refine ⟨_, rfl, ?_⟩
  split
  · rename_i h
    have hstart := starting_of_running h.1
    have hmoved := Moved.takeLimits r (s.rc.limits.get r) ⟨o, c⟩
      { s with rc := { s.rc with limits := s.rc.limits.set r ⟨o, c⟩ } }
    exact Moved.stepped hstart ⟨hlimits.toLawful.trans hmoved.toLawful, hmoved.closes⟩
  · exact hlimits.moved.toLawful |> fun h => ⟨h.pending, fun _ => .inl (Nat.le_refl _), h.capacity, h.attn, h.trainLaws,
      h.derived, h.ranges, h.ordered, h.buffers, id, fun _ _ hr => hr.1⟩

theorem storeEvent_rc (k : EventKind) (n : Nat) (d : Int) (s : State) : (storeEvent k n d s).rc = s.rc := by
  unfold storeEvent
  split <;> rfl

theorem storeEvent_sm (k : EventKind) (n : Nat) (d : Int) (s : State) : (storeEvent k n d s).sm = s.sm := by
  unfold storeEvent
  split <;> rfl

theorem steps_eventPosted (k : EventKind) (n : Nat) (d : Int) (s : State) : Steps s (execEventPosted k n d s) := by
  refine ⟨_, rfl, .of_take (i := .eventPosted k n d) ?_⟩
  split
  · exact (Kept.storeEvent k n d _).stepped (storeEvent_rc ..) (storeEvent_sm ..)
  · exact .refl _

theorem stepped_tick (s : State) : Stepped s (tick s) := by
  by_cases hstart : s.sm.starting = true
  · unfold tick
    split
    · exact Kept.stepped (.of_bare rfl) rfl rfl
    · exact .refl s
  · exact (Kept.tick s).moved.stepped (by simpa using hstart)

end Sys2Proof.Proofs.EveryStep
end

section
/-! Every command keeps the laws, and with it every step: the statements O2 and O4 to O12. -/
namespace Sys2Proof.Proofs.EveryStep

open Sys2Proof Sys2Proof.Machine

section
variable (s : State)

theorem steps_periodIncrementBooking (i d : Nat) : Steps s (execPeriodIncrementBooking i d s) := by
  refine steps_event ?_
  split
  · exact .refl _
  · exact .trans (.setTrain .marks) (.hand _ _)

theorem steps_holdDemand : Steps s (execHoldDemand s) :=
  steps_event_of fun hstart => (Kept.takeHoldDemand hstart).moved.stepped hstart

theorem steps_safeDemand (r : RouteNo) (c : SafeCause) : Steps s (execSafeDemand r c s) :=
  steps_event_of fun hstart => (Kept.takeSafeDemand hstart r c).moved.stepped hstart

theorem steps_valveTravelExpiry (r : RouteNo) : Steps s (execValveTravelExpiry r s) := by
  refine steps_event_of fun hstart => ?_
  split
  · exact (Moved.travelExpiry r _).stepped hstart
  · exact .refl _

theorem steps_responseTimeout : Steps s (execResponseTimeout s) := by
  refine steps_event ?_
  split
  · exact .takeTimeout _
  · exact .refl _

theorem steps_channelInterfaceHanded (ch : Channel) (ho : HandOff) : Steps s (execChannelInterfaceHanded ch ho s) :=
  steps_event ((Kept.takeHandOff ch ho _).trans (.reportCeased _ _))

theorem steps_channelLostReport (ch : Channel) (id : Nat) : Steps s (execChannelLostReport ch id s) :=
  steps_event ((Kept.windowLost ch id _).trans (.confirmLost ch id _))

theorem steps_channelLeftOffReport (ch : Channel) : Steps s (execChannelLeftOffReport ch s) :=
  steps_event ((Kept.windowLeftOff ch _).trans (.confirmLeftOff ch _))

end

/-! ### Requests -/

theorem exec_eq_runRequest {i : Instr} (h : requestClass i ≠ 0) (s : State) : exec i s = runRequest i s := by
  cases i
  all_goals first
    | rfl
    | exact absurd rfl h

theorem steps_runRequest (i : Instr) (s : State) : Steps s (runRequest i s) := by
  obtain ⟨t, ht, hkept, hidle⟩ := answered_runRequest s i
  refine ⟨t, ht, ?_⟩
  by_cases hrun : s.running = true
  · exact hkept.moved.stepped (starting_of_running hrun)
  · exact hidle (by simpa using hrun) ▸ .refl s

/-! ### Every command, every step -/

/-- Every command answers, and what it answers keeps the laws. -/
theorem steps_exec (i : Instr) (s : State) : Steps s (exec i s) := by
  by_cases hrequest : requestClass i ≠ 0
  · rw [exec_eq_runRequest hrequest]
    exact steps_runRequest i s
  · cases i with
    | requestedStartTaken => exact steps_requestedStart s
    | saveWriteVerified => exact steps_event (.writeVerified _)
    | saveWriteFailed => exact steps_event (.writeFailed _)
    | hostFrame bs => exact steps_event (.receiveBytes bs _)
    | frameGapTimeout => exact steps_event (.whileCollecting (.dropFrame _))
    | overlongLengthReceived => exact steps_event (.whileCollecting (.dropFrame _))
    | replySent => exact steps_event (.replySent _)
    | meterPulse m => exact steps_event (.countPulse m _)
    | meterPeriodClose => exact steps_event_of stepped_closePeriod
    | standstillCountRaise => exact steps_event (.raiseStandstills _)
    | ltSAdvance n => exact steps_event (.ltAdvance n _)
    | cpSAdvance n f => exact steps_event (.cpAdvance n f _)
    | periodIncrementBooking i d => exact steps_periodIncrementBooking s i d
    | bookingStripCheck => exact steps_event (.stripCheck _)
    | pollTick => exact steps_event (.pollTick _)
    | pollRequestSent => exact steps_event (.requestSent _)
    | instrumentResponse bs => exact steps_event (.takeResponse bs _)
    | responseTimeout => exact steps_responseTimeout s
    | channelReading ch v q t => exact steps_event (.channelEvent (.takeReading ch v q t _))
    | channelSAdvance ch n => exact steps_event (.channelEvent (.channelAdvance ch n _))
    | channelSlotLost ch => exact steps_event (.channelEvent (.slotLost ch _))
    | channelSlotRecovered ch => exact steps_event (.channelEvent (.slotRecovered ch _))
    | channelInterfaceHanded ch ho => exact steps_channelInterfaceHanded s ch ho
    | channelWindowExpiry ch id => exact steps_event (.channelEvent (.windowExpired ch id _))
    | channelRelease ch id => exact steps_event (.channelEvent (.released ch id _))
    | anchorHanded id v src => exact steps_event (.takeAnchor id v src _)
    | crossingToLineTracker ch id l x => exact steps_event (.takeCrossing ch id l x _)
    | crossingToCutPlanner ch id l x b f => exact steps_event (.planning (.crossingToPlanner ch id l x b f _))
    | volumetricPointsToCutPlanner id ps f =>
      exact steps_event (.planning (.settlePlan f _ (.pointsToPlanner id f ps _)))
    | missReturned ch id => exact steps_event (.takeMiss ch id _)
    | channelLostReport ch id => exact steps_channelLostReport s ch id
    | channelLeftOffReport ch => exact steps_channelLeftOffReport s ch
    | lowContrastReport ch id r x => exact steps_event (.takeLowContrast ch id r x _)
    | confirmDepartureHanded id x => exact steps_event (.takeConfirmDeparture id x _)
    | manifoldPrimaryCeased => exact steps_event (.considerConfirm _)
    | earlyDisagreeAdvance id f => exact steps_event (.advanceFirst id f _)
    | excursionStartHanded ch x f => exact steps_event (.planning (.excursionStart ch x _ f _))
    | excursionEndHanded ch x d f => exact steps_event (.planning (.excursionEnd ch x f _))
    | actionLeftList id => exact steps_event (.completionCheck _)
    | switchEndHanded => exact steps_event (.completionCheck _)
    | safeDemand r c => exact steps_safeDemand s r c
    | holdDemand => exact steps_holdDemand s
    | valveLimitChange r o c => exact steps_valveLimitChange r o c s
    | valveTravelExpiry r => exact steps_valveTravelExpiry s r
    | eventPosted k n d => exact steps_eventPosted k n d s
    | powerOn b => exact steps_powerOn b s
    | powerLoss b => exact steps_powerLoss b s
    | rstinAsserted => exact steps_rstinAsserted s
    | rstinReleased => exact steps_rstinReleased s
    | startEnd => exact steps_startEnd s
    | _ => exact absurd (fun h => by cases h) hrequest

/-- A step keeps the laws: the queue of commands is no part of them. -/
theorem stepped_of_step {s t : State} (h : step s = .next t) :
    ∃ u : State, (∃ p, u = { s with pending := p }) ∧ Stepped u t := by
  unfold step at h
  split at h
  · rename_i c rest _
    obtain ⟨v, hv, hstep⟩ := steps_exec c { s with pending := rest }
    rw [hv] at h
    cases h
    exact ⟨_, ⟨rest, rfl⟩, hstep⟩
  · split at h
    · rename_i i _ _
      obtain ⟨v, hv, hstep⟩ := steps_exec i s
      rw [hv] at h
      cases h
      exact ⟨s, ⟨s.pending, rfl⟩, hstep⟩
    · cases h
      exact ⟨s, ⟨s.pending, rfl⟩, stepped_tick s⟩

/-- Settles O2. -/
theorem everyCommandAnswers : Obligations.EveryCommandAnswers := by
  refine ⟨fun c s => ?_, fun c s hc hs => ?_⟩
  · obtain ⟨t, ht, hstep⟩ := steps_exec c s
    exact ⟨t, ht, hstep.pending⟩
  · obtain ⟨t, ht, -, hidle⟩ := answered_runRequest s c
    rw [exec_eq_runRequest hc, ht, hidle hs]

/-- Settles O4. -/
theorem capacitiesKeptByEveryStep : Obligations.CapacitiesKeptByEveryStep := by
  intro s t hs h
  obtain ⟨_, ⟨_, rfl⟩, hstep⟩ := stepped_of_step h
  exact hstep.capacity hs

/-- Settles O5. -/
theorem attnFollowsItsGroundsAtEveryStep : Obligations.AttnFollowsItsGroundsAtEveryStep := by
  intro s t hs h
  obtain ⟨_, ⟨_, rfl⟩, hstep⟩ := stepped_of_step h
  exact hstep.attn hs

/-- Settles O6. -/
theorem trainLawsKeptByEveryStep : Obligations.TrainLawsKeptByEveryStep := by
  intro s t hs h
  obtain ⟨_, ⟨_, rfl⟩, hstep⟩ := stepped_of_step h
  exact hstep.trainLaws hs

/-- Settles O7. -/
theorem farPositionsStayDerived : Obligations.FarPositionsStayDerived := by
  intro s t hs h
  obtain ⟨_, ⟨_, rfl⟩, hstep⟩ := stepped_of_step h
  exact hstep.derived hs

/-- Settles O8. -/
theorem countsStayInRange : Obligations.CountsStayInRange := by
  intro s t hs h
  obtain ⟨_, ⟨_, rfl⟩, hstep⟩ := stepped_of_step h
  exact hstep.ranges hs

/-- Settles O9. -/
theorem listsKeepTheirShape : Obligations.ListsKeepTheirShape := by
  constructor
  · intro s t hs h
    obtain ⟨_, ⟨_, rfl⟩, hstep⟩ := stepped_of_step h
    exact hstep.ordered hs
  · intro s t hs h
    obtain ⟨_, ⟨_, rfl⟩, hstep⟩ := stepped_of_step h
    exact hstep.buffers hs

/-- Settles O10. -/
theorem switchStaysSound : Obligations.SwitchStaysSound := by
  intro s t hs h
  obtain ⟨_, ⟨_, rfl⟩, hstep⟩ := stepped_of_step h
  exact hstep.sound hs

/-- Settles O11: a route that begins to close without another one OPEN would be stranded by the step. -/
theorem routeClosesOnlyBesideAnOpenRoute : Obligations.RouteClosesOnlyBesideAnOpenRoute := by
  intro s t r hs h hbefore hafter
  obtain ⟨_, ⟨_, rfl⟩, hstep⟩ := stepped_of_step h
  by_contra hno
  have hclosing : valveIs s r .closing = true := hstep.closes hs r ⟨hafter, hno⟩
  rw [hbefore] at hclosing
  cases hclosing

/-- Settles O12. -/
theorem stationTotaliserNeverDecreases : Obligations.StationTotaliserNeverDecreases := by
  intro s t hfit h
  obtain ⟨_, ⟨_, rfl⟩, hstep⟩ := stepped_of_step h
  exact hstep.total hfit

end Sys2Proof.Proofs.EveryStep
end

section
/-! What a request and an event answer while the unit runs, and the statements about the step, the reset, the save and the
time of day (O1, O3, O24, O25). -/
namespace Sys2Proof.Proofs.Answers

open Sys2Proof Sys2Proof.Machine

section
variable {s : State} {k : State → State} {i : Instr}

theorem request_running (h : s.running = true) : request k s = .next (k s) := by simp [request, h]

theorem event_running (h : s.running = true) : event i k s = .next (k (s.take i)) := by
  have hrun : (s.take i).running = true := h
  simp [event, hrun]

theorem judgeAttn_running (h : s.running = true) : judgeAttn s = { s with el := { s.el with attn := attnWanted s } } := by
  simp [judgeAttn, h]

end

/-- Settles O1. -/
theorem stepTakesTheFrontCommand : Obligations.StepTakesTheFrontCommand := by
  refine ⟨fun c rest s => rfl, fun i rest s hp hh => ?_, fun s hp hh => ?_⟩
  · simp [step, hp, hh]
  · simp [step, hp, hh]

/-- Settles O3. -/
theorem invariantsHoldAtReset : Obligations.InvariantsHoldAtReset := by
  refine ⟨?capacity, ?attn, ?train, trivial, ?ranges, ?buffers, List.Pairwise.nil, ?switch⟩
  case capacity => unfold Safety.Capacity; decide
  case attn => unfold Safety.AttnLaw; decide
  case train => exact ⟨List.nodup_nil, by simp [State.reset, LineTracker.cold], List.Pairwise.nil⟩
  case switch => exact ⟨(by cases ·), by simp [State.reset]⟩
  case ranges =>
    refine ⟨by decide, by decide, by simp [State.reset, LineTracker.cold], ⟨fun k => ?_, fun k => ?_, (by simp [State.reset]),
      (by simp [State.reset])⟩, fun r v hv => ?_, by decide, by decide, by decide, by decide, by decide, by decide⟩
    · cases k <;> decide
    · cases k <;> decide
    · cases r <;> cases hv
  case buffers =>
    intro c
    cases c <;> decide

/-- Settles O24. -/
theorem saveWritesTheTables : Obligations.SaveWritesTheTables := by
  intro s hrun
  have hreq := fun k => request_running (k := k) hrun
  have hev := fun i k => event_running (i := i) (k := k) hrun
  refine ⟨fun hnone => ?_, fun w hw => ⟨?_, ?_, ?_⟩, fun hnone => ⟨?_, ?_⟩⟩
  · simp only [exec, execSaveConfiguration, hreq, hnone]
    rfl
  · simp [exec, execSaveConfiguration, hreq, hw]
  · have hw' : (s.take .saveWriteVerified).cs.saving = some w := hw
    simp only [exec, execSaveWriteVerified, hev, writeVerified, hw']
    rfl
  · have hw' : (s.take .saveWriteFailed).cs.saving = some w := hw
    simp only [exec, execSaveWriteFailed, hev, writeFailed, hw']
    rfl
  · simp [exec, execSaveWriteVerified, hev, writeVerified, hnone]
  · simp [exec, execSaveWriteFailed, hev, writeFailed, hnone]

/-- Settles O25. -/
theorem setTimeMovesOnlyTheTimeOfDay : Obligations.SetTimeMovesOnlyTheTimeOfDay := by
  intro n s hrun
  have hzero : encUnsigned 2 0 = [0#8, 0#8] := by decide
  simp only [exec, execSetTime, request_running hrun, hzero]
  rfl

end Sys2Proof.Proofs.Answers
end

section
/-! The bytes of payloads: lengths of the items, and what a field of a payload reads (R175, R178, R179). -/
namespace Sys2Proof.Proofs.Bytes

open Sys2Proof Sys2Proof.Machine

/-! ### Lengths -/

@[simp] theorem length_bytesOf (k n : Nat) : (bytesOf k n).length = k := by
  induction k with
  | zero => rfl
  | succ k ih => simp [bytesOf, ih]

@[simp] theorem length_encUnsigned (k n : Nat) : (encUnsigned k n).length = k := by
  unfold encUnsigned
  split <;> simp

@[simp] theorem length_encSigned (k : Nat) (x : Int) : (encSigned k x).length = k := by
  unfold encSigned
  split <;> simp

@[simp] theorem length_enc1 (n : Nat) : (enc1 n).length = 1 := length_encUnsigned 1 n

@[simp] theorem length_encBool (b : Bool) : (encBool b).length = 1 := by cases b <;> rfl

@[simp] theorem length_encOpt (k : Nat) (o : Option Nat) : (encOpt k o).length = k := by
  cases o
  · exact List.length_replicate
  · exact length_encUnsigned ..

@[simp] theorem length_encOptSigned (k : Nat) (o : Option Int) : (encOptSigned k o).length = k := by
  cases o
  · cases k
    · rfl
    · simp [encOptSigned, absentLowest]
  · exact length_encSigned ..

@[simp] theorem length_encBatch (o : Option Nat) : (encBatch o).length = 4 := length_encUnsigned ..

/-! ### Numbers -/

theorem numberOf_from (bs : List Byte) (a : Nat) :
    bs.foldl (fun n b => n * 256 + b.toNat) a = a * 256 ^ bs.length + numberOf bs := by
  induction bs generalizing a with
  | nil => simp [numberOf]
  | cons b bs ih =>
    unfold numberOf
    rw [List.foldl_cons, List.foldl_cons, ih, ih, List.length_cons, pow_succ]
    ring

theorem numberOf_cons (b : Byte) (bs : List Byte) : numberOf (b :: bs) = b.toNat * 256 ^ bs.length + numberOf bs := by
  have h := numberOf_from bs (0 * 256 + b.toNat)
  simpa [numberOf] using h

/-- The `k` low bytes of a number stand for its remainder. -/
theorem numberOf_bytesOf (k n : Nat) : numberOf (bytesOf k n) = n % 256 ^ k := by
  induction k with
  | zero => simp [bytesOf, numberOf, Nat.mod_one]
  | succ k ih =>
    calc numberOf (bytesOf (k + 1) n) = n / 256 ^ k % 256 * 256 ^ k + n % 256 ^ k := by
          rw [bytesOf, numberOf_cons, ih, length_bytesOf, BitVec.toNat_ofNat]
      _ = n % (256 ^ k * 256) := by rw [Nat.mod_mul]; ring
      _ = n % 256 ^ (k + 1) := by rw [pow_succ]

theorem numberOf_bytesOf_of_lt {k n : Nat} (h : n < 256 ^ k) : numberOf (bytesOf k n) = n := by
  rw [numberOf_bytesOf, Nat.mod_eq_of_lt h]

/-! ### Fields -/

section
variable {p q : List Byte} {off len : Nat}

/-- A field behind the first bytes of a payload. -/
theorem fieldBytes_skip (h : p.length ≤ off) : fieldBytes (p ++ q) off len = fieldBytes q (off - p.length) len := by
  unfold fieldBytes
  rw [List.drop_append, List.drop_eq_nil_of_le h, List.nil_append]

/-- The bytes a payload begins with. -/
theorem fieldBytes_head (h : p.length = len) : fieldBytes (p ++ q) 0 len = p := by
  subst h
  simp [fieldBytes]

theorem fieldBytes_all (h : p.length = len) : fieldBytes p 0 len = p := by
  subst h
  simp [fieldBytes]

theorem field_skip (h : p.length ≤ off) : field (p ++ q) off len = field q (off - p.length) len := by
  rw [field, fieldBytes_skip h, field]

theorem fieldBytes_cons {b : Byte} (h : 1 ≤ off) : fieldBytes (b :: q) off len = fieldBytes q (off - 1) len :=
  fieldBytes_skip (p := [b]) h

theorem field_cons {b : Byte} (h : 1 ≤ off) : field (b :: q) off len = field q (off - 1) len := field_skip (p := [b]) h

theorem field_head (h : p.length = len) : field (p ++ q) 0 len = numberOf p := by
  rw [field, fieldBytes_head h]

theorem field_all (h : p.length = len) : field p 0 len = numberOf p := by
  rw [field, fieldBytes_all h]

end

/-! ### Items -/

theorem numberOf_encUnsigned {k n : Nat} (h : n < 256 ^ k) : numberOf (encUnsigned k n) = n := by
  rw [encUnsigned, if_pos h, numberOf_bytesOf_of_lt h]

theorem numberOf_enc1 {n : Nat} (h : n < 256) : numberOf (enc1 n) = n := numberOf_encUnsigned h

theorem numberOf_encBool (b : Bool) : numberOf (encBool b) = if b then 1 else 0 := by
  cases b <;> rfl

/-- A signed request field of four bytes comes back as it was sent. -/
theorem signedOf_signedBytes {x : Int} (hlow : -2147483648 ≤ x) (hhigh : x ≤ 2147483647) : signedOf (signedBytes x) = x := by
  have hlt : (x % 4294967296).toNat < 256 ^ 4 := by omega
  unfold signedOf signedBytes
  rw [numberOf_bytesOf_of_lt hlt]
  dsimp only
  split <;> omega

@[simp] theorem length_signedBytes (x : Int) : (signedBytes x).length = 4 := length_bytesOf ..

/-! ### Requests (R178) -/

/-- Settles O13, field by field of the catalogue. -/
theorem requestRoundTrip : Obligations.RequestRoundTrip := by
  intro i c p hwf henc
  cases i
  all_goals cases henc
  all_goals simp_all [Instr.wf, decodeRequest, requestLength, requestFields, field_skip, fieldBytes_skip, field_head,
    fieldBytes_head, field_all, fieldBytes_all, numberOf_bytesOf_of_lt, signedOf_signedBytes]

end Sys2Proof.Proofs.Bytes
end

section
/-! Frames on the host line: dispatch, refusals, frames passed over, and the end of a reply (section 11.1, 11.2). -/
namespace Sys2Proof.Proofs.HostLine

open Sys2Proof Sys2Proof.Machine Sys2Proof.Proofs.Answers Sys2Proof.Proofs.Bytes Sys2Proof.Proofs.EveryStep

/-! ### The fields of a frame (R175) -/

/-- What a frame's CRC covers: address, length, class and payload. -/
def covered (a c : Nat) (p : List Byte) : List Byte := bytesOf 1 a ++ bytesOf 1 p.length ++ bytesOf 1 c ++ p

section
variable (a c : Nat) (p : List Byte)

theorem length_covered : (covered a c p).length = p.length + 3 := by
  simp only [covered, List.length_append, length_bytesOf]
  omega

theorem frame_eq : frame a c p = [0xC3#8] ++ (covered a c p ++ bytesOf 2 (crc16 (covered a c p)).toNat) := rfl

theorem length_frame : (frame a c p).length = p.length + 6 := by
  simp only [frame_eq, List.length_append, List.length_singleton, length_covered, length_bytesOf]
  omega

theorem field_frame_address (h : a < 256) : field (frame a c p) 1 1 = a := by
  simp [frame_eq, covered, field_cons, field_head, numberOf_bytesOf_of_lt, h]

theorem field_frame_length (h : p.length ≤ 240) : field (frame a c p) 2 1 = p.length := by
  have hlt : p.length < 256 := by omega
  simp [frame_eq, covered, field_cons, field_skip, field_head, numberOf_bytesOf_of_lt, hlt]

theorem field_frame_class (h : c < 256) : field (frame a c p) 3 1 = c := by
  simp [frame_eq, covered, field_cons, field_skip, field_head, numberOf_bytesOf_of_lt, h]

theorem fieldBytes_frame_payload : fieldBytes (frame a c p) 4 p.length = p := by
  simp [frame_eq, covered, fieldBytes_cons, fieldBytes_skip, fieldBytes_head]

theorem frameShape_frame (h : p.length ≤ 240) : frameShape (frame a c p) = true := by
  have hlt : p.length < 256 := by omega
  simp [frame, bytesOf, frameShape, Nat.mod_eq_of_lt hlt]

theorem frameCrcOk_frame : frameCrcOk (frame a c p) = true := by
  have hlength := length_covered a c p
  have hcovered : fieldBytes (frame a c p) 1 ((frame a c p).length - 3) = covered a c p := by
    rw [length_frame, frame_eq, fieldBytes_skip (by simp)]
    exact fieldBytes_head (by rw [hlength]; omega)
  have hcrc : field (frame a c p) ((frame a c p).length - 2) 2 = (crc16 (covered a c p)).toNat := by
    have hlt : (crc16 (covered a c p)).toNat < 256 ^ 2 := (crc16 (covered a c p)).isLt
    rw [length_frame, frame_eq, field_skip (by simp), field_skip (by rw [hlength, List.length_singleton]; omega), hlength,
      List.length_singleton, show p.length + 6 - 2 - 1 - (p.length + 3) = 0 by omega, field_all (length_bytesOf ..),
      numberOf_bytesOf_of_lt hlt]
  rw [frameCrcOk, hcovered, hcrc]
  exact beq_self_eq_true _

end

/-- R176, R177: a good frame addressed to the unit that finds the assembler hunting is dispatched. -/
theorem receiveBytes_frame {c : Nat} {p : List Byte} {s : State} (hhunting : s.li.assembler = .hunting)
    (haddr : s.li.unitAddr < 256) (hc : c < 256) (hp : p.length ≤ 240) :
    receiveBytes (frame s.li.unitAddr c p) s = dispatchRequest c p s := by
  have hlength := field_frame_length s.li.unitAddr c p hp
  rw [receiveBytes_whole _ s (frameShape_frame _ _ _ hp) (by rw [hlength]; exact hp) hhunting, judgeFrame,
    frameCrcOk_frame, if_neg (by simp), field_frame_address _ _ _ haddr, if_neg (by simp), field_frame_class _ _ _ hc,
    hlength, fieldBytes_frame_payload]

/-- R177: a refusal's detail is sent as the four bytes of its two's complement. -/
theorem encSigned_toInt (d : BitVec 32) : encSigned 4 d.toInt
    = [d.extractLsb' 24 8, d.extractLsb' 16 8, d.extractLsb' 8 8, d.extractLsb' 0 8] := by
  have hrange : -(2 ^ (8 * 4 - 1) : Int) ≤ d.toInt ∧ d.toInt < (2 ^ (8 * 4 - 1) : Int) := by
    have := d.toInt_lt
    have := d.le_toInt
    omega
  have hmod : (d.toInt % (256 ^ 4 : Int)).toNat = d.toNat := by
    have hemod : d.toInt % (256 ^ 4 : Int) = d.toNat := by
      have hlt := d.isLt
      have hcond := BitVec.toInt_eq_toNat_cond d
      split at hcond <;> omega
    rw [hemod]
    rfl
  have hbyte : ∀ k, BitVec.ofNat 8 (d.toNat / 256 ^ k) = d.extractLsb' (8 * k) 8 := fun k => by
    apply BitVec.eq_of_toNat_eq
    rw [BitVec.toNat_ofNat, BitVec.extractLsb'_toNat, Nat.shiftRight_eq_div_pow, Nat.pow_mul]
  rw [encSigned, if_pos hrange, hmod]
  simp only [bytesOf, hbyte]

theorem satInc_eq_min (top n : Nat) : satInc top n = min top (n + 1) := by
  unfold satInc
  split <;> omega

theorem requestLength_lt {c n : Nat} (h : requestLength c = some n) : c < 256 := by
  by_contra hc
  unfold requestLength at h
  split at h <;> first | omega | cases h

/-- The classes of the catalogue (R178) are not 0. -/
theorem encodeRequest_class {i : Instr} {c : Nat} {p : List Byte} (h : encodeRequest i = some (c, p)) :
    requestClass i = c ∧ c ≠ 0 := by
  refine ⟨by rw [requestClass, h], ?_⟩
  cases i <;> cases h <;> decide

/-- Settles O14. -/
theorem hostFramesAreDispatched : Obligations.HostFramesAreDispatched := by
  refine ⟨fun i c p s hwf henc hrun hhunting haddr => ?requests, fun c p s hrun hhunting haddr hc hp => ?refused, ?refusals⟩
  case requests =>
    obtain ⟨hdecode, hlength⟩ := requestRoundTrip i c p hwf henc
    obtain ⟨hclass, hne⟩ := encodeRequest_class henc
    have hc : c < 256 := by
      cases hreq : requestLength c with
      | none => simp [decodeRequest, hreq] at hdecode
      | some n => exact requestLength_lt hreq
    obtain ⟨t, ht, -⟩ := answered_runRequest (s.take (.hostFrame (frame s.li.unitAddr c p))) i
    have hframe : exec (.hostFrame (frame s.li.unitAddr c p)) s = .next t := by
      rw [exec, execHostFrame, event_running hrun]
      refine congrArg _ ((receiveBytes_frame (s := s.take (.hostFrame (frame s.li.unitAddr c p))) hhunting haddr hc hlength).trans ?_)
      rw [dispatchRequest, hdecode]
      dsimp only
      rw [ht]
      rfl
    refine ⟨?_, t, hframe⟩
    rw [hframe, exec_eq_runRequest (by rwa [hclass]), ht]
  case refused =>
    have hexec : exec (.hostFrame (frame s.li.unitAddr c p)) s
        = .next (dispatchRequest c p (s.take (.hostFrame (frame s.li.unitAddr c p)))) := by
      rw [exec, execHostFrame, event_running hrun]
      exact congrArg _ (receiveBytes_frame (s := s.take (.hostFrame (frame s.li.unitAddr c p))) hhunting haddr hc hp)
    refine ⟨fun hnone => ?_, fun n hn hne => ?_⟩
    · rw [hexec]
      simp [dispatchRequest, decodeRequest, hnone]
    · rw [hexec]
      simp [dispatchRequest, decodeRequest, hn, hne]
  case refusals =>
    intro x c d s hx hc
    have hcode : ∀ x ∈ Safety.RefusalCodes, refusalNumber x.1 = x.2 := by decide
    rw [State.refuse, encSigned_toInt, hcode x hx, satInc_eq_min]
    simp only [State.reply, bytesOf, Nat.pow_zero, Nat.div_one]
    rfl

/-! ### Frames passed over (R176) -/

theorem receiveBytes_append (p q : List Byte) (s : State) : receiveBytes (p ++ q) s = receiveBytes q (receiveBytes p s) :=
  List.foldl_append ..

/-- The bytes of a frame, the last not among them, are held. -/
theorem collect_part {p q : List Byte} (hq : q ≠ []) (hlength : (p ++ q).length = field (p ++ q) 2 1 + 6)
    (hle : field (p ++ q) 2 1 ≤ 240) (s : State) : collect p s = setAssembler (.collecting p) s := by
  have hshort : p.length < (p ++ q).length := by
    rw [List.length_append]
    exact Nat.lt_add_of_pos_right (List.length_pos_iff.mpr hq)
  have hfield : p.length < 3 ∨ field (p ++ q) 2 1 = field p 2 1 := by
    by_cases h : p.length < 3
    · exact .inl h
    · exact .inr (field_append p q 2 1 (by omega))
  unfold collect
  rcases hfield with hfew | hfield
  · rw [if_neg (by omega), if_neg (by rw [field_short p hfew]; omega)]
  · rw [if_neg (by omega), if_neg (by omega)]

theorem receiveBytes_part {q : List Byte} (hq : q ≠ []) (p p₀ : List Byte)
    (hlength : (p₀ ++ p ++ q).length = field (p₀ ++ p ++ q) 2 1 + 6) (hle : field (p₀ ++ p ++ q) 2 1 ≤ 240) (s : State) :
    receiveBytes p (setAssembler (.collecting p₀) s) = setAssembler (.collecting (p₀ ++ p)) s := by
  induction p generalizing p₀ with
  | nil => simp [receiveBytes]
  | cons b p ih =>
    have hsplit : p₀ ++ b :: p ++ q = (p₀ ++ [b]) ++ (p ++ q) := by simp
    have hfirst : hostByte (setAssembler (.collecting p₀) s) b = setAssembler (.collecting (p₀ ++ [b])) s := by
      rw [hsplit] at hlength hle
      exact (collect_part (by simp [hq]) hlength hle _).trans (setAssembler_setAssembler ..)
    change receiveBytes p (hostByte (setAssembler (.collecting p₀) s) b) = _
    rw [hfirst, ih (p₀ ++ [b]) (by simpa using hlength) (by simpa using hle)]
    simp

/-- R176: a part of a frame that finds the assembler hunting is held. -/
theorem receiveBytes_of_part {p q : List Byte} {s : State} (hp : p ≠ []) (hq : q ≠ [])
    (hshape : frameShape (p ++ q) = true) (hle : field (p ++ q) 2 1 ≤ 240) (hhunting : s.li.assembler = .hunting) :
    receiveBytes p s = setAssembler (.collecting p) s := by
  obtain ⟨rest, hrest, -, hlength⟩ := frameShape_length hshape
  obtain ⟨b, p, rfl⟩ := List.exists_cons_of_ne_nil hp
  obtain rfl : b = 0xC3#8 := (List.cons.inj hrest).1
  have hfirst : hostByte s 0xC3#8 = setAssembler (.collecting [0xC3#8]) s := by
    unfold hostByte
    rw [hhunting]
    rfl
  change receiveBytes p (hostByte s 0xC3#8) = _
  rw [hfirst]
  exact receiveBytes_part hq p [0xC3#8] hlength hle s

/-- R176, 1: a length byte above 240 drops the frame, and bytes without a start byte behind it are discarded. -/
theorem receiveBytes_overlong {a n : Byte} {rest : List Byte} {s : State} (hhunting : s.li.assembler = .hunting)
    (hn : 240 < n.toNat) (hrest : ∀ b ∈ rest, b ≠ 0xC3#8) :
    receiveBytes (0xC3#8 :: a :: n :: rest) s = dropFrame s := by
  have hfirst : hostByte s 0xC3#8 = setAssembler (.collecting [0xC3#8]) s := by
    unfold hostByte
    rw [hhunting]
    rfl
  have hsecond : hostByte (hostByte s 0xC3#8) a = setAssembler (.collecting [0xC3#8, a]) s := by
    rw [hfirst]
    change collect [0xC3#8, a] _ = _
    simp [collect, field, fieldBytes, numberOf]
  have hthird : hostByte (hostByte (hostByte s 0xC3#8) a) n = dropFrame s := by
    rw [hsecond]
    change collect [0xC3#8, a, n] _ = _
    have hfield : field [0xC3#8, a, n] 2 1 = n.toNat := by simp [field, fieldBytes, numberOf]
    rw [collect, if_pos ⟨rfl, by rw [hfield]; exact hn⟩]
    rfl
  change receiveBytes rest (hostByte (hostByte (hostByte s 0xC3#8) a) n) = _
  rw [hthird]
  exact receiveBytes_hunting rest _ rfl hrest

/-- Settles O15. -/
theorem framesPassedOverAndReplySent : Obligations.FramesPassedOverAndReplySent := by
  refine ⟨fun s hrun => ⟨fun q hq => ?collecting, fun hhunting => ?hunting, fun hclosed => ?closed⟩, fun s r hrun => ?reply⟩
  case collecting =>
    have hdrop : ∀ i : Instr, whileCollecting dropFrame (s.take i) = dropFrame (s.take i) := fun i => by
      have hq' : (s.take i).li.assembler = .collecting q := hq
      rw [whileCollecting, hq']
    refine ⟨(event_running hrun).trans ?_, (event_running hrun).trans ?_⟩
    · rw [hdrop]
      rfl
    · rw [hdrop]
      rfl
  case hunting =>
    have htaken : ∀ i : Instr, (s.take i).li.assembler = .hunting := fun _ => hhunting
    have hkeep : ∀ i : Instr, whileCollecting dropFrame (s.take i) = s.take i := fun i => by
      rw [whileCollecting, htaken i]
    refine ⟨(event_running hrun).trans (by rw [hkeep]), (event_running hrun).trans (by rw [hkeep]),
      fun a n rest hn hrest => ?overlong, fun pre hpre => ⟨?before, fun bs hshape hle => ?whole⟩⟩
    case overlong =>
      refine (event_running hrun).trans ?_
      rw [receiveBytes_overlong (htaken _) hn hrest]
      rfl
    case before =>
      refine (event_running hrun).trans ?_
      rw [receiveBytes_hunting pre _ (htaken _) hpre]
    case whole =>
      have hpast : ∀ (p : List Byte) (i : Instr), receiveBytes (pre ++ p) (s.take i) = receiveBytes p (s.take i) :=
        fun p i => by rw [receiveBytes_append, receiveBytes_hunting pre _ (htaken _) hpre]
      have hjudged : exec (.hostFrame (pre ++ bs)) s = .next (judgeFrame bs (s.take (.hostFrame (pre ++ bs)))) := by
        refine (event_running hrun).trans ?_
        rw [hpast, receiveBytes_whole bs _ hshape hle (htaken _)]
      refine ⟨fun hcrc => ?_, fun hcrc haddr => ?_, fun p q hbs hp hq => ?_⟩
      · rw [hjudged, judgeFrame, if_pos hcrc, badCrcFrame]
        simp only [← hhunting]
        rfl
      · rw [hjudged, judgeFrame, if_neg (by simp [hcrc]), if_pos (by simpa using haddr)]
      · subst hbs
        refine (event_running hrun).trans ?_
        rw [hpast, receiveBytes_of_part hp hq hshape hle (htaken _)]
        rfl
  case closed =>
    have htaken : ∀ i : Instr, (s.take i).li.assembler = .closed := fun _ => hclosed
    have hkeep : ∀ i : Instr, whileCollecting dropFrame (s.take i) = s.take i := fun i => by
      rw [whileCollecting, htaken i]
    refine ⟨(event_running hrun).trans (by rw [hkeep]), (event_running hrun).trans (by rw [hkeep]), fun bs => ?_⟩
    refine (event_running hrun).trans ?_
    rw [receiveBytes_closed bs _ (htaken _)]
  case reply =>
    refine ⟨fun hr => ?_, fun hnone => ?_⟩
    · have hr' : (s.take .replySent).li.reply = some r := hr
      refine (event_running hrun).trans ?_
      rw [replySent, hr']
      cases hreq : s.sm.requested with
      | none => simp [hreq, Instr.canonical, State.take]
      | some k => simp [hreq, Instr.canonical, State.take, State.hand]
    · have hnone' : (s.take .replySent).li.reply = none := hnone
      refine (event_running hrun).trans ?_
      rw [replySent, hnone']

end Sys2Proof.Proofs.HostLine
end

section
/-! What the host reads: the lengths of the layouts and the values at their offsets (sections 11.3, 11.6), and the Event Log
(chapter 10). -/
namespace Sys2Proof.Proofs.Reads

open Sys2Proof Sys2Proof.Machine Sys2Proof.Proofs.Answers Sys2Proof.Proofs.Bytes

/-! ### Lengths of the layouts -/

theorem length_flatMap_const {α β : Type} {f : α → List β} {n : Nat} (xs : List α) (h : ∀ x ∈ xs, (f x).length = n) :
    (xs.flatMap f).length = n * xs.length := by
  induction xs with
  | nil => rfl
  | cons x xs ih =>
    rw [List.flatMap_cons, List.length_append, h x (by simp), ih fun y hy => h y (by simp [hy]), List.length_cons]
    ring

@[simp] theorem length_absentOnes (k : Nat) : (absentOnes k).length = k := List.length_replicate

@[simp] theorem length_encMeter (m : Meter) : (encMeter m).length = 52 := by simp [encMeter]

@[simp] theorem length_encResult (r : LastResult) : (encResult r).length = 2 := by
  cases r <;> simp [encResult]

@[simp] theorem length_encSlot (c : SlotConfig) (x : SlotState) : (encSlot c x).length = 38 := by
  simp [encSlot, encSlotConfig]

@[simp] theorem length_encRouteEntry (e : Option RouteEntry) : (encRouteEntry e).length = 7 := by
  unfold encRouteEntry routeKindBytes
  split
  · rfl
  · split <;> simp

@[simp] theorem length_encRoute (s : State) (r : RouteNo) : (encRoute s r).length = 25 := by simp [encRoute]

@[simp] theorem length_encTarget (o : Option (List RouteNo × Nat)) : (encTarget o).length = 6 := by
  cases o
  · rfl
  · simp [encTarget]

@[simp] theorem length_encSwitch (w : Option Switch) : (encSwitch w).length = 17 := by
  cases w
  · rfl
  · simp [encSwitch]

@[simp] theorem length_encNatural (k : Nat) (x : Int) : (encNatural k x).length = k := by
  unfold encNatural
  split <;> simp

@[simp] theorem length_encOptNatural (k : Nat) (o : Option Int) : (encOptNatural k o).length = k := by
  cases o <;> simp [encOptNatural]

@[simp] theorem length_encEdge (o : Option Int) : (encEdge o).length = 8 := by cases o <;> simp [encEdge]

@[simp] theorem length_encMark (o : Option Bool) : (encMark o).length = 1 := by cases o <;> rfl

@[simp] theorem length_statusStation (s : State) : (statusStation s).length = 22 := by simp [statusStation]

@[simp] theorem length_statusPlan (cp : CutPlanner) : (statusPlan cp).length = 7 := by
  unfold statusPlan
  split <;> simp

@[simp] theorem length_statusWindow (w : Option WindowRecord) : (statusWindow w).length = 23 := by simp [statusWindow]

@[simp] theorem length_statusConfirm (c : Option ConfirmRecord) : (statusConfirm c).length = 26 := by simp [statusConfirm]

@[simp] theorem length_encChannel (c : ChannelState) : (encChannel c).length = 39 := by
  unfold encChannel
  split <;> simp

@[simp] theorem length_statusLog (s : State) : (statusLog s).length = 30 := by simp [statusLog, allClasses]

@[simp] theorem length_statusPayload (s : State) : (statusPayload s).length = 198 := by simp [statusPayload]

@[simp] theorem length_encAction (a : Action) : (encAction a).length = 17 := by simp [encAction]

@[simp] theorem length_actionsPayload (xs : List Action) : (actionsPayload xs).length = 1 + 17 * xs.length := by
  simp [actionsPayload, length_flatMap_const (n := 17) xs]

@[simp] theorem length_encSummary (t : List Entry) (e : Entry) : (encSummary t e).length = 23 := by simp [encSummary]

@[simp] theorem length_encDisposition (d : Option Disposition) : (encDisposition d).length = 6 := by
  unfold encDisposition
  split <;> simp

@[simp] theorem length_encSnapshot (x : Option Snapshot) : (encSnapshot x).length = 37 := by
  cases x <;> simp [encSnapshot]

@[simp] theorem length_encInterface (i : Option Interface) : (encInterface i).length = 85 := by simp [encInterface]

@[simp] theorem length_encDelivery (d : Delivery) : (encDelivery d).length = 90 := by
  simp [encDelivery, allRoutes]

@[simp] theorem length_encEntry (t : List Entry) (e : Entry) : (encEntry t e).length = 210 := by simp [encEntry]

@[simp] theorem length_encTicket (t : Ticket) : (encTicket t).length = 38 + 5 * t.routes.length := by
  simp [encTicket, length_flatMap_const (n := 5) t.routes]
  omega

@[simp] theorem length_encRecord (r : EventRecord) : (encRecord r).length = 28 := by simp [encRecord]

theorem length_encProduct {p : ProductRow} (h : p.entry.name.length = 8) : (encProduct p).length = 16 := by
  simp [encProduct, h]

@[simp] theorem length_encPair (p : PairRow) : (encPair p).length = 19 := by simp [encPair, encPairFields]

@[simp] theorem length_paramValues (p : Params) : (paramValues p).length = 33 := by simp [paramValues]

@[simp] theorem length_configHeader (s : State) : (configHeader s).length = 3 := by simp [configHeader]

/-! ### Reads -/

/-- A request whose rule accepts it with a payload and changes nothing else. -/
theorem answered_of_accept {i : Instr} {n : Nat} {p : List Byte} {s : State}
    (h : exec i s = .next (s.accept (requestClass i) p)) (hp : p.length = n) :
    ∃ q, q.length = n ∧ exec i s = .next { s with
      li := { s.li with reply := some ⟨requestClass i + 0x80, q⟩, assembler := .closed } } := ⟨p, hp, h⟩

/-- Settles O16. -/
theorem readsChangeOnlyTheReply : Obligations.ReadsChangeOnlyTheReply := by
  intro s hrun hnames
  have hreq := fun k => request_running (k := k) hrun
  refine ⟨?meters, ?instruments, ?routes, ?status, ?actions, ?more, fun i hi hi' => ?train, fun id e he => ?batch,
    fun hts => ?empty, fun id t ht => ?ticket, fun i hi hi' => ?products, fun i hi => ?pairs, fun i => ?params⟩
  case meters => exact answered_of_accept (hreq _) (by simp)
  case instruments => exact answered_of_accept (hreq _) (by simp [allSlots])
  case routes => exact answered_of_accept (hreq _) (by simp [allRoutes])
  case status => exact answered_of_accept (by simp only [exec, execReadStatus, hreq]; rfl) (length_statusPayload s)
  case actions =>
    refine answered_of_accept (p := actionsPayload (s.cp.actions.take 8)) ?_ (by simp)
    simp only [exec, execReadStatus, hreq]
    rfl
  case more =>
    refine answered_of_accept (p := actionsPayload ((s.cp.actions.drop 8).take 8)) ?_ (by simp)
    simp only [exec, execReadStatus, hreq]
    rfl
  case train =>
    refine answered_of_accept (p := enc1 s.lt.train.length
      ++ ((s.lt.train.drop (i - 1)).take 10).flatMap (encSummary s.lt.train)) ?_ ?_
    · simp only [exec, execReadTrain, hreq]
      exact congrArg _ (if_neg (by simp [Config.maxTrain]; omega))
    · simp [length_flatMap_const (n := 23)]
  case batch =>
    refine answered_of_accept (p := encEntry s.lt.train e) ?_ (length_encEntry ..)
    simp only [exec, execReadBatch, hreq, he]
    rfl
  case empty =>
    refine answered_of_accept (p := enc1 0) ?_ rfl
    simp only [exec, execReadTicket, hreq, hts]
    rfl
  case ticket =>
    refine answered_of_accept (p := enc1 s.ts.length ++ encTicket t) ?_ (by simp; omega)
    simp only [exec, execReadTicket, hreq]
    split at ht
    · obtain ⟨rest, hrest⟩ := List.head?_eq_some_iff.mp ht
      simp only [if_pos ‹id = 0›, hrest]
      rfl
    · simp only [if_neg ‹¬id = 0›, ht]
      rfl
  case products =>
    refine ⟨(productsFrom s.tables i).length, List.length_take_le .., answered_of_accept
      (p := configHeader s ++ enc1 (productsFrom s.tables i).length ++ (productsFrom s.tables i).flatMap encProduct) ?_ ?_⟩
    · simp only [exec, execReadConfiguration, hreq]
      exact congrArg _ (if_neg (by simp [Config.maxProduct]; omega))
    · rw [List.length_append, length_flatMap_const (n := 16)]
      · simp
      · intro p hp
        exact length_encProduct (hnames p (List.mem_of_mem_filter (List.mem_of_mem_take hp)))
  case pairs =>
    refine answered_of_accept
      (p := configHeader s ++ enc1 (pairsFrom s.tables i).length ++ (pairsFrom s.tables i).flatMap encPair) ?_ ?_
    · simp only [exec, execReadConfiguration, hreq]
      exact congrArg _ (if_neg (by simp [Config.maxPairs]; omega))
    · simp [length_flatMap_const (n := 19), pairsFrom]
      omega
  case params =>
    refine answered_of_accept (p := configHeader s ++ (paramValues s.tables.params).flatMap (encSigned 4)) ?_ ?_
    · simp only [exec, execReadConfiguration, hreq]
      rfl
    · simp [length_flatMap_const (n := 4)]

end Sys2Proof.Proofs.Reads
end

section
/-! What stands at the offsets of READ STATUS, READ METERS and READ TRAIN, and the records of the Event Log. -/
namespace Sys2Proof.Proofs.Reads

open Sys2Proof Sys2Proof.Machine Sys2Proof.Proofs.Answers Sys2Proof.Proofs.Bytes Sys2Proof.Proofs.EveryStep

theorem modeCode_lt (m : StationMode) : modeCode m < 256 := by cases m <;> decide

theorem missingMask_lt (t : Tables) : missingMask t < 256 := by
  unfold missingMask
  split_ifs <;> decide

theorem flowCode_lt (f : FlowState) : flowCode f < 256 := by cases f <;> decide

/-- What a read of the state replies, from its acceptance. -/
theorem payload_of_accept {c : Nat} {p : List Byte} {s t : State} {r : Reply} {x : Result}
    (h : x = .next (s.accept c p)) (ht : x = .next t) (hr : t.li.reply = some r) : r.payload = p := by
  rw [h] at ht
  cases ht
  cases hr
  rfl

section
variable (s : State)

/-- The bytes of a status from the state of the Event Log on. -/
theorem field_statusPayload_log {off len : Nat} (h : 168 ≤ off) :
    field (statusPayload s) off len = field (statusLog s) (off - 168) len := by
  unfold statusPayload
  rw [field_skip (by simpa using h)]
  simp

theorem field_statusStation_mode : field (statusPayload s) 0 1 = modeCode s.sm.mode := by
  simp [statusPayload, statusStation, field_head, numberOf_enc1, modeCode_lt]

theorem field_statusStation_missing : field (statusPayload s) 4 1 = missingMask s.tables := by
  simp [statusPayload, statusStation, field_skip, field_head, numberOf_enc1, missingMask_lt]

theorem field_statusStation_s (h : s.stationS < 2 ^ 64) : field (statusPayload s) 13 8 = s.stationS := by
  simp [statusPayload, statusStation, field_skip, field_head, numberOf_encUnsigned (show s.stationS < 256 ^ 8 from h)]

theorem field_statusPlan_count (q : List Byte) (cp : CutPlanner) (h : cp.actions.length < 256) :
    field (statusPlan cp ++ q) 6 1 = cp.actions.length := by
  unfold statusPlan
  split <;> simp [field_skip, field_head, numberOf_enc1, h]

theorem field_statusPayload_count (h : s.cp.actions.length ≤ 16) :
    field (statusPayload s) 28 1 = s.cp.actions.length := by
  unfold statusPayload
  simp only [List.append_assoc]
  rw [field_skip (by simp), length_statusStation]
  exact field_statusPlan_count _ _ (by omega)

theorem field_statusPayload_sLast (h : s.lt.sLast < 2 ^ 64) : field (statusPayload s) 78 8 = s.lt.sLast := by
  simp [statusPayload, field_skip, field_head, numberOf_encUnsigned (show s.lt.sLast < 256 ^ 8 from h)]

theorem field_statusLog_unread (h : s.el.records.length ≤ 256) : field (statusLog s) 0 2 = s.el.records.length := by
  have hlt : s.el.records.length < 256 ^ 2 := by omega
  simp [statusLog, field_head, numberOf_encUnsigned hlt]

theorem field_statusLog_overflow : field (statusLog s) 20 1 = if s.el.overflow then 1 else 0 := by
  simp [statusLog, allClasses, field_skip, field_head, numberOf_encBool]

theorem field_statusLog_attn : field (statusLog s) 21 1 = if s.el.attn then 1 else 0 := by
  simp [statusLog, allClasses, field_skip, field_head, numberOf_encBool]

theorem field_statusLog_tickets (h : s.ts.length ≤ 32) : field (statusLog s) 22 1 = s.ts.length := by
  have hlt : s.ts.length < 256 := by omega
  simp [statusLog, allClasses, field_skip, field_head, numberOf_enc1, hlt]

theorem field_statusLog_train (h : s.lt.train.length ≤ 48) : field (statusLog s) 23 1 = s.lt.train.length := by
  have hlt : s.lt.train.length < 256 := by omega
  simp [statusLog, allClasses, field_skip, field_head, numberOf_enc1, hlt]

end

/-- A field within one of the equally long items of a list. -/
theorem field_flatMap {α : Type} {f : α → List Byte} {n : Nat} (xs : List α) (h : ∀ x, (f x).length = n) {k : Nat} {x : α}
    (hx : xs[k]? = some x) {len : Nat} (hlen : len ≤ n) : field (xs.flatMap f) (n * k) len = field (f x) 0 len := by
  induction xs generalizing k with
  | nil => cases hx
  | cons y ys ih =>
    rw [List.flatMap_cons]
    cases k with
    | zero =>
      cases hx
      exact field_append _ _ 0 len (by rw [h]; omega)
    | succ k =>
      rw [field_skip (by rw [h]; exact Nat.le_mul_of_pos_right n (Nat.succ_pos k)), h, Nat.mul_succ, Nat.add_sub_cancel]
      exact ih hx

theorem field_encSummary_id {t : List Entry} {e : Entry} (h : e.id < 2 ^ 32) : field (encSummary t e) 0 4 = e.id := by
  simp [encSummary, field_head, numberOf_encUnsigned (show e.id < 256 ^ 4 from h)]

/-- Settles O17. -/
theorem statusMetersAndTrainAreReported : Obligations.StatusMetersAndTrainAreReported := by
  refine ⟨fun s t r hrun ht hr => ?status, fun s t r hrun hr => ⟨fun ht hstd hgross hdgross hdstd hflow => ?meters,
    fun i k e ht hi hi' hk he htrain hid => ?train⟩⟩
  case status =>
    have hp := payload_of_accept (by simp only [exec, execReadStatus, request_running hrun]; rfl) ht hr
    have hlog := fun {off len} (h : 168 ≤ off) => field_statusPayload_log s (off := off) (len := len) h
    rw [hp]
    exact ⟨field_statusStation_mode s, field_statusStation_missing s, field_statusStation_s s, field_statusPayload_count s,
      field_statusPayload_sLast s, fun h => (hlog (by decide)).trans (field_statusLog_unread s h),
      (hlog (by decide)).trans (field_statusLog_overflow s), (hlog (by decide)).trans (field_statusLog_attn s),
      fun h => (hlog (by decide)).trans (field_statusLog_tickets s h),
      fun h => (hlog (by decide)).trans (field_statusLog_train s h)⟩
  case meters =>
    have hp := payload_of_accept (request_running hrun) ht hr
    have hs : s.stationS < 256 ^ 8 := by
      unfold State.stationS
      omega
    rw [hp]
    refine ⟨?_, ?_, ?_, ?_, ?_, ?_, ?_⟩
    · simp [field_head, numberOf_encUnsigned hs]
    · simp [field_skip, field_head, numberOf_enc1, flowCode_lt]
    · simp [field_skip, field_head, numberOf_encUnsigned (show s.mu.inlet.flow < 256 ^ 4 from hflow)]
    · simp [encMeter, field_skip, field_head, numberOf_encUnsigned (show s.mu.inlet.gross < 256 ^ 8 from hgross)]
    · simp [encMeter, field_skip, field_head, numberOf_encUnsigned (show s.mu.inlet.std < 256 ^ 8 from hstd)]
    · simp [encMeter, field_skip, field_head, numberOf_encUnsigned (show s.mu.delivery.gross < 256 ^ 8 from hdgross)]
    · simp [encMeter, field_skip, field_head, numberOf_encUnsigned (show s.mu.delivery.std < 256 ^ 8 from hdstd)]
  case train =>
    have hp := payload_of_accept (p := enc1 s.lt.train.length
      ++ ((s.lt.train.drop (i - 1)).take 10).flatMap (encSummary s.lt.train)) (by
        simp only [exec, execReadTrain, request_running hrun]
        exact congrArg _ (if_neg (by simp [Config.maxTrain]; omega))) ht hr
    have hlt : s.lt.train.length < 256 := by omega
    have hitem : ((s.lt.train.drop (i - 1)).take 10)[k]? = some e := by
      rw [List.getElem?_take_of_lt hk, List.getElem?_drop]
      exact he
    rw [hp]
    refine ⟨?_, ?_⟩
    · rw [field_head (length_enc1 _), numberOf_enc1 hlt]
    · rw [field_skip (by simp), length_enc1, Nat.add_sub_cancel_left,
        field_flatMap _ (length_encSummary _) hitem (by decide), field_encSummary_id hid]

/-! ### The Event Log -/

/-- R171: the payload of an accepted READ EVENTS. -/
def eventsPayload (n : Nat) (s : State) : List Byte :=
  enc1 (s.el.records.take n).length ++ (encUnsigned 2 (s.el.records.drop n).length ++ (encUnsigned 2 s.el.lost
    ++ (encBool s.el.overflow ++ (s.el.records.take n).flatMap encRecord)))

theorem readEvents_running {n : Nat} {s : State} (hrun : s.running = true) : exec (.readEvents n) s = .next
    (if n < 1 ∨ 8 < n then s.refuse 0x07 .badValue 0 else (takeRecords n s).accept 0x07 (eventsPayload n s)) := by
  simp only [exec, execReadEvents, request_running hrun, eventsPayload, List.append_assoc]

/-- Settles O18. -/
theorem readEventsTakesTheOldest : Obligations.ReadEventsTakesTheOldest := by
  intro n s hrun
  refine ⟨fun hn hn' => ?accepted, fun hn => ?refused⟩
  case refused => rw [readEvents_running hrun, if_pos hn]
  case accepted =>
    have htaken : (s.el.records.take n).length = min n s.el.records.length := List.length_take
    have hcount : (s.el.records.take n).length < 256 := by omega
    refine ⟨eventsPayload n s, ?_, ?_, ?_, fun hlen => ?_, fun hlost => ?_, ?_⟩
    · rw [readEvents_running hrun, if_neg (by omega)]
      rw [takeRecords, judgeAttn_running (by exact hrun)]
      rfl
    · simp [eventsPayload, length_flatMap_const (n := 28), htaken]
      omega
    · rw [eventsPayload, field_head (length_enc1 _), numberOf_enc1 hcount, htaken]
    · have hlt : s.el.records.length - n < 256 ^ 2 := by omega
      simp [eventsPayload, field_skip, field_head, numberOf_encUnsigned hlt]
    · have hlt : s.el.lost < 256 ^ 2 := by omega
      simp [eventsPayload, field_skip, field_head, numberOf_encUnsigned hlt]
    · simp [eventsPayload, field_skip, field_head, numberOf_encBool]

theorem eventPosted_running {k : EventKind} {n : Nat} {d : Int} {s : State} (hrun : s.running = true) :
    exec (.eventPosted k n d) s = .next (storeEvent k n d (s.take (.eventPosted k n d))) := by
  have hpowered : s.powered = true := (Bool.and_eq_true_iff.mp hrun).1
  simp [exec, execEventPosted, hpowered]

/-- Settles O19. -/
theorem postedEventIsStoredOrCounted : Obligations.PostedEventIsStoredOrCounted := by
  refine ⟨fun k n d s hrun hroom => ?stored, fun k n d s hrun hfull => ?lost⟩
  case stored =>
    refine ⟨⟨wrapInc32 s.el.seq, s.clock.seconds, s.clock.milli, s.stationS, k, n, limitDetail d⟩, rfl, rfl, rfl, rfl, rfl,
      rfl, ?_, ?_⟩
    · simp only [limitDetail, clampInt]
    · have hroom' : (s.take (.eventPosted k n d)).el.records.length < Config.maxEvents := hroom
      rw [eventPosted_running hrun, storeEvent, if_pos hroom']
      exact congrArg _ (judgeAttn_running (by exact hrun))
  case lost =>
    have hfull' : ¬ (s.take (.eventPosted k n d)).el.records.length < Config.maxEvents := Nat.not_lt.mpr hfull
    rw [eventPosted_running hrun, storeEvent, if_neg hfull']
    rfl

end Sys2Proof.Proofs.Reads
end

section
/-! How the Route Controller's operations act on one valve, and the host's commands on the routes (O28, O31). -/
namespace Sys2Proof.Proofs.Routes

open Sys2Proof Sys2Proof.Machine
open Sys2Proof.Proofs.Answers
open Sys2Proof.Proofs.EveryStep (sm_of_noRoutes valveIs_iff valveIs_ne otherOpen_iff)

/-! ### Numbers -/

@[simp] theorem routeOfNumber_routeNumber (r : RouteNo) : routeOfNumber (routeNumber r) = some r := by cases r <;> rfl

theorem routeOfNumber_none {n : Nat} (h : n < 1 ∨ 8 < n) : routeOfNumber n = none := by
  unfold routeOfNumber
  split <;> first | rfl | omega

theorem mem_allRoutes (r : RouteNo) : r ∈ allRoutes := by cases r <;> decide

/-! ### A Route Controller with nothing to do -/

section
variable {s t : State} {r : RouteNo}

/-- Modes in which the Route Controller has no target (R134). -/
def Untargeted (s : State) : Prop := s.sm.mode ≠ .tracking ∧ s.sm.mode ≠ .safe

theorem target_untargeted (h : Untargeted s) : target s = none := by
  obtain ⟨htracking, hsafe⟩ := h
  unfold target
  cases hm : s.sm.mode <;> simp_all

theorem Untargeted.of_noRoutes (h : Untargeted s) (hf : t.noRoutes = s.noRoutes) : Untargeted t := by
  rwa [Untargeted, sm_of_noRoutes hf]

theorem compare_of_target_none (h : target s = none) : Machine.compare s = s := by simp [Machine.compare, h]

theorem compare_untargeted (h : Untargeted s) : Machine.compare s = s := compare_of_target_none (target_untargeted h)

theorem settleSwitch_none (h : s.rc.switching = none) : settleSwitch s = s := by
  have hadvance : advancePhase s = s := by simp [advancePhase, h]
  rw [settleSwitch, hadvance, hadvance]

theorem afterMove_idle (h : Untargeted s) (hw : s.rc.switching = none) : afterMove s = s := by
  rw [afterMove, settleSwitch_none hw, compare_untargeted h]

theorem afterFault_uninvolved (h : Untargeted s) (hi : involved s r = none) (b : Bool) : afterFault r b s = s := by
  simp [afterFault, hi, h.1, h.2, compare_untargeted h]

theorem involved_none (hw : s.rc.switching = none) : involved s r = none := by simp [involved, hw]

end

/-! ### One valve (R128, R129) -/

section
variable {s : State} {r : RouteNo} {v : Valve}

theorem valveState_eq (h : s.rc.valves.get r = some v) : valveState s r = some v.state := by simp [valveState, h]

theorem valveIs_eq (h : s.rc.valves.get r = some v) (w : ValveState) : valveIs s r w = (v.state == w) := by
  simp only [valveIs, valveState_eq h]
  rfl

theorem modValve_eq (h : s.rc.valves.get r = some v) (f : Valve → Valve) : modValve r f s = s.setValve r (some (f v)) := by
  simp [modValve, h]

/-- The valve record that enters OPEN with the next stamp. -/
def openedValve (s : State) (drop : Nat) (v : Valve) : Valve :=
  { v with state := .opened, faults := v.faults - drop, timerStart := none, stamp := s.rc.openOrder + 1 }

/-- The valve record that enters CLOSED. -/
def closedValve (drop : Nat) (v : Valve) : Valve := { v with state := .closed, faults := v.faults - drop, timerStart := none }

/-- The valve record that begins to travel. -/
def travelValve (s : State) (r : RouteNo) (st : ValveState) (v : Valve) : Valve :=
  { v with
    state := st, timerStart := some s.clock.ms
    timerLimit := ((s.tables.routes.get r).map (·.travelLimit)).getD 0 }

theorem enterOpen_eq (h : s.rc.valves.get r = some v) (hn : s.rc.openOrder + 1 < 2 ^ 64) (drop : Nat) :
    enterOpen drop r s = { s with rc := { s.rc with
      valves := s.rc.valves.set r (some (openedValve s drop v)), openOrder := s.rc.openOrder + 1 } } := by
  simp only [enterOpen, add64, hn, if_true]
  exact modValve_eq (s := { s with rc := { s.rc with openOrder := s.rc.openOrder + 1 } }) h _

theorem enterClosed_eq (h : s.rc.valves.get r = some v) (drop : Nat) :
    enterClosed drop r s = s.setValve r (some (closedValve drop v)) := modValve_eq h _

theorem enterTravel_eq (h : s.rc.valves.get r = some v) (st : ValveState) :
    enterTravel st r s = s.setValve r (some (travelValve s r st v)) := modValve_eq h _

theorem commandOpen_taken (h : s.rc.valves.get r = some v) (hs : v.state = .closed ∨ v.state = .unknown ∨ v.state = .fault) :
    commandOpen r s = if s.rc.limits.get r = ⟨true, false⟩ then enterOpen 1 r s else enterTravel .opening r s := by
  have hlimits : s.rc.limits.get r = ⟨true, false⟩ ↔ ((s.rc.limits.get r).opened && !(s.rc.limits.get r).closed) = true := by
    cases s.rc.limits.get r with | mk o c => simp
  have htaken : (valveIs s r .closed || valveIs s r .unknown || valveIs s r .fault) = true := by
    simpa [valveIs_eq h, or_assoc] using hs
  simp only [commandOpen, htaken, hlimits, if_true]

theorem commandOpen_other (h : s.rc.valves.get r = some v)
    (hs : v.state ≠ .closed ∧ v.state ≠ .unknown ∧ v.state ≠ .fault) : commandOpen r s = s := by
  simp [commandOpen, valveIs_eq h, hs.1, hs.2.1, hs.2.2]

theorem commandClose_taken (h : s.rc.valves.get r = some v) (hs : v.state = .opened ∨ v.state = .unknown ∨ v.state = .fault) :
    commandClose r s = if s.rc.limits.get r = ⟨false, true⟩ then enterClosed 1 r s else enterTravel .closing r s := by
  have hlimits : s.rc.limits.get r = ⟨false, true⟩ ↔ ((s.rc.limits.get r).closed && !(s.rc.limits.get r).opened) = true := by
    cases s.rc.limits.get r with | mk o c => simp [and_comm]
  have htaken : (valveIs s r .opened || valveIs s r .unknown || valveIs s r .fault) = true := by
    simpa [valveIs_eq h, or_assoc] using hs
  simp only [commandClose, htaken, hlimits, if_true]

end

/-! ### VALVE COMMAND (R140) -/

section
variable {s : State} {r : RouteNo} {v : Valve}

/-- The answer to a VALVE COMMAND that passes the six checks, with no switch in progress. -/
theorem valveCommand_passed {k : Nat} (hrun : s.running = true) (hmode : s.sm.mode = .manual) (hw : s.rc.switching = none)
    (h : s.rc.valves.get r = some v) (hk : k = 1 ∨ k = 2) (hlocked : v.state ≠ .lockedOut)
    (htravel : v.state ≠ .opening ∧ v.state ≠ .closing) (hother : k = 2 → Safety.OtherOpen s r)
    (hmatch : k = 1 → productMatches s r = true) :
    exec (.valveCommand (routeNumber r) k) s
      = .next ((if k = 1 then commandOpen r s else commandClose r s).accept 0x21 []) := by
  have hchecks : ¬(k = 2 ∧ otherOpen s r = false) ∧ ¬(k = 1 ∧ productMatches s r = false) :=
    ⟨fun ⟨h2, ho⟩ => by simp [otherOpen_iff.mpr (hother h2)] at ho, fun ⟨h1, hm⟩ => by simp [hmatch h1] at hm⟩
  have hidle : afterMove (if k = 1 then commandOpen r s else commandClose r s)
      = if k = 1 then commandOpen r s else commandClose r s := by
    refine afterMove_idle (Untargeted.of_noRoutes (s := s) ⟨by simp [hmode], by simp [hmode]⟩ ?_) ?_
    · split <;> simp
    · rw [← hw]
      split
      · exact (EveryStep.Easing.commandOpen r s).switching
      · exact EveryStep.commandClose_switching r s
  simp [exec, execValveCommand, request_running hrun, hmode, valveState_eq h, valveIs_eq h, travelling, hk, hlocked,
    htravel.1, htravel.2, hchecks.1, hchecks.2, Machine.valveCommand, hidle]

/-- Settles O28. -/
theorem valveCommandIsJudgedAndTaken : Obligations.ValveCommandIsJudgedAndTaken := by
  refine ⟨fun r v s hrun hmode hw h hn => ⟨fun hs hmatch => ?_, fun hs hother => ?_, fun hs hmatch => ?_⟩,
    fun r v n k s hrun => ⟨?_, fun hmode => ⟨?_, ?_, ?_⟩⟩⟩
  · have hexec := valveCommand_passed hrun hmode hw h (.inl rfl) (by aesop) (by aesop) (by simp) (fun _ => hmatch)
    rw [if_pos rfl, commandOpen_taken h hs] at hexec
    refine ⟨_, hexec, ?_⟩
    unfold Safety.CommandedOpen
    split
    · rw [enterOpen_eq h hn]
      exact ⟨⟨by simp [openedValve], rfl⟩, fun x hx => PerRoute.get_set_ne _ _ hx, rfl, rfl⟩
    · rw [enterTravel_eq h]
      exact ⟨⟨by simp [travelValve], rfl⟩, fun x hx => PerRoute.get_set_ne _ _ hx, rfl, rfl⟩
  · have hexec := valveCommand_passed hrun hmode hw h (.inr rfl) (by aesop) (by aesop) (fun _ => hother) (by simp)
    rw [if_neg (by simp), commandClose_taken h hs] at hexec
    refine ⟨_, hexec, ?_⟩
    split
    · rw [enterClosed_eq h]
      exact ⟨by simp [closedValve], fun x hx => PerRoute.get_set_ne _ _ hx, rfl, rfl⟩
    · rw [enterTravel_eq h]
      exact ⟨by simp [travelValve], fun x hx => PerRoute.get_set_ne _ _ hx, rfl, rfl⟩
  · rw [valveCommand_passed hrun hmode hw h (.inl rfl) (by simp [hs]) (by simp [hs]) (by simp) (fun _ => hmatch),
      if_pos rfl, commandOpen_other h (by simp [hs])]
    rfl
  · intro hmode
    simp [exec, execValveCommand, request_running hrun, hmode]
  · intro hnum
    simp [exec, execValveCommand, request_running hrun, hmode, routeOfNumber_none hnum]
  · intro h
    simp [exec, execValveCommand, request_running hrun, hmode, valveState, h]
  · intro h
    have hstate := valveState_eq h
    have his := valveIs_eq h
    refine ⟨fun h1 h2 => ?_, fun hk => ⟨fun hl => ?_, fun ht => ?_, fun hl ho hc => ⟨fun h2 hno => ?_, fun h1 hno => ?_⟩⟩⟩
    · simp [exec, execValveCommand, request_running hrun, hmode, h1, h2]
    · simp [exec, execValveCommand, request_running hrun, hmode, hstate, his, hk, hl]
    · have hlocked : v.state ≠ .lockedOut := by aesop
      simp [exec, execValveCommand, request_running hrun, hmode, hstate, his, hk, hlocked, travelling, ht]
    · have hother : otherOpen s r = false := by rwa [← Bool.not_eq_true, otherOpen_iff]
      simp [exec, execValveCommand, request_running hrun, hmode, hstate, his, h2, hl, travelling, ho, hc, hother]
    · simp [exec, execValveCommand, request_running hrun, hmode, hstate, his, h1, hl, travelling, ho, hc, hno]

end

end Sys2Proof.Proofs.Routes
end

section
/-! Faults and lockouts, the state a valve takes from its limits, and the entries of the route table (O22, O31). -/
namespace Sys2Proof.Proofs.Routes

open Sys2Proof Sys2Proof.Machine
open Sys2Proof.Proofs.Answers
open Sys2Proof.Proofs.EveryStep (sm_of_noRoutes valveIs_iff valveIs_ne)

/-! ### Faults (R132, R133) -/

section
variable {s : State} {r x : RouteNo} {v : Valve}

theorem modValve_get_self (f : Valve → Valve) : (modValve r f s).rc.valves.get r = (s.rc.valves.get r).map f := by
  simp [modValve]

theorem modValve_get_ne (f : Valve → Valve) (hx : x ≠ r) : (modValve r f s).rc.valves.get x = s.rc.valves.get x := by
  simp [modValve, PerRoute.get_set_ne _ _ hx]

/-- What a fault posts: its event and, at the fault limit, VALVE_LOCKOUT. -/
def faultPosts (k : EventKind) (detail : Option Int) (r : RouteNo) (s : State) (n : Nat) : List Instr :=
  .eventPosted k (routeNumber r) (detail.getD n)
    :: (if faultLimitOf s r ≤ n then [.eventPosted .valveLockout (routeNumber r) n] else [])

/-- The state with the valve record `v` of a route in FAULT or LOCKED_OUT and its events posted. -/
def withFault (k : EventKind) (detail : Option Int) (r : RouteNo) (v : Valve) (s : State) : State :=
  { s with
    rc := { s.rc with valves := s.rc.valves.set r (some (Safety.Faulted s v r)) }
    handed := s.handed ++ faultPosts k detail r s (min 7 (v.faults + 1)) }

theorem faulted_state (s : State) (v : Valve) (r : RouteNo) :
    (Safety.Faulted s v r).state = .fault ∨ (Safety.Faulted s v r).state = .lockedOut := by
  simp only [Safety.Faulted]
  split <;> simp

theorem withFault_valve (k : EventKind) (d : Option Int) :
    (withFault k d r v s).rc.valves.get r = some (Safety.Faulted s v r) := PerRoute.get_set ..

theorem faultRoute_eq (h : s.rc.valves.get r = some v) (k : EventKind) (d : Option Int) :
    faultRoute k d r s = withFault k d r v s := by
  have hn : faultCount s r = min 7 (v.faults + 1) := by simp [faultCount, h]
  by_cases hl : faultLimitOf s r ≤ min 7 (v.faults + 1)
  · simp [faultRoute, modValve_eq h, hn, hl, Safety.Faulted, faultPosts, withFault, State.post, State.hand, State.setValve]
  · simp [faultRoute, modValve_eq h, hn, hl, Safety.Faulted, faultPosts, withFault, State.post, State.hand, State.setValve]

theorem positionFromLimits_others (hx : x ≠ r) : (positionFromLimits r s).rc.valves.get x = s.rc.valves.get x := by
  unfold positionFromLimits
  split
  · exact modValve_get_ne _ hx
  · exact modValve_get_ne _ hx
  · exact modValve_get_ne _ hx
  · simp only [faultRoute, apply_ite State.rc, State.post_rc, ite_self]
    exact modValve_get_ne _ hx

theorem positionFromLimits_switching : (positionFromLimits r s).rc.switching = s.rc.switching := by
  unfold positionFromLimits
  split
  · rfl
  · rfl
  · rfl
  · exact (EveryStep.faultedAt_faultRoute _ _ r s).switching

theorem positionFromLimits_both (h : s.rc.valves.get r = some v) (hl : s.rc.limits.get r = ⟨true, true⟩) :
    positionFromLimits r s = withFault .valveSwitchFault none r v s := by
  simp only [positionFromLimits, hl, faultRoute_eq h]

theorem positionFromLimits_opened (h : s.rc.valves.get r = some v) (hl : s.rc.limits.get r = ⟨true, false⟩)
    (hn : s.rc.openOrder + 1 < 2 ^ 64) : positionFromLimits r s = { s with rc := { s.rc with
      valves := s.rc.valves.set r (some (openedValve s 0 v)), openOrder := s.rc.openOrder + 1 } } := by
  simp only [positionFromLimits, hl, enterOpen_eq h hn]

theorem positionFromLimits_closed (h : s.rc.valves.get r = some v) (hl : s.rc.limits.get r = ⟨false, true⟩) :
    positionFromLimits r s = s.setValve r (some (closedValve 0 v)) := by
  simp only [positionFromLimits, hl, enterClosed_eq h]

theorem positionFromLimits_unknown (h : s.rc.valves.get r = some v) (hl : s.rc.limits.get r = ⟨false, false⟩) :
    positionFromLimits r s = s.setValve r (some { v with state := .unknown, timerStart := none }) := by
  simp only [positionFromLimits, hl, modValve_eq h]

/-- R133, R144: the state and the fault count a valve takes from its limits. -/
theorem positionFromLimits_state (h : s.rc.valves.get r = some v) :
    ((positionFromLimits r s).rc.valves.get r).map (fun v => (v.state, v.faults))
      = some (match (s.rc.limits.get r).opened, (s.rc.limits.get r).closed with
          | true, false => (.opened, v.faults)
          | false, true => (.closed, v.faults)
          | false, false => (.unknown, v.faults)
          | true, true => (if faultLimitOf s r ≤ min 7 (v.faults + 1) then .lockedOut else .fault, min 7 (v.faults + 1))) := by
  match hl : s.rc.limits.get r with
  | ⟨true, false⟩ => simp [positionFromLimits, hl, enterOpen, modValve_get_self, h]
  | ⟨false, true⟩ => simp [positionFromLimits_closed h hl, closedValve]
  | ⟨false, false⟩ => simp [positionFromLimits_unknown h hl]
  | ⟨true, true⟩ => simp [positionFromLimits_both h hl, withFault_valve, Safety.Faulted]

theorem accept_li_of_noRoutes {t : State} {c : Nat} {p : List Byte} (h : t.noRoutes = s.noRoutes) :
    (t.accept c p).li = { s.li with reply := some ⟨c + 0x80, p⟩, assembler := .closed } := by
  obtain ⟨rc, xs, rfl⟩ : ∃ rc xs, t = { s with rc := rc, handed := xs } := ⟨_, _, eq_of_noRoutes h⟩
  rfl

theorem accept_of_noRoutes {t : State} {c : Nat} {p : List Byte} (h : t.noRoutes = s.noRoutes) :
    t.accept c p = { s with rc := (t.accept c p).rc, handed := (t.accept c p).handed, li := (t.accept c p).li } := by
  obtain ⟨rc, xs, rfl⟩ : ∃ rc xs, t = { s with rc := rc, handed := xs } := ⟨_, _, eq_of_noRoutes h⟩
  rfl

end

/-! ### CLEAR LOCKOUT (R133) -/

section
variable {s : State} {r : RouteNo} {v : Valve}

theorem clearLockout_idle (ht : Untargeted s) (hw : s.rc.switching = none) :
    clearLockout r s = (positionFromLimits r (modValve r (fun v => { v with faults := 0 }) s)).post .lockoutCleared
      (routeNumber r) 0 := by
  have hsw : (positionFromLimits r (modValve r (fun v => { v with faults := 0 }) s)).rc.switching = none :=
    positionFromLimits_switching.trans hw
  have ht' : Untargeted ((positionFromLimits r (modValve r (fun v => { v with faults := 0 }) s)).post .lockoutCleared
      (routeNumber r) 0) := ht.of_noRoutes (by simp)
  simp only [clearLockout]
  split
  · exact afterFault_uninvolved ht' (involved_none hsw) false
  · exact afterMove_idle ht' hsw

/-- Settles O31. -/
theorem clearLockoutTakesTheLimits : Obligations.ClearLockoutTakesTheLimits := by
  refine fun r v s hrun => ⟨fun h => ?_, fun h hl => ?_, fun h hl htr hsf hw => ?_⟩
  · simp [exec, execClearLockout, request_running hrun, valveState, h]
  · have hstate := valveState_eq h
    simp only [exec, execClearLockout, request_running hrun, routeOfNumber_routeNumber, hstate]
  · have hstate := valveState_eq h
    rw [hl] at hstate
    have hexec : exec (.clearLockout (routeNumber r)) s = .next ((clearLockout r s).accept 0x22 []) := by
      simp only [exec, execClearLockout, request_running hrun, routeOfNumber_routeNumber, hstate]
    rw [clearLockout_idle ⟨htr, hsf⟩ hw] at hexec
    have hframe : ((positionFromLimits r (modValve r (fun v => { v with faults := 0 }) s)).post .lockoutCleared
      (routeNumber r) 0).noRoutes = s.noRoutes := by simp
    have hcleared : (modValve r (fun v => { v with faults := 0 }) s).rc.valves.get r = some { v with faults := 0 } := by
      simp [modValve_get_self, h]
    refine ⟨_, hexec, by simp, accept_li_of_noRoutes hframe, fun x hx => ?_, accept_of_noRoutes hframe, ?_⟩
    · exact (positionFromLimits_others hx).trans (modValve_get_ne _ hx)
    · exact positionFromLimits_state hcleared

end

/-! ### SET ROUTE (R127) -/

section
variable {s : State} {r : RouteNo} {v : Valve} {e : RouteEntry}

theorem kindOf_writeRoute_ne {t : Tables} {x : RouteNo} (hx : x ≠ r) (e : Option RouteEntry) :
    (writeRoute r e t).routes.get x = t.routes.get x := PerRoute.get_set_ne _ _ hx

theorem clampNat_eq (lo hi n : Nat) : clampNat lo hi n = max lo (min hi n) := by
  unfold clampNat clampInt
  omega

/-- An accepted entry leaves the route out of the targets of the switch in progress (R127, order 3). -/
theorem not_target_of_routeRefusal {route op kind product : Nat} {w : Switch} (hr : routeOfNumber route = some r)
    (h : routeRefusal route op kind product s = none) (hw : s.rc.switching = some w) : r ∉ w.target := by
  have hbusy : routeBusy s r = false := by
    by_contra hb
    have hin : ∀ k, routeInUse s r k = true := fun k => by simp [routeInUse, hb]
    revert h
    simp only [routeRefusal, hr, routeWriteRefusal, hin]
    split <;> [simp; (split <;> [split; simp])] <;> [simp; skip]
    split <;> [simp; (split <;> [split; skip])] <;> simp
  simp only [routeBusy, hw, Option.map_some, Option.getD_some, Bool.or_eq_false_iff, List.contains_eq_mem,
    decide_eq_false_iff_not] at hbusy
  exact hbusy.2

/-- The fault of a new valve record ends the switch that has commanded its route (R139). -/
theorem afterFault_commanded {w : Switch} (ht : Untargeted s) (hw : s.rc.switching = some w) (hr : r ∈ w.commanded) (b : Bool) :
    afterFault r b s = endSwitch .switchAbandoned w.owner 2 s := by
  have hi : involved s r = some w := by simp [involved, hw, hr]
  have hcompare := compare_untargeted (ht.of_noRoutes (endSwitch_noRoutes .switchAbandoned w.owner 2 s))
  have hmode : (endSwitch .switchAbandoned w.owner 2 s).sm.mode = s.sm.mode := rfl
  obtain ⟨htr, hsf⟩ := ht
  simp only [afterFault, hi, hmode, hcompare]
  cases hm : s.sm.mode <;> simp_all

/-- The state with a route's entry and a new valve record, whose state is yet to be taken from the limits. -/
def newRoute (s : State) (r : RouteNo) (e : RouteEntry) : State :=
  setEdited ((s.setTables (writeRoute r (some e) s.tables)).setValve r (some newValve))

theorem setEdited_positionFromLimits : setEdited (positionFromLimits r s) = positionFromLimits r (setEdited s) := by
  have hlimits : (setEdited s).rc.limits = s.rc.limits := rfl
  match hl : s.rc.limits.get r with
  | ⟨true, false⟩ | ⟨false, true⟩ | ⟨false, false⟩ =>
    simp only [positionFromLimits, hlimits, hl]
    rfl
  | ⟨true, true⟩ =>
    simp only [positionFromLimits, hlimits, hl, faultRoute, apply_ite setEdited]
    rfl

theorem writeRouteEntry_new (h : s.tables.routes.get r = none) :
    setEdited (writeRouteEntry r e s) = positionFromLimits r (newRoute s r e) := by
  simp only [writeRouteEntry, h, Option.isSome_none, Bool.false_eq_true, if_false]
  exact setEdited_positionFromLimits

theorem writeRouteEntry_defined (h : (s.tables.routes.get r).isSome) :
    setEdited (writeRouteEntry r e s) = setEdited (s.setTables (writeRoute r (some e) s.tables)) := by
  simp only [writeRouteEntry, h, if_true]

theorem newRoute_valve : (newRoute s r e).rc.valves.get r = some newValve := by simp [newRoute, setEdited]

theorem newRoute_faultLimit : faultLimitOf (newRoute s r e) r = e.faultLimit := by
  simp [newRoute, setEdited, faultLimitOf, writeRoute]

/-- A new valve record that is not found in FAULT or LOCKED_OUT leads to nothing where there is no target. -/
theorem afterRouteEntry_calm (ht : Untargeted s) (h : s.rc.valves.get r = some v)
    (hv : v.state ≠ .fault ∧ v.state ≠ .lockedOut) : afterRouteEntry r true s = s := by
  simp [afterRouteEntry, faulted, valveIs_eq h, hv.1, hv.2, compare_untargeted ht]

theorem afterRouteEntry_fault (h : s.rc.valves.get r = some v) (hv : v.state = .fault ∨ v.state = .lockedOut) :
    afterRouteEntry r true s = afterFault r false s := by
  simp [afterRouteEntry, faulted, valveIs_eq h, hv]

theorem setRoute_accepted {kind product travel nominal fault : Nat} {k : RouteKind} (hrun : s.running = true)
    (h : routeRefusal (routeNumber r) 1 kind product s = none) (hk : kindOfCode kind product = some k) :
    ∃ p, exec (.setRoute (routeNumber r) 1 kind product travel nominal fault) s = .next
      ((afterRouteEntry r (s.tables.routes.get r).isNone (setEdited (writeRouteEntry r
        ⟨k, max 5 (min 600 travel), max 1 (min 600 nominal), max 1 (min 7 fault)⟩ s))).accept 0x33 p) := by
  simp only [exec, execSetRoute, request_running hrun, h, routeOfNumber_routeNumber, hk, if_true, clampNat_eq, acceptSet,
    Option.getD_some]
  exact ⟨_, rfl⟩

theorem setRoute_removed {kind product travel nominal fault : Nat} (hrun : s.running = true)
    (h : routeRefusal (routeNumber r) 2 kind product s = none) :
    ∃ p, exec (.setRoute (routeNumber r) 2 kind product travel nominal fault) s
      = .next ((Machine.compare (setEdited (removeRoute r s))).accept 0x33 p) := by
  simp only [exec, execSetRoute, request_running hrun, h, routeOfNumber_routeNumber, OfNat.ofNat_ne_one, if_false, acceptSet]
  exact ⟨_, rfl⟩

/-- Settles O22. -/
theorem routeEntryMakesItsValve : Obligations.RouteEntryMakesItsValve := by
  intro r kind product travel nominal fault k s hrun hmode
  have ht : Untargeted s := by rcases hmode with h | h | h <;> exact ⟨by simp [h], by simp [h]⟩
  refine ⟨fun h hk => ?_, fun h => ?_⟩
  · obtain ⟨p, hexec⟩ := setRoute_accepted (travel := travel) (nominal := nominal) (fault := fault) hrun h hk
    have hothers : ∀ e, ∀ x, x ≠ r → (writeRoute r e s.tables).routes.get x = s.tables.routes.get x := fun e x hx =>
      PerRoute.get_set_ne _ _ hx
    generalize he : (⟨k, max 5 (min 600 travel), max 1 (min 600 nominal), max 1 (min 7 fault)⟩ : RouteEntry) = e at hexec ⊢
    cases hdef : s.tables.routes.get r with
    | some e₀ =>
      simp only [hdef, Option.isNone_some, writeRouteEntry_defined (e := e) (r := r) (s := s) (by simp [hdef])] at hexec
      simp only [afterRouteEntry, Bool.false_and, Bool.false_eq_true, if_false] at hexec
      rw [compare_untargeted (s := setEdited (s.setTables (writeRoute r (some e) s.tables))) ht] at hexec
      exact ⟨_, hexec, PerRoute.get_set .., fun x hx => ⟨hothers _ x hx, rfl⟩, rfl, fun _ => ⟨rfl, rfl⟩, (by cases ·),
        (by cases ·), (by cases ·), (by cases ·), rfl⟩
    | none =>
      simp only [hdef, Option.isNone_none, writeRouteEntry_new hdef] at hexec
      have hvalve : (newRoute s r e).rc.valves.get r = some newValve := newRoute_valve
      have hset : ∀ v x, x ≠ r → ((newRoute s r e).rc.valves.set r v).get x = s.rc.valves.get x := fun v x hx =>
        (PerRoute.get_set_ne _ _ hx).trans (PerRoute.get_set_ne _ _ hx)
      have htables : (newRoute s r e).tables.routes.get r = some e := PerRoute.get_set ..
      have calm : ∀ u v, positionFromLimits r (newRoute s r e) = u → u.rc.valves.get r = some v →
          v.state ≠ .fault ∧ v.state ≠ .lockedOut → u.noRoutes = (newRoute s r e).noRoutes →
          exec (.setRoute (routeNumber r) 1 kind product travel nominal fault) s = .next (u.accept 0x33 p) := by
        intro u v hu hv hcalm hframe
        rw [hexec, hu, afterRouteEntry_calm (Untargeted.of_noRoutes (s := newRoute s r e) ht hframe) hv hcalm]
      match hl : s.rc.limits.get r with
      | ⟨true, false⟩ =>
        have hu : positionFromLimits r (newRoute s r e) = enterOpen 0 r (newRoute s r e) := by
          have hl' : (newRoute s r e).rc.limits.get r = ⟨true, false⟩ := hl
          simp only [positionFromLimits, hl']
        have hnew := modValve_eq hvalve
        refine ⟨_, calm _ _ hu ((modValve_get_self _).trans (congrArg _ hvalve)) (by simp) rfl, htables,
          fun x hx => ⟨hothers _ x hx, (modValve_get_ne _ hx).trans (PerRoute.get_set_ne _ _ hx)⟩, rfl, by simp, by simp,
          by simp, fun _ _ hn => ?_, by simp, rfl⟩
        rw [enterOpen_eq hvalve hn]
        exact ⟨PerRoute.get_set .., rfl⟩
      | ⟨false, true⟩ =>
        refine ⟨_, calm _ _ (positionFromLimits_closed hvalve hl) (PerRoute.get_set ..) (by simp [closedValve]) rfl, htables,
          fun x hx => ⟨hothers _ x hx, hset _ x hx⟩, rfl, by simp, fun _ _ => ⟨PerRoute.get_set .., rfl⟩, by simp, by simp,
          by simp, rfl⟩
      | ⟨false, false⟩ =>
        refine ⟨_, calm _ _ (positionFromLimits_unknown hvalve hl) (PerRoute.get_set ..) (by simp) rfl, htables,
          fun x hx => ⟨hothers _ x hx, hset _ x hx⟩, rfl, by simp, by simp, fun _ _ => ⟨PerRoute.get_set .., rfl⟩, by simp,
          by simp, rfl⟩
      | ⟨true, true⟩ =>
        rw [positionFromLimits_both hvalve hl, afterRouteEntry_fault (withFault_valve ..) (faulted_state ..)] at hexec
        have hposted : Instr.eventPosted .valveSwitchFault (routeNumber r) 1
            ∈ (withFault .valveSwitchFault none r newValve (newRoute s r e)).handed :=
          List.mem_append_right _ (List.mem_cons_self ..)
        have hfaults : ((withFault .valveSwitchFault none r newValve (newRoute s r e)).rc.valves.get r).map (·.faults) = some 1 := by
          rw [withFault_valve]
          rfl
        by_cases hw : ∃ w, s.rc.switching = some w ∧ r ∈ w.commanded
        · obtain ⟨w, hw, hr⟩ := hw
          rw [afterFault_commanded (s := withFault .valveSwitchFault none r newValve (newRoute s r e)) ht hw hr] at hexec
          refine ⟨_, hexec, htables, fun x hx => ⟨hothers _ x hx, hset _ x hx⟩, rfl, by simp, by simp, by simp, by simp,
            fun _ _ => ⟨hfaults, by simp [endSwitch, hposted], fun w' hw' _ => ?_, fun hno => absurd hr (hno w hw)⟩, rfl⟩
          obtain rfl : w = w' := by rw [hw] at hw'; exact Option.some.inj hw'
          simp [endSwitch]
        · have hi : involved (withFault .valveSwitchFault none r newValve (newRoute s r e)) r = none := by
            cases hsw : s.rc.switching with
            | none => exact involved_none hsw
            | some w =>
              have htarget := not_target_of_routeRefusal (routeOfNumber_routeNumber r) h hsw
              have hcommanded : r ∉ w.commanded := fun hr => hw ⟨w, hsw, hr⟩
              have hsw' : (withFault .valveSwitchFault none r newValve (newRoute s r e)).rc.switching = some w := hsw
              simp [involved, hsw', htarget, hcommanded]
          rw [afterFault_uninvolved (s := withFault .valveSwitchFault none r newValve (newRoute s r e)) ht hi] at hexec
          exact ⟨_, hexec, htables, fun x hx => ⟨hothers _ x hx, hset _ x hx⟩, rfl, by simp, by simp, by simp, by simp,
            fun _ _ => ⟨hfaults, hposted, fun w hsw hr => absurd ⟨w, hsw, hr⟩ hw, fun _ => rfl⟩, rfl⟩
  · obtain ⟨p, hexec⟩ := setRoute_removed (travel := travel) (nominal := nominal) (fault := fault) hrun h
    rw [compare_untargeted (s := setEdited (removeRoute r s)) ht] at hexec
    exact ⟨_, hexec, PerRoute.get_set .., PerRoute.get_set .., fun x hx => ⟨PerRoute.get_set_ne _ _ hx, PerRoute.get_set_ne _ _ hx⟩,
      rfl, rfl⟩

end

end Sys2Proof.Proofs.Routes
end

section
/-! A travel timer that runs out (O29). -/
namespace Sys2Proof.Proofs.Routes

open Sys2Proof Sys2Proof.Machine
open Sys2Proof.Proofs.Answers
open Sys2Proof.Proofs.EveryStep (sm_of_noRoutes valveIs_iff valveIs_ne)

/-- The routes of a target that a switch commands open. -/
def toOpen (s : State) (rs : List RouteNo) : List RouteNo := rs.filter (fun r => !valveIs s r .opened)

/-- The state with the record of a new switch and SWITCH_BEGUN posted, before its commands (R136). -/
def begunState (rs : List RouteNo) (owner : Nat) (s : State) : State :=
  (s.setSwitch (some ⟨rs, owner, .opening, toOpen s rs, [], false, s.stationS⟩)).post .switchBegun owner (routeSetCode rs)

theorem beginSwitch_eq (rs : List RouteNo) (o : Nat) (s : State) :
    beginSwitch rs o s = (toOpen s rs).foldl (fun s r => commandOpen r s) (begunState rs o s) := rfl

/-! ### The Route Controller only adds to the hand-offs -/

theorem prefix_foldl {f : State → RouteNo → State} (h : ∀ s r, s.handed <+: (f s r).handed) (rs : List RouteNo) (s : State) :
    s.handed <+: (rs.foldl f s).handed := by
  induction rs generalizing s with
  | nil => exact List.prefix_rfl
  | cons r rs ih => exact (h s r).trans (ih _)

section
variable (s : State) (r : RouteNo)

theorem prefix_commandOpen : s.handed <+: (commandOpen r s).handed := by
  unfold commandOpen
  split <;> [split; skip] <;> exact List.prefix_rfl

theorem prefix_commandClose : s.handed <+: (commandClose r s).handed := by
  unfold commandClose
  split <;> [split; skip] <;> exact List.prefix_rfl

theorem prefix_beginSwitch (rs : List RouteNo) (o : Nat) : s.handed <+: (beginSwitch rs o s).handed := by
  rw [beginSwitch_eq]
  have hpost : s.handed <+: (begunState rs o s).handed := List.prefix_append ..
  exact hpost.trans (prefix_foldl (fun s r => prefix_commandOpen s r) ..)

theorem prefix_beginPhase2 (w : Switch) : s.handed <+: (beginPhase2 w s).handed :=
  prefix_foldl (f := fun s r => commandClose r s) (fun s r => prefix_commandClose s r) _
    (s.setSwitch (some { w with phase := .closing, commanded := closingRoutes s w.target, arrived := [] }))

theorem prefix_endSwitch (k : EventKind) (o : Nat) (d : Int) : s.handed <+: (endSwitch k o d s).handed :=
  ⟨[.eventPosted k o d, .switchEndHanded], by simp [endSwitch]⟩

theorem prefix_advancePhase : s.handed <+: (advancePhase s).handed := by
  unfold advancePhase
  split
  · exact List.prefix_rfl
  · dsimp only
    split
    · split
      · exact prefix_endSwitch s ..
      · split
        · exact prefix_beginPhase2 s _
        · exact prefix_endSwitch s ..
    · exact List.prefix_rfl

theorem prefix_settleSwitch : s.handed <+: (settleSwitch s).handed :=
  (prefix_advancePhase s).trans (prefix_advancePhase _)

theorem prefix_compare : s.handed <+: (Machine.compare s).handed := by
  unfold Machine.compare
  split
  · exact List.prefix_rfl
  · split
    · exact List.prefix_rfl
    · split
      · split <;> exact List.prefix_append _ _
      · exact (prefix_beginSwitch s ..).trans (prefix_settleSwitch _)

theorem prefix_afterFault (b : Bool) : s.handed <+: (afterFault r b s).handed := by
  have hhand : ∀ (u : State) i, u.handed <+: (Machine.compare (u.hand i)).handed := fun u i =>
    .trans ⟨[i], rfl⟩ (prefix_compare (u.hand i))
  have hfail : ∀ u : State, u.handed <+: (Machine.compare (safeFailed r u)).handed := fun u =>
    .trans ⟨[.eventPosted .safeLineupFailed (routeNumber r) 2], rfl⟩ (prefix_compare (safeFailed r u))
  unfold afterFault
  split
  next w _ =>
    refine (prefix_endSwitch s .switchAbandoned w.owner 2).trans ?_
    dsimp only
    split
    · exact List.prefix_append _ _
    · split <;> [exact hfail _; exact hhand _ _]
    · exact prefix_compare _
    · exact prefix_compare _
    · exact prefix_compare _
  next =>
    split
    · exact List.prefix_append _ _
    · split <;> [exact hfail s; exact prefix_compare s]

end

/-! ### What follows a fault (R139) -/

section
variable {s : State} {r : RouteNo} {v : Valve}

theorem compare_latched (h : s.rc.latch = true) : Machine.compare s = s := by
  unfold Machine.compare
  split <;> simp [h]

theorem afterFault_tracking {w : Switch} (hi : involved s r = some w) (hmode : s.sm.mode = .tracking) (b : Bool) :
    afterFault r b s = (endSwitch .switchAbandoned w.owner 2 s).hand (.safeDemand r .involvedFault) := by
  have hmode' : (endSwitch .switchAbandoned w.owner 2 s).sm.mode = .tracking := hmode
  simp only [afterFault, hi, hmode']

theorem afterFault_safe {w : Switch} (hi : involved s r = some w) (hmode : s.sm.mode = .safe)
    (hsafe : s.tables.params.safeRoute = some r) (b : Bool) :
    afterFault r b s = safeFailed r (endSwitch .switchAbandoned w.owner 2 s) := by
  have hmode' : (endSwitch .switchAbandoned w.owner 2 s).sm.mode = .safe := hmode
  have hsafe' : (endSwitch .switchAbandoned w.owner 2 s).tables.params.safeRoute = some r := hsafe
  simp only [afterFault, hi, hmode', hsafe', if_true]
  exact compare_latched rfl

theorem afterFault_valves (ht : Untargeted s) (b : Bool) : (afterFault r b s).rc.valves = s.rc.valves := by
  by_cases hi : ∃ w, s.rc.switching = some w ∧ (r ∈ w.target ∨ r ∈ w.commanded)
  · obtain ⟨w, hw, hr⟩ := hi
    have hinv : involved s r = some w := by simp [involved, hw, hr]
    have hcompare := compare_untargeted (ht.of_noRoutes (endSwitch_noRoutes .switchAbandoned w.owner 2 s))
    have hmode : (endSwitch .switchAbandoned w.owner 2 s).sm.mode = s.sm.mode := rfl
    have hend : (endSwitch .switchAbandoned w.owner 2 s).rc.valves = s.rc.valves := rfl
    obtain ⟨htr, hsf⟩ := ht
    simp only [afterFault, hinv, hmode, hcompare]
    cases hm : s.sm.mode <;> simp_all
  · have hinv : involved s r = none := by
      cases hw : s.rc.switching with
      | none => exact involved_none hw
      | some w =>
        have hr : r ∉ w.target ∧ r ∉ w.commanded := by simpa [hw] using hi
        simp [involved, hw, hr]
    rw [afterFault_uninvolved ht hinv]

end

/-! ### The travel timer (R130, R132) -/

section
variable {s : State} {r : RouteNo} {v : Valve}

theorem timerOut_iff (h : s.rc.valves.get r = some v) : timerOut s.clock.ms (s.rc.valves.get r) = true
    ↔ ∃ t0, v.timerStart = some t0 ∧ v.timerLimit * 1000 ≤ s.clock.ms - t0 := by
  rw [h]
  cases hv : v.timerStart with
  | none => simp [timerOut, hv]
  | some t0 => simp [timerOut, hv]

theorem travelExpiry_standing (hrun : s.running = true) (h : s.rc.valves.get r = some v)
    (hs : (∃ t0, v.timerStart = some t0 ∧ v.timerLimit * 1000 ≤ s.clock.ms - t0) ∨ .valveTravelExpiry r ∉ s.handed) :
    exec (.valveTravelExpiry r) s = .next (travelExpiry r (s.take (.valveTravelExpiry r))) := by
  have hstands : expiryStands (.valveTravelExpiry r) (timerOut s.clock.ms (s.rc.valves.get r)) s = true := by
    rw [expiryStands, Bool.or_eq_true, timerOut_iff h]
    simpa using hs
  simp only [exec, execValveTravelExpiry, hstands, if_true, event_running hrun]

theorem travelExpiry_leftOver (hrun : s.running = true) (h : s.rc.valves.get r = some v)
    (hs : ¬∃ t0, v.timerStart = some t0 ∧ v.timerLimit * 1000 ≤ s.clock.ms - t0) (hin : .valveTravelExpiry r ∈ s.handed) :
    exec (.valveTravelExpiry r) s = .next (s.take (.valveTravelExpiry r)) := by
  have hout : timerOut s.clock.ms (s.rc.valves.get r) = false := by rwa [← Bool.not_eq_true, timerOut_iff h]
  simp [exec, execValveTravelExpiry, expiryStands, hout, hin, event_running hrun]

/-- The hand-offs with a route's fault at the end of its travel. -/
theorem handed_travelFault (s : State) (r : RouteNo) (v : Valve) :
    (withFault .valveTravelFault none r v (s.take (.valveTravelExpiry r))).handed
      = s.handed.erase (.valveTravelExpiry r)
        ++ .eventPosted .valveTravelFault (routeNumber r) (min 7 (v.faults + 1))
        :: (if faultLimitOf s r ≤ min 7 (v.faults + 1) then
              [.eventPosted .valveLockout (routeNumber r) (min 7 (v.faults + 1))] else []) := by
  simp [withFault, faultPosts, Instr.canonical, faultLimitOf]

/-- Settles O29. -/
theorem travelExpiryFaultsTheRoute : Obligations.TravelExpiryFaultsTheRoute := by
  intro r v s hrun h
  dsimp only
  refine ⟨fun hs => ⟨fun hv => ?_, fun ho hc => ?_⟩, fun hs hin => travelExpiry_leftOver hrun h hs hin⟩
  · have htravel : travelling (s.take (.valveTravelExpiry r)) r = true := by
      simpa [travelling, valveIs_eq (s := s.take (.valveTravelExpiry r)) h] using hv
    have hexec := travelExpiry_standing hrun h hs
    rw [travelExpiry, if_pos htravel, faultRoute_eq (s := s.take (.valveTravelExpiry r)) h] at hexec
    obtain ⟨u, hu⟩ : ∃ u, withFault .valveTravelFault none r v (s.take (.valveTravelExpiry r)) = u := ⟨_, rfl⟩
    have hhanded := handed_travelFault s r v
    have hframe : u.noRoutes = s.noRoutes := by rw [← hu]; rfl
    have hsm : u.sm = s.sm := sm_of_noRoutes hframe
    rw [hu] at hexec hhanded
    refine ⟨?_, fun w hw hr => ?_⟩
    · obtain ⟨more, hmore⟩ := prefix_afterFault u r false
      rw [hhanded] at hmore
      refine ⟨_, more, hexec, hmore.symm, eq_of_noRoutes ((afterFault_noRoutes r false u).trans hframe), fun hmode => ?_⟩
      have ht : Untargeted u := by
        rw [Untargeted, hsm]
        rcases hmode with hm | hm <;> simp [hm]
      rw [afterFault_valves ht, ← hu]
      exact ⟨withFault_valve .., fun x hx => PerRoute.get_set_ne _ _ hx⟩
    · have hi : involved u r = some w := by
        rw [← hu]
        simp [involved, withFault, hw, hr]
      have hshape : u = { s with
          rc := { s.rc with valves := s.rc.valves.set r (some (Safety.Faulted s v r)) }, handed := u.handed } := by
        rw [← hu]
        rfl
      rw [hhanded] at hshape
      refine ⟨fun hmode => ?_, fun hmode hsafe => ?_⟩
      · rw [hexec, afterFault_tracking hi (by rw [hsm, hmode]), hshape]
        simp [endSwitch, State.post, State.hand, State.setSwitch]
      · rw [hexec, afterFault_safe hi (by rw [hsm, hmode]) (by rw [← hu]; exact hsafe), hshape]
        simp [safeFailed, endSwitch, State.post, State.hand, State.setSwitch, State.setLatch]
  · have htravel : travelling (s.take (.valveTravelExpiry r)) r = false := by
      simp [travelling, valveIs_eq (s := s.take (.valveTravelExpiry r)) h, ho, hc]
    rw [travelExpiry_standing hrun h hs, travelExpiry, if_neg (by simp [htravel])]

end

end Sys2Proof.Proofs.Routes
end

section
/-! A change of a route's limits, and the switch it takes through its phases or begins (O30). -/
namespace Sys2Proof.Proofs.Routes

open Sys2Proof Sys2Proof.Machine
open Sys2Proof.Proofs.Answers
open Sys2Proof.Proofs.EveryStep (sm_of_noRoutes valveIs_iff valveIs_ne valveIs_of_state)

/-! ### Commands to several routes -/

/-- The routes `rs` stand in `st`, and nothing else has changed. -/
structure Travelled (rs : List RouteNo) (st : ValveState) (s t : State) : Prop where
  frame : t = { s with rc := { s.rc with valves := t.rc.valves } }
  there : ∀ x ∈ rs, valveIs t x st = true
  others : ∀ x, x ∉ rs → t.rc.valves.get x = s.rc.valves.get x

/-- A route that a command sets travelling to `st`, or that travels to it already: its limits do not show it there. -/
def Commandable (src : ValveState → Prop) (st : ValveState) (arrived : Limits) (s : State) (r : RouteNo) : Prop :=
  s.rc.limits.get r ≠ arrived ∧ ∃ v, s.rc.valves.get r = some v ∧ (v.state = st ∨ src v.state)

theorem valveIs_of_get {s t : State} {x : RouteNo} (h : t.rc.valves.get x = s.rc.valves.get x) (v : ValveState) :
    valveIs t x v = valveIs s x v := by simp only [valveIs, valveState, h]

theorem Commandable.kept {src : ValveState → Prop} {st : ValveState} {a : Limits} {s t : State} {r x : RouteNo}
    (h : Commandable src st a s x) (ht : Travelled [r] st s t) : Commandable src st a t x := by
  obtain ⟨hlimits, v, hv, hstate⟩ := h
  have hsame : t.rc.limits = s.rc.limits := by rw [ht.frame]
  refine ⟨by rwa [hsame], ?_⟩
  by_cases hx : x = r
  · subst hx
    have hthere := ht.there x (by simp)
    rw [valveIs_iff, valveState, Option.map_eq_some_iff] at hthere
    obtain ⟨w, hw, hst⟩ := hthere
    exact ⟨w, hw, .inl hst⟩
  · exact ⟨v, (ht.others x (by simpa using hx)).trans hv, hstate⟩

theorem Travelled.foldl {src : ValveState → Prop} {st : ValveState} {a : Limits} {f : State → RouteNo → State}
    (hstep : ∀ s r, Commandable src st a s r → Travelled [r] st s (f s r)) (rs : List RouteNo) (s : State)
    (h : ∀ x ∈ rs, Commandable src st a s x) : Travelled rs st s (rs.foldl f s) := by
  induction rs generalizing s with
  | nil => exact ⟨rfl, by simp, fun _ _ => rfl⟩
  | cons r rs ih =>
    have hr := hstep s r (h r (List.mem_cons_self ..))
    have hrest := ih (f s r) fun x hx => (h x (List.mem_cons_of_mem r hx)).kept hr
    refine ⟨?_, fun x hx => ?_, fun x hx => ?_⟩
    · obtain ⟨vs, hvs⟩ : ∃ vs, f s r = { s with rc := { s.rc with valves := vs } } := ⟨_, hr.frame⟩
      obtain ⟨us, hus⟩ : ∃ us, rs.foldl f (f s r) = { f s r with rc := { (f s r).rc with valves := us } } := ⟨_, hrest.frame⟩
      rw [List.foldl_cons, hus, hvs]
    · by_cases hin : x ∈ rs
      · exact hrest.there x hin
      · obtain rfl : x = r := by simpa [hin] using hx
        exact (valveIs_of_get (hrest.others x hin) st).trans (hr.there x (by simp))
    · rw [List.mem_cons, not_or] at hx
      exact (hrest.others x hx.2).trans (hr.others x (by simpa using hx.1))

theorem travelled_setValve {s : State} {r : RouteNo} {v : Valve} : Travelled [r] v.state s (s.setValve r (some v)) :=
  ⟨rfl, by simp [valveIs, valveState], fun x hx => PerRoute.get_set_ne _ _ (by simpa using hx)⟩

theorem Travelled.refl {s : State} {r : RouteNo} {st : ValveState} (h : valveIs s r st = true) : Travelled [r] st s s :=
  ⟨rfl, by simpa using h, fun _ _ => rfl⟩

/-- The states from which a command to open is taken (R129). -/
def OpensFrom (v : ValveState) : Prop := v = .closed ∨ v = .unknown ∨ v = .fault

/-- The states from which a command to close is taken (R129). -/
def ClosesFrom (v : ValveState) : Prop := v = .opened ∨ v = .unknown ∨ v = .fault

theorem travelled_commandOpen (s : State) (r : RouteNo) (h : Commandable OpensFrom .opening ⟨true, false⟩ s r) :
    Travelled [r] .opening s (commandOpen r s) := by
  obtain ⟨hlimits, v, hv, hstate | hstate⟩ := h
  · rw [commandOpen_other hv (by simp [hstate])]
    exact .refl (by simp [valveIs_eq hv, hstate])
  · rw [commandOpen_taken hv hstate, if_neg hlimits, enterTravel_eq hv]
    exact travelled_setValve (v := travelValve s r .opening v)

theorem travelled_commandClose (s : State) (r : RouteNo) (h : Commandable ClosesFrom .closing ⟨false, true⟩ s r) :
    Travelled [r] .closing s (commandClose r s) := by
  obtain ⟨hlimits, v, hv, hstate | hstate⟩ := h
  · have hsame : commandClose r s = s := by simp [commandClose, valveIs_eq hv, hstate]
    rw [hsame]
    exact .refl (by simp [valveIs_eq hv, hstate])
  · rw [commandClose_taken hv hstate, if_neg hlimits, enterTravel_eq hv]
    exact travelled_setValve (v := travelValve s r .closing v)

/-! ### The phases of a switch (R136 to R138) -/

section
variable {s : State} {w : Switch} {r : RouteNo}

/-- A commanded route has come to its end position in the phase. -/
def There (s : State) (w : Switch) (x : RouteNo) : Prop := x ∈ w.arrived ∨ valveIs s x (phaseEnd w.phase) = true

theorem phaseOver_iff : phaseOver (noteArrivals w s) = true ↔ ∀ x ∈ w.commanded, There s w x := by
  simp only [phaseOver, noteArrivals, There, List.all_eq_true, List.contains_eq_mem, List.mem_filter, decide_eq_true_eq,
    Bool.or_eq_true]
  exact ⟨fun h x hx => (h x hx).2, fun h x hx => ⟨hx, h x hx⟩⟩

theorem advancePhase_waiting (hw : s.rc.switching = some w) (h : ∃ x ∈ w.commanded, ¬There s w x) :
    advancePhase s = s.setSwitch (some (noteArrivals w s)) := by
  have hnot : phaseOver (noteArrivals w s) = false := by
    rw [← Bool.not_eq_true, phaseOver_iff]
    simpa using h
  simp [advancePhase, hw, hnot]

theorem advancePhase_abandoned (hw : s.rc.switching = some w) (h : ∀ x ∈ w.commanded, There s w x) (ha : w.abandon = true) :
    advancePhase s = endSwitch .switchAbandoned w.owner 1 s := by
  have ha' : (noteArrivals w s).abandon = true := ha
  simp only [advancePhase, hw, phaseOver_iff.mpr h, ha', if_true]
  rfl

theorem advancePhase_done (hw : s.rc.switching = some w) (h : ∀ x ∈ w.commanded, There s w x) (ha : w.abandon = false)
    (hp : w.phase = .closing) : advancePhase s = endSwitch .switchDone w.owner (routeSetCode w.target) s := by
  have ha' : (noteArrivals w s).abandon = false := ha
  have hp' : (noteArrivals w s).phase = .closing := hp
  simp only [advancePhase, hw, phaseOver_iff.mpr h, ha', hp', if_true, if_false, Bool.false_eq_true]
  rfl

/-- The record of a switch in phase 2 that waits for the routes `rs` (R137). -/
def inPhase2 (w : Switch) (rs : List RouteNo) : Switch := { w with phase := .closing, commanded := rs, arrived := [] }

theorem advancePhase_phase2 (hw : s.rc.switching = some w) (h : ∀ x ∈ w.commanded, There s w x) (ha : w.abandon = false)
    (hp : w.phase = .opening) : advancePhase s = (closingRoutes s w.target).foldl (fun s r => commandClose r s)
      (s.setSwitch (some (inPhase2 w (closingRoutes s w.target)))) := by
  have ha' : (noteArrivals w s).abandon = false := ha
  have hp' : (noteArrivals w s).phase = .opening := hp
  simp only [advancePhase, hw, phaseOver_iff.mpr h, ha', hp', if_true, if_false, Bool.false_eq_true]
  rfl

theorem settleSwitch_waiting (hw : s.rc.switching = some w) (h : ∃ x ∈ w.commanded, ¬There s w x) :
    settleSwitch s = s.setSwitch (some (noteArrivals w s)) := by
  have hnote : noteArrivals (noteArrivals w s) (s.setSwitch (some (noteArrivals w s))) = noteArrivals w s := by
    have hsame : w.commanded.filter (fun y => (w.commanded.filter fun y => w.arrived.contains y || valveIs s y (phaseEnd w.phase)).contains y
        || valveIs s y (phaseEnd w.phase)) = w.commanded.filter fun y => w.arrived.contains y || valveIs s y (phaseEnd w.phase) :=
      List.filter_congr fun y hy => by simp [hy]
    exact congrArg (fun a => { w with arrived := a }) hsame
  have hstill : ∃ x ∈ (noteArrivals w s).commanded, ¬There (s.setSwitch (some (noteArrivals w s))) (noteArrivals w s) x := by
    obtain ⟨x, hx, hnot⟩ := h
    refine ⟨x, hx, fun hthere => hnot ?_⟩
    rcases hthere with hin | hin
    · have := (List.mem_filter.mp hin).2
      simpa [There] using this
    · exact .inr hin
  rw [settleSwitch, advancePhase_waiting hw h, advancePhase_waiting rfl hstill, hnote]
  rfl

theorem settleSwitch_ended {k : EventKind} {o : Nat} {d : Int} (h : advancePhase s = endSwitch k o d s) :
    settleSwitch s = endSwitch k o d s := by
  rw [settleSwitch, h]
  rfl

/-- Phase 1 ends beside no route to close: the switch is DONE at once (R137). -/
theorem settleSwitch_nothingToClose (hw : s.rc.switching = some w) (h : ∀ x ∈ w.commanded, There s w x)
    (ha : w.abandon = false) (hp : w.phase = .opening) (hnone : closingRoutes s w.target = []) :
    settleSwitch s = endSwitch .switchDone w.owner (routeSetCode w.target) s := by
  rw [settleSwitch, advancePhase_phase2 hw h ha hp, hnone, List.foldl_nil,
    advancePhase_done (w := inPhase2 w []) rfl (by simp [inPhase2]) ha rfl]
  rfl

/-- Phase 1 ends beside routes to close, whose closed limits are not active: phase 2 waits for them (R137). -/
theorem settleSwitch_closing (hw : s.rc.switching = some w) (h : ∀ x ∈ w.commanded, There s w x)
    (ha : w.abandon = false) (hp : w.phase = .opening) (hsome : closingRoutes s w.target ≠ [])
    (hlimits : ∀ x ∈ closingRoutes s w.target, (s.rc.limits.get x).closed = false) :
    Travelled (closingRoutes s w.target) .closing (s.setSwitch (some (inPhase2 w (closingRoutes s w.target))))
      (settleSwitch s) := by
  generalize hrs : closingRoutes s w.target = rs at hsome hlimits ⊢
  have hclosing := Travelled.foldl travelled_commandClose rs (s.setSwitch (some (inPhase2 w rs))) fun x hx => by
    have hopen : valveIs s x .opened = true ∨ valveIs s x .unknown = true := by
      rw [← hrs] at hx
      simpa using (Bool.and_eq_true_iff.mp (List.mem_filter.mp hx).2).2
    refine ⟨fun hl => ?_, ?_⟩
    · have hc := hlimits x hx
      rw [show s.rc.limits.get x = ⟨false, true⟩ from hl] at hc
      cases hc
    · simp only [valveIs_iff, valveState, Option.map_eq_some_iff] at hopen
      rcases hopen with ⟨v, hv, hst⟩ | ⟨v, hv, hst⟩
      · exact ⟨v, hv, .inr (.inl hst)⟩
      · exact ⟨v, hv, .inr (.inr (.inl hst))⟩
  have hfirst := advancePhase_phase2 hw h ha hp
  rw [hrs] at hfirst
  rw [settleSwitch, hfirst]
  generalize rs.foldl (fun s r => commandClose r s) (s.setSwitch (some (inPhase2 w rs))) = t at hclosing ⊢
  have hsw : t.rc.switching = some (inPhase2 w rs) := by rw [hclosing.frame]; rfl
  have hnot : ∀ x ∈ rs, ¬There t (inPhase2 w rs) x := by
    intro x hx hthere
    have hno := valveIs_ne (w := .closed) (hclosing.there x hx) (by simp)
    rcases hthere with hin | hin
    · exact absurd hin (by simp [inPhase2])
    · exact absurd hin (by simp [inPhase2, phaseEnd, hno])
  obtain ⟨x, hx⟩ := List.exists_mem_of_ne_nil rs hsome
  have hnote : noteArrivals (inPhase2 w rs) t = inPhase2 w rs := by
    have hempty : rs.filter (fun r => ([] : List RouteNo).contains r || valveIs t r .closed) = [] := by
      rw [List.filter_eq_nil_iff]
      intro y hy
      simp [valveIs_ne (w := .closed) (hclosing.there y hy) (by simp)]
    simp only [noteArrivals, inPhase2, phaseEnd, hempty]
  have hsame : t.setSwitch (some (inPhase2 w rs)) = t := by
    rw [← hsw]
    rfl
  rw [advancePhase_waiting hsw ⟨x, hx, hnot x hx⟩, hnote, hsame]
  exact hclosing

end

end Sys2Proof.Proofs.Routes
end

section
/-! Changes of limits: arrivals that take a switch on, the switch an arrival begins, and the single valve (O30). -/
namespace Sys2Proof.Proofs.Routes

open Sys2Proof Sys2Proof.Machine
open Sys2Proof.Proofs.Answers
open Sys2Proof.Proofs.EveryStep (sm_of_noRoutes valveIs_iff valveIs_ne)

/-! ### The lowest-numbered route -/

theorem allRoutes_getElem_number : ∀ j (h : j < allRoutes.length), routeNumber allRoutes[j] = j + 1 := by decide

/-- The routes are searched in number order. -/
theorem find_lowest {p : RouteNo → Bool} {x : RouteNo} (hx : p x = true)
    (hlow : ∀ y, routeNumber y < routeNumber x → p y = false) : allRoutes.find? p = some x := by
  have hnumber := fun j h => allRoutes_getElem_number j h
  obtain ⟨i, hi, rfl⟩ := List.getElem_of_mem (mem_allRoutes x)
  refine List.find?_eq_some_iff_getElem.mpr ⟨hx, i, hi, rfl, fun j hj => ?_⟩
  rw [hlow allRoutes[j] (by rw [hnumber, hnumber]; omega)]
  rfl

/-! ### The target -/

section
variable {s t : State}

/-- The target rests on the mode, the plan, the train and the tables, none of them the Route Controller's. -/
theorem target_of_noRoutes (h : t.noRoutes = s.noRoutes) : target t = target s := by
  obtain ⟨rc, xs, rfl⟩ : ∃ rc xs, t = { s with rc := rc, handed := xs } := ⟨_, _, eq_of_noRoutes h⟩
  rfl

theorem compare_switching {w : Switch} (h : s.rc.switching = some w) : Machine.compare s = s := by
  unfold Machine.compare
  split <;> simp [h]

theorem compare_lockedOut {rs : List RouteNo} {owner : Nat} {x : RouteNo} (ht : target s = some (rs, owner))
    (hw : s.rc.switching = none) (ha : agrees s rs = false) (htravel : ∀ r, travelling s r = false)
    (hl : s.rc.latch = false) (hx : allRoutes.find? (fun r => rs.contains r && valveIs s r .lockedOut) = some x) :
    Machine.compare s = if s.sm.mode = .safe then (s.post .safeLineupFailed (routeNumber x) 1).setLatch true
      else s.hand (.safeDemand x .lockedOut) := by
  have hany : allRoutes.any (travelling s) = false := by simp [htravel]
  simp only [Machine.compare, ht, hw, ha, hany, hl, hx, Option.isSome_none, Bool.or_self, Bool.false_eq_true, if_false]

theorem compare_begins {rs : List RouteNo} {owner : Nat} (ht : target s = some (rs, owner))
    (hw : s.rc.switching = none) (ha : agrees s rs = false) (htravel : ∀ r, travelling s r = false)
    (hl : s.rc.latch = false) (hx : ∀ x ∈ rs, valveIs s x .lockedOut = false) :
    Machine.compare s = settleSwitch (beginSwitch rs owner s) := by
  have hany : allRoutes.any (travelling s) = false := by simp [htravel]
  have hfind : allRoutes.find? (fun r => rs.contains r && valveIs s r .lockedOut) = none := by
    rw [List.find?_eq_none]
    intro x _
    simpa using fun hin => hx x hin
  simp only [Machine.compare, ht, hw, ha, hany, hl, hfind, Option.isSome_none, Bool.or_self, Bool.false_eq_true, if_false]

theorem agrees_of_closed {rs : List RouteNo} {x : RouteNo} (hx : x ∈ rs) (h : valveIs s x .opened = false) :
    agrees s rs = false := by
  simp only [agrees, Bool.and_eq_false_iff, List.all_eq_false]
  exact .inl ⟨x, hx, by simp [h]⟩

/-- A switch whose target's routes do not show OPEN waits for them in phase 1 (R136). -/
theorem settleSwitch_begun {rs : List RouteNo} {owner : Nat} (hsome : toOpen s rs ≠ [])
    (h : ∀ x ∈ toOpen s rs, Commandable OpensFrom .opening ⟨true, false⟩ s x) :
    Travelled (toOpen s rs) .opening (begunState rs owner s) (settleSwitch (beginSwitch rs owner s)) := by
  have hopening := Travelled.foldl travelled_commandOpen (toOpen s rs) (begunState rs owner s) h
  rw [beginSwitch_eq]
  generalize (toOpen s rs).foldl (fun s r => commandOpen r s) (begunState rs owner s) = t at hopening ⊢
  obtain ⟨x, hx⟩ := List.exists_mem_of_ne_nil _ hsome
  obtain ⟨w, hw⟩ : ∃ w, (⟨rs, owner, .opening, toOpen s rs, [], false, s.stationS⟩ : Switch) = w := ⟨_, rfl⟩
  have hsw : t.rc.switching = some w := by
    rw [hopening.frame, ← hw]
    rfl
  have hnot : ∀ y ∈ w.commanded, ¬There t w y := by
    rw [← hw]
    intro y hy hthere
    have hno := valveIs_ne (w := .opened) (hopening.there y hy) (by simp)
    rcases hthere with hin | hin
    · cases hin
    · simp [phaseEnd, hno] at hin
  have hnote : noteArrivals w t = w := by
    have hempty : (toOpen s rs).filter (fun r => ([] : List RouteNo).contains r || valveIs t r .opened) = [] := by
      rw [List.filter_eq_nil_iff]
      intro y hy
      simp [valveIs_ne (w := .opened) (hopening.there y hy) (by simp)]
    rw [← hw]
    simp only [noteArrivals, phaseEnd, hempty]
  have hsame : t.setSwitch (some w) = t := by
    rw [← hsw]
    rfl
  rw [settleSwitch_waiting hsw ⟨x, by rwa [← hw], hnot x (by rwa [← hw])⟩, hnote, hsame]
  exact hopening

end

/-! ### An arrival (R130) -/

section
variable {s u : State} {r : RouteNo} {v : Valve} {st : ValveState}

/-- The route `r` has entered `st`; nothing but its valve, its limits and the open-order count has changed. -/
structure Entered (r : RouteNo) (st : ValveState) (s u : State) : Prop where
  frame : u = { s with rc := { s.rc with valves := u.rc.valves, limits := u.rc.limits, openOrder := u.rc.openOrder } }
  valve : valveIs u r st = true
  others : ∀ x, x ≠ r → u.rc.valves.get x = s.rc.valves.get x
  limits : ∀ x, x ≠ r → u.rc.limits.get x = s.rc.limits.get x
  limit : u.rc.limits.get r = ⟨st = .opened, st = .closed⟩

theorem Entered.noRoutes (h : Entered r st s u) : u.noRoutes = s.noRoutes := by
  rw [h.frame]
  rfl

theorem Entered.switching (h : Entered r st s u) : u.rc.switching = s.rc.switching := by rw [h.frame]

theorem Entered.handed (h : Entered r st s u) : u.handed = s.handed := by rw [h.frame]

theorem Entered.latch (h : Entered r st s u) : u.rc.latch = s.rc.latch := by rw [h.frame]

theorem Entered.valveIs_ne (h : Entered r st s u) {x : RouteNo} (hx : x ≠ r) (w : ValveState) : valveIs u x w = valveIs s x w :=
  valveIs_of_get (h.others x hx) w

/-- The state with a route's limits recorded. -/
def withLimits (r : RouteNo) (l : Limits) (s : State) : State :=
  { s with rc := { s.rc with limits := s.rc.limits.set r l } }

theorem limitChange_running {o c : Bool} (hrun : s.running = true) (hl : s.rc.limits.get r ≠ ⟨o, c⟩) :
    exec (.valveLimitChange r o c) s = .next (takeLimits r (s.rc.limits.get r) ⟨o, c⟩ (withLimits r ⟨o, c⟩ s)) := by
  simp only [exec, execValveLimitChange, hrun, hl, not_false_eq_true, and_self, if_true, ne_eq]
  rfl

theorem takeLimits_opens {old : Limits} (h : valveState s r = some .opening) :
    takeLimits r old ⟨true, false⟩ s = afterMove (enterOpen 1 r s) := by simp [takeLimits, h]

theorem takeLimits_closes {old : Limits} (h : valveState s r = some .closing) :
    takeLimits r old ⟨false, true⟩ s = afterMove (enterClosed 1 r s) := by simp [takeLimits, h]

/-- An OPENING route arrives at OPEN, a CLOSING one at CLOSED. -/
theorem arrival (p : Phase) (hrun : s.running = true) (h : s.rc.valves.get r = some v) (hn : s.rc.openOrder + 1 < 2 ^ 64)
    (hv : v.state = if p = .opening then .opening else .closing)
    (hl : s.rc.limits.get r ≠ ⟨p = .opening, p = .closing⟩) :
    ∃ u, exec (.valveLimitChange r (p = .opening) (p = .closing)) s = .next (afterMove u) ∧ Entered r (phaseEnd p) s u := by
  have hexec := limitChange_running hrun hl
  cases p with
  | opening =>
    have hstate : valveState (withLimits r ⟨true, false⟩ s) r = some .opening := by
      rw [valveState_eq (s := withLimits r ⟨true, false⟩ s) h, hv]
      rfl
    refine ⟨enterOpen 1 r (withLimits r ⟨true, false⟩ s), hexec.trans (congrArg _ (takeLimits_opens hstate)), ?_⟩
    rw [enterOpen_eq (s := withLimits r ⟨true, false⟩ s) h hn]
    exact ⟨rfl, by simp [valveIs, valveState, openedValve, phaseEnd], fun x hx => PerRoute.get_set_ne _ _ hx,
      fun x hx => PerRoute.get_set_ne _ _ hx, PerRoute.get_set ..⟩
  | closing =>
    have hstate : valveState (withLimits r ⟨false, true⟩ s) r = some .closing := by
      rw [valveState_eq (s := withLimits r ⟨false, true⟩ s) h, hv]
      rfl
    refine ⟨enterClosed 1 r (withLimits r ⟨false, true⟩ s), hexec.trans (congrArg _ (takeLimits_closes hstate)), ?_⟩
    rw [enterClosed_eq (s := withLimits r ⟨false, true⟩ s) h]
    exact ⟨rfl, by simp [valveIs, valveState, closedValve, phaseEnd], fun x hx => PerRoute.get_set_ne _ _ hx,
      fun x hx => PerRoute.get_set_ne _ _ hx, PerRoute.get_set ..⟩

/-- The end of a switch, and the comparison made in the same step (R137). -/
theorem ended {k : EventKind} {o : Nat} {d : Int} (hu : u.noRoutes = s.noRoutes) (hh : u.handed = s.handed)
    (h : settleSwitch u = endSwitch k o d u) :
    ∃ more, (afterMove u).handed = s.handed ++ .eventPosted k o d :: .switchEndHanded :: more
      ∧ afterMove u = { s with rc := (afterMove u).rc, handed := (afterMove u).handed }
      ∧ (target s = none → (afterMove u).rc.switching = none ∧ more = []) := by
  have hmove : afterMove u = Machine.compare (endSwitch k o d u) := by rw [afterMove, h]
  have hend : (endSwitch k o d u).handed = s.handed ++ [.eventPosted k o d, .switchEndHanded] := by simp [endSwitch, hh]
  obtain ⟨more, hmore⟩ := prefix_compare (endSwitch k o d u)
  rw [← hmove, hend] at hmore
  refine ⟨more, by simp [← hmore], eq_of_noRoutes ((afterMove_noRoutes u).trans hu), fun ht => ?_⟩
  have htarget : target (endSwitch k o d u) = none := (target_of_noRoutes hu).trans ht
  rw [hmove, compare_of_target_none htarget]
  rw [hmove, compare_of_target_none htarget, hend] at hmore
  exact ⟨rfl, by simpa using hmore⟩

end

theorem switchGoesOn {r : RouteNo} {v : Valve} {s : State} (hrun : s.running = true) (h : s.rc.valves.get r = some v) :
    Safety.SwitchGoesOn r v s := by
  intro w hw hr hn hv hl
  obtain ⟨u, hexec, hu⟩ := arrival w.phase hrun h hn hv hl
  have huw : u.rc.switching = some w := hu.switching.trans hw
  dsimp only
  rw [hexec]
  have hend : (if w.phase = .opening then ValveState.opened else .closed) = phaseEnd w.phase := by
    cases w.phase <;> simp [phaseEnd]
  have hthere : ∀ x, x ≠ r → (There u w x ↔ x ∈ w.arrived
      ∨ valveIs s x (if w.phase = .opening then .opened else .closed) = true) := by
    intro x hx
    rw [There, hend, hu.valveIs_ne hx]
  have hself : There u w r := .inr hu.valve
  refine ⟨fun ⟨x, hx, hxr, hnot⟩ => ?_, fun hall => ?_⟩
  · have hwait := settleSwitch_waiting huw ⟨x, hx, by rwa [hthere x hxr]⟩
    refine ⟨_, (noteArrivals w u).arrived, rfl, ?_⟩
    rw [afterMove, hwait, compare_switching rfl]
    refine ⟨rfl, ?_, ?_⟩
    · simp only [noteArrivals, List.mem_filter]
      exact ⟨hr, by simp [hu.valve]⟩
    · rw [hu.frame]
      rfl
  · have hover : ∀ x ∈ w.commanded, There u w x := by
      intro x hx
      by_cases hxr : x = r
      · exact hxr ▸ hself
      · exact (hthere x hxr).mpr (hall x hx hxr)
    refine ⟨fun ha => ?_, fun ha hp => ?_, fun ha hp hrt => ?_⟩
    · obtain ⟨more, hmore⟩ := ended hu.noRoutes hu.handed (settleSwitch_ended (advancePhase_abandoned huw hover ha))
      exact ⟨_, more, rfl, hmore⟩
    · obtain ⟨more, hmore⟩ := ended hu.noRoutes hu.handed (settleSwitch_ended (advancePhase_done huw hover ha hp))
      exact ⟨_, more, rfl, hmore⟩
    · have hclose : closingRoutes u w.target = allRoutes.filter
          (fun x => !w.target.contains x && !(x == r) && (valveIs s x .opened || valveIs s x .unknown)) := by
        refine List.filter_congr fun x _ => ?_
        by_cases hxr : x = r
        · subst hxr
          simp [hrt]
        · have hbeq : (x == r) = false := beq_eq_false_iff_ne.mpr hxr
          simp [hbeq, hu.valveIs_ne hxr]
      refine ⟨fun hnone => ?_, fun hsome hlimits => ?_⟩
      · obtain ⟨more, hmore⟩ := ended hu.noRoutes hu.handed
          (settleSwitch_nothingToClose huw hover ha hp (hclose.trans hnone))
        exact ⟨_, more, rfl, hmore⟩
      · have hnot : ∀ x ∈ closingRoutes u w.target, x ≠ r := by
          intro x hx hxr
          rw [hclose, hxr] at hx
          simp at hx
        have htravel := settleSwitch_closing huw hover ha hp (by rwa [hclose]) fun x hx => by
          rw [hu.limits x (hnot x hx)]
          exact hlimits x (hclose ▸ hx)
        have hsw : (settleSwitch u).rc.switching = some (inPhase2 w (closingRoutes u w.target)) := by
          rw [htravel.frame]
          rfl
        have hmove : afterMove u = settleSwitch u := compare_switching hsw
        refine ⟨_, rfl, ?_⟩
        rw [hmove, hsw, ← hclose]
        refine ⟨rfl, htravel.there, ?_, ?_⟩
        · have hvalve := hu.valve
          rw [hp] at hvalve
          exact (valveIs_of_get (htravel.others r fun hin => hnot r hin rfl) .opened).trans hvalve
        · obtain ⟨vs, hvs⟩ : ∃ vs, settleSwitch u = { u with rc := { u.rc with
              switching := some (inPhase2 w (closingRoutes u w.target)), valves := vs } } := ⟨_, htravel.frame⟩
          obtain ⟨rc, hrc⟩ : ∃ rc, u = { s with rc := rc } := ⟨_, hu.frame⟩
          rw [hvs, hrc]

/-- R135, R136: what the arrival of the last travelling route in TRACKING begins. -/
theorem switchIsBegun {r : RouteNo} {v : Valve} {s : State} (hrun : s.running = true) (h : s.rc.valves.get r = some v) :
    Safety.SwitchIsBegun r v s := by
  intro rs owner hmode ht hsw hlatch hv hl htravel ⟨y, hy, hyopen⟩
  have hstate : valveState (withLimits r ⟨false, true⟩ s) r = some .closing := by
    rw [valveState_eq (s := withLimits r ⟨false, true⟩ s) h, hv]
  have hexec := (limitChange_running hrun hl).trans (congrArg _ (takeLimits_closes hstate))
  obtain ⟨u, hdef⟩ : ∃ u, enterClosed 1 r (withLimits r ⟨false, true⟩ s) = u := ⟨_, rfl⟩
  have hu : Entered r .closed s u := by
    rw [← hdef, enterClosed_eq (s := withLimits r ⟨false, true⟩ s) h]
    exact ⟨rfl, by simp [valveIs, valveState, closedValve], fun x hx => PerRoute.get_set_ne _ _ hx,
      fun x hx => PerRoute.get_set_ne _ _ hx, PerRoute.get_set ..⟩
  have huw : u.rc.switching = none := hu.switching.trans hsw
  have hsame : ∀ x w, w ≠ .closed → w ≠ .closing → valveIs u x w = valveIs s x w := by
    intro x w hw hw'
    by_cases hx : x = r
    · subst hx
      rw [EveryStep.valveIs_ne hu.valve hw.symm, valveIs_eq h, hv]
      simpa using hw'.symm
    · exact hu.valveIs_ne hx w
  have hopen : ∀ x, valveIs u x .opened = valveIs s x .opened := fun x => hsame x .opened (by simp) (by simp)
  have hlocked : ∀ x, valveIs u x .lockedOut = valveIs s x .lockedOut := fun x => hsame x .lockedOut (by simp) (by simp)
  have htarget : target u = some (rs, owner) := (target_of_noRoutes hu.noRoutes).trans ht
  have hagree : agrees u rs = false := agrees_of_closed hy (by rw [hopen, hyopen])
  have hcalm : ∀ x, travelling u x = false := by
    intro x
    by_cases hx : x = r
    · subst hx
      simp [travelling, EveryStep.valveIs_ne hu.valve (w := .opening) (by simp),
        EveryStep.valveIs_ne hu.valve (w := .closing) (by simp)]
    · simpa [travelling, hu.valveIs_ne hx] using htravel x hx
  have hmove : afterMove u = Machine.compare u := by rw [afterMove, settleSwitch_none huw]
  dsimp only
  rw [hexec, hdef, hmove]
  refine ⟨fun hno hready => ?_, fun x hx hxl hlow => ?_⟩
  · have hcmd : toOpen u rs = rs.filter (fun x => !valveIs s x .opened) := by simp only [toOpen, hopen]
    have hsome : toOpen u rs ≠ [] := by
      rw [hcmd]
      exact List.ne_nil_of_mem (List.mem_filter.mpr ⟨hy, by simp [hyopen]⟩)
    have hcommandable : ∀ x ∈ toOpen u rs, Commandable OpensFrom .opening ⟨true, false⟩ u x := by
      intro x hx
      rw [hcmd, List.mem_filter] at hx
      obtain ⟨hin, hxopen⟩ := hx
      rw [Bool.not_eq_true'] at hxopen
      obtain ⟨hsome, hlimit⟩ := hready x hin hxopen
      by_cases hxr : x = r
      · subst hxr
        have hclosed := hu.valve
        rw [valveIs_iff, valveState, Option.map_eq_some_iff] at hclosed
        obtain ⟨v', hv', hst⟩ := hclosed
        exact ⟨by rw [hu.limit]; simp, v', hv', .inr (.inl hst)⟩
      · obtain ⟨v', hv'⟩ := Option.isSome_iff_exists.mp hsome
        have hopened := hlimit.resolve_left hxr
        refine ⟨?_, v', (hu.others x hxr).trans hv', ?_⟩
        · rw [hu.limits x hxr]
          intro heq
          simp [heq] at hopened
        · have hcalm' := htravel x hxr
          have hno' := hno x hin
          simp only [travelling, valveIs_eq hv', Bool.or_eq_false_iff] at hcalm' hxopen hno'
          unfold OpensFrom
          cases hst : v'.state <;> simp_all
    have hbegun := settleSwitch_begun (owner := owner) hsome hcommandable
    rw [compare_begins htarget huw hagree hcalm (hu.latch.trans hlatch) fun x hx => by rw [hlocked, hno x hx]]
    generalize settleSwitch (beginSwitch rs owner u) = t at hbegun
    refine ⟨t, rfl, ?_, fun x hx hxo => ?_, fun x hx hxr => ?_, ?_⟩
    · rw [hbegun.frame, ← hcmd, hu.frame]
      rfl
    · exact hbegun.there x (by simp [hcmd, hx, hxo])
    · exact (hbegun.others x fun hin => hx (List.mem_of_mem_filter hin)).trans (hu.others x hxr)
    · obtain ⟨vs, hvs⟩ : ∃ vs, t = { begunState rs owner u with rc := { (begunState rs owner u).rc with valves := vs } } :=
        ⟨_, hbegun.frame⟩
      obtain ⟨rc, hrc⟩ : ∃ rc, u = { s with rc := rc } := ⟨_, hu.frame⟩
      rw [hvs, hrc]
      rfl
  · have hfind : allRoutes.find? (fun x => rs.contains x && valveIs u x .lockedOut) = some x := by
      refine find_lowest (by simp [hx, hlocked, hxl]) fun z hz => ?_
      by_cases hin : z ∈ rs
      · simp [hlocked, hlow z hin hz]
      · simp [hin]
    have hmode' : u.sm.mode ≠ .safe := by
      rw [sm_of_noRoutes hu.noRoutes, hmode]
      simp
    rw [compare_lockedOut htarget huw hagree hcalm (hu.latch.trans hlatch) hfind, if_neg hmode']
    refine ⟨_, rfl, huw, ?_⟩
    obtain ⟨rc, hrc⟩ : ∃ rc, u = { s with rc := rc } := ⟨_, hu.frame⟩
    rw [hrc]
    rfl

end Sys2Proof.Proofs.Routes
end

section
/-! A change of limits where no target stands and no switch is in progress (O30). -/
namespace Sys2Proof.Proofs.Routes

open Sys2Proof Sys2Proof.Machine
open Sys2Proof.Proofs.Answers

section
variable {s : State} {r : RouteNo} {v : Valve} {o c : Bool}

/-- What a change of limits may leave of the state `u` that has recorded it: nothing more, a fault, or an arrival. -/
inductive LimitsTaken (r : RouteNo) (v : Valve) (u : State) : State → Prop
  | recorded : LimitsTaken r v u u
  | fault (k : EventKind) (d : Option Int) : LimitsTaken r v u (withFault k d r v u)
  | opened (drop : Nat) : LimitsTaken r v u (enterOpen drop r u)
  | closed (drop : Nat) : LimitsTaken r v u (enterClosed drop r u)

theorem LimitsTaken.frame {u t : State} (h : LimitsTaken r v u t) : (∀ x, x ≠ r → t.rc.valves.get x = u.rc.valves.get x)
    ∧ t = { u with rc := { u.rc with valves := t.rc.valves, openOrder := t.rc.openOrder }, handed := t.handed } := by
  cases h with
  | recorded => exact ⟨fun _ _ => rfl, rfl⟩
  | fault k d => exact ⟨fun x hx => PerRoute.get_set_ne _ _ hx, rfl⟩
  | opened drop => exact ⟨fun x hx => modValve_get_ne _ hx, rfl⟩
  | closed drop => exact ⟨fun x hx => modValve_get_ne _ hx, rfl⟩

variable {u : State} (ht : Untargeted u) (hw : u.rc.switching = none) (h : u.rc.valves.get r = some v)
include ht hw h

theorem afterFault_faultRoute (k : EventKind) (d : Option Int) (b : Bool) :
    afterFault r b (faultRoute k d r u) = withFault k d r v u := by
  rw [faultRoute_eq h]
  exact afterFault_uninvolved (s := withFault k d r v u) ht (involved_none hw) b

omit h in
theorem afterMove_enterOpen (drop : Nat) : afterMove (enterOpen drop r u) = enterOpen drop r u :=
  afterMove_idle (s := enterOpen drop r u) ht hw

omit h in
theorem afterMove_enterClosed (drop : Nat) : afterMove (enterClosed drop r u) = enterClosed drop r u :=
  afterMove_idle (s := enterClosed drop r u) ht hw

/-- R130, R131: the cases of a change of limits, where nothing follows it. -/
theorem takeLimits_idle (old : Limits) : takeLimits r old ⟨o, c⟩ u = match v.state with
    | .opening => if o && c then withFault .valveSwitchFault none r v u else if o then enterOpen 1 r u else u
    | .closing => if o && c then withFault .valveSwitchFault none r v u else if c then enterClosed 1 r u else u
    | .opened =>
      if old.opened && !o then withFault .valveUncommanded (some 1) r v u
      else if c && !old.closed then withFault .valveSwitchFault none r v u
      else u
    | .closed =>
      if old.closed && !c then withFault .valveUncommanded (some 2) r v u
      else if o && !old.opened then withFault .valveSwitchFault none r v u
      else u
    | .unknown =>
      if o && c then withFault .valveSwitchFault none r v u
      else if o then enterOpen 0 r u
      else if c then enterClosed 0 r u
      else u
    | .fault => u
    | .lockedOut => u := by
  simp only [takeLimits, valveState_eq h, afterFault_faultRoute ht hw h, afterMove_enterOpen ht hw,
    afterMove_enterClosed ht hw]
  cases v.state <;> rfl

theorem limitsTaken (old : Limits) : LimitsTaken r v u (takeLimits r old ⟨o, c⟩ u) := by
  rw [takeLimits_idle ht hw h old]
  cases v.state with
  | opening | closing | opened | closed =>
    dsimp only
    split
    · exact .fault ..
    · split <;> constructor
  | unknown =>
    dsimp only
    split
    · exact .fault ..
    · split
      · exact .opened 0
      · split <;> constructor
  | fault | lockedOut => exact .recorded

end

/-- Settles O30. -/
theorem limitChangeMovesTheValve : Obligations.LimitChangeMovesTheValve := by
  refine ⟨fun r v s hrun h => ⟨switchGoesOn hrun h, switchIsBegun hrun h⟩, fun r v o c s hrun hmode hw h hl hn => ?_⟩
  have ht : Untargeted (withLimits r ⟨o, c⟩ s) := by rcases hmode with hm | hm <;> simp [Untargeted, withLimits, hm]
  have hvalve : (withLimits r ⟨o, c⟩ s).rc.valves.get r = some v := h
  obtain ⟨hothers, hframe⟩ := (limitsTaken (o := o) (c := c) ht hw hvalve (s.rc.limits.get r)).frame
  have hcases := takeLimits_idle (o := o) (c := c) ht hw hvalve (s.rc.limits.get r)
  have hlimits : (takeLimits r (s.rc.limits.get r) ⟨o, c⟩ (withLimits r ⟨o, c⟩ s)).rc.limits = s.rc.limits.set r ⟨o, c⟩ := by
    rw [hframe]
    rfl
  have hself : ∀ k d, (withFault k d r v (withLimits r ⟨o, c⟩ s)).rc.valves.get r = some (Safety.Faulted s v r) := fun _ _ =>
    withFault_valve ..
  have hposted : ∀ k d, Instr.eventPosted k (routeNumber r) (d.getD ((min 7 (v.faults + 1) : Nat) : Int))
      ∈ (withFault k d r v (withLimits r ⟨o, c⟩ s)).handed := fun k d =>
    List.mem_append_right _ (List.mem_cons_self ..)
  have hposted' := hposted .valveSwitchFault none
  rw [Option.getD_none, Nat.cast_min, Nat.cast_add] at hposted'
  have hopen := fun drop => enterOpen_eq (s := withLimits r ⟨o, c⟩ s) hvalve hn drop
  have hclosed := fun drop => enterClosed_eq (s := withLimits r ⟨o, c⟩ s) hvalve drop
  refine ⟨_, limitChange_running hrun hl, hlimits, hothers, ?_, fun hv ho hc => ?_, fun hv ho hc => ?_, fun hv ho hc => ?_,
    fun hv ho => ?_, fun hv hold ho => ?_, fun hv hold hc => ?_, fun hv ho hc => ?_, fun hv => ?_⟩
  · conv_lhs => rw [hframe]
    rw [hlimits]
    rfl
  · subst ho hc
    rw [hv] at hcases
    have hres := hcases.trans (hopen 1)
    rw [hres]
    exact ⟨PerRoute.get_set .., rfl⟩
  · subst ho hc
    rw [hv] at hcases
    have hres := hcases.trans (hclosed 1)
    rw [hres]
    exact ⟨PerRoute.get_set .., rfl⟩
  · subst ho hc
    have hres : takeLimits r (s.rc.limits.get r) ⟨true, true⟩ (withLimits r ⟨true, true⟩ s)
        = withFault .valveSwitchFault none r v (withLimits r ⟨true, true⟩ s) := by
      rcases hv with hv | hv <;> exact hcases.trans (by rw [hv]; rfl)
    rw [hres]
    exact ⟨hself .., hposted'⟩
  · subst ho
    rw [hv] at hcases
    have hres : takeLimits r (s.rc.limits.get r) ⟨false, c⟩ (withLimits r ⟨false, c⟩ s) = withLimits r ⟨false, c⟩ s := hcases
    rw [hres]
    exact ⟨hvalve, rfl⟩
  · subst ho
    rw [hv] at hcases
    have hres := hcases.trans (if_pos (by simp [hold]))
    rw [hres]
    exact ⟨hself .., hposted .valveUncommanded (some 1)⟩
  · subst hc
    rw [hv] at hcases
    have hres := hcases.trans (if_pos (by simp [hold]))
    rw [hres]
    exact ⟨hself .., hposted .valveUncommanded (some 2)⟩
  · subst ho hc
    rw [hv] at hcases
    have hres := hcases.trans (hopen 0)
    rw [hres]
    exact PerRoute.get_set ..
  · have hres : takeLimits r (s.rc.limits.get r) ⟨o, c⟩ (withLimits r ⟨o, c⟩ s) = withLimits r ⟨o, c⟩ s := by
      rcases hv with hv | hv <;> exact hcases.trans (by rw [hv])
    rw [hres]
    exact ⟨hvalve, rfl⟩

end Sys2Proof.Proofs.Routes
end

section
/-! The changes of mode: SET MODE and the demands (O26, O27). -/
namespace Sys2Proof.Proofs.Modes

open Sys2Proof Sys2Proof.Machine
open Sys2Proof.Proofs.Answers Sys2Proof.Proofs.Routes
open Sys2Proof.Proofs.EveryStep (sm_of_noRoutes)

/-! ### The safe-line-up latch (R135) -/

section
variable {s : State}

theorem foldl_latch {f : State → RouteNo → State} (h : ∀ s r, (f s r).rc.latch = s.rc.latch) (rs : List RouteNo) (s : State) :
    (rs.foldl f s).rc.latch = s.rc.latch := by
  induction rs generalizing s with
  | nil => rfl
  | cons r rs ih => exact (ih _).trans (h s r)

theorem commandOpen_latch (s : State) (r : RouteNo) : (commandOpen r s).rc.latch = s.rc.latch := by
  unfold commandOpen
  split <;> [split; skip] <;> rfl

theorem commandClose_latch (s : State) (r : RouteNo) : (commandClose r s).rc.latch = s.rc.latch := by
  unfold commandClose
  split <;> [split; skip] <;> rfl

theorem beginSwitch_latch (rs : List RouteNo) (o : Nat) (s : State) : (beginSwitch rs o s).rc.latch = s.rc.latch :=
  foldl_latch (f := fun s r => commandOpen r s) (fun s r => commandOpen_latch s r) _ (begunState rs o s)

theorem advancePhase_latch (s : State) : (advancePhase s).rc.latch = s.rc.latch := by
  unfold advancePhase
  split
  · rfl
  · dsimp only
    split
    · split
      · rfl
      · split
        · exact foldl_latch (f := fun s r => commandClose r s) (fun s r => commandClose_latch s r) _ (s.setSwitch _)
        · rfl
    · rfl

theorem settleSwitch_latch (s : State) : (settleSwitch s).rc.latch = s.rc.latch :=
  (advancePhase_latch _).trans (advancePhase_latch s)

/-- Outside SAFE a comparison leaves the latch alone. -/
theorem compare_latch (h : s.sm.mode ≠ .safe) : (Machine.compare s).rc.latch = s.rc.latch := by
  unfold Machine.compare
  split
  · rfl
  · split
    · rfl
    · split
      · rfl
      · exact (settleSwitch_latch _).trans (beginSwitch_latch ..)

end

/-! ### A change of mode (R145) -/

section
variable {s : State} {old new : StationMode}

theorem clearLatchFrom_eq (old : StationMode) (s : State) :
    clearLatchFrom old s = { s with rc := { s.rc with latch := (clearLatchFrom old s).rc.latch } } := by
  unfold clearLatchFrom
  split <;> rfl

theorem markAbandon_of_idle (h : new = .hold ∨ new = .manual) (s : State) :
    markAbandon new s = s.setSwitch (s.rc.switching.map (fun w => { w with abandon := true })) := if_pos h

theorem markAbandon_noRoutes (new : StationMode) (s : State) : (markAbandon new s).noRoutes = s.noRoutes := by
  unfold markAbandon
  split <;> rfl

theorem clearLatchFrom_noRoutes (old : StationMode) (s : State) : (clearLatchFrom old s).noRoutes = s.noRoutes := by
  unfold clearLatchFrom
  split <;> rfl

theorem takeMode_noRoutes (old new : StationMode) (s : State) : (takeMode old new s).noRoutes = s.noRoutes := by
  rw [takeMode, compare_noRoutes, markAbandon_noRoutes, clearLatchFrom_noRoutes]

theorem takeMode_handed (old new : StationMode) (s : State) : ∃ more, (takeMode old new s).handed = s.handed ++ more := by
  have hsame : (markAbandon new (clearLatchFrom old s)).handed = s.handed := by
    unfold markAbandon clearLatchFrom
    split <;> split <;> rfl
  obtain ⟨more, hmore⟩ := prefix_compare (markAbandon new (clearLatchFrom old s))
  exact ⟨more, by rw [takeMode, ← hmore, hsame]⟩

/-- R138: a change to HOLD or MANUAL leaves the valves and marks the switch in progress to be abandoned. -/
theorem takeMode_idle (h : new = .hold ∨ new = .manual) (hmode : s.sm.mode = new) :
    (takeMode old new s).rc.valves = s.rc.valves
      ∧ (takeMode old new s).rc.switching = s.rc.switching.map (fun w => { w with abandon := true }) := by
  have ht : Untargeted (markAbandon new (clearLatchFrom old s)) := by
    rw [Untargeted, sm_of_noRoutes (markAbandon_noRoutes ..), sm_of_noRoutes (clearLatchFrom_noRoutes ..), hmode]
    rcases h with rfl | rfl <;> simp
  rw [takeMode, compare_untargeted ht, markAbandon_of_idle h, clearLatchFrom_eq]
  exact ⟨rfl, rfl⟩

/-- R135: a change from SAFE leaves the latch clear. -/
theorem takeMode_latch (hnew : new ≠ .safe) (hmode : s.sm.mode = new) : (takeMode .safe new s).rc.latch = false := by
  have hsm : (markAbandon new (clearLatchFrom .safe s)).sm.mode ≠ .safe := by
    rwa [sm_of_noRoutes (markAbandon_noRoutes ..), sm_of_noRoutes (clearLatchFrom_noRoutes ..), hmode]
  rw [takeMode, compare_latch hsm]
  unfold markAbandon
  split <;> rfl

/-- R145: a change of mode is what `Safety.ModeChanged` says, and changes the mode, the routes and the hand-offs alone. -/
theorem modeChanged (new : StationMode) (c : ModeCause) (s : State) :
    Safety.ModeChanged s (changeMode new c s) new (modeCauseCode c)
      ∧ changeMode new c s
        = { s with sm := (changeMode new c s).sm, rc := (changeMode new c s).rc, handed := (changeMode new c s).handed } := by
  have hframe := takeMode_noRoutes s.sm.mode new (recordMode new c s)
  refine ⟨⟨sm_of_noRoutes hframe, ?_, fun h => takeMode_idle h rfl, fun h hnew => ?_⟩, ?_⟩
  · obtain ⟨more, hmore⟩ := takeMode_handed s.sm.mode new (recordMode new c s)
    refine ⟨more, ?_⟩
    rw [changeMode, hmore]
    simp [recordMode]
  · rw [changeMode, h]
    exact takeMode_latch hnew rfl
  · have hrest := eq_of_noRoutes hframe
    have hsm := sm_of_noRoutes hframe
    unfold changeMode
    rw [hsm]
    exact hrest

/-- Settles O26. -/
theorem setModeIsJudgedAndTaken : Obligations.SetModeIsJudgedAndTaken := by
  refine ⟨fun new s hrun hnew => ⟨fun hjudged => ?_, fun hsame => ?_⟩, fun s hrun => ⟨fun code h1 h2 h3 => ?_, fun hmode => ?_,
    fun hmode => ⟨?_, fun hw => ?_, fun hw r hr hlow => ?_⟩⟩⟩
  · have hrequest : requestedMode (modeCode new) = some new := by rcases hnew with rfl | rfl | rfl <;> rfl
    have haccept : judgeMode new s = .accept := by
      rcases hjudged with ⟨hm, rfl, hmask⟩ | ⟨hm, hne⟩ | ⟨hm, rfl⟩ | ⟨hm, rfl, hw, hfault⟩
      · simp [judgeMode, hm, hmask]
      · rcases hm with hm | hm | hm <;> rw [hm] at hne <;> simp [judgeMode, hm, hne]
      · simp [judgeMode, hm]
      · have hnone : firstFault s = none := by simp [firstFault, hfault]
        simp [judgeMode, hm, hw, hnone]
    obtain ⟨hchanged, hframe⟩ := modeChanged new .setMode s
    have hmode : (changeMode new .setMode s).sm.mode = new := by rw [hchanged.1]
    have hexec : exec (.setMode (modeCode new)) s
        = .next ((changeMode new .setMode s).accept 0x20 (encUnsigned 1 (modeCode new))) := by
      simp only [exec, execSetMode, request_running hrun, hrequest, haccept, hmode]
      rfl
    refine ⟨_, hexec, hchanged, ?_, ?_⟩
    · rw [hframe]
      rfl
    · obtain ⟨sm, rc, xs, hx⟩ : ∃ sm rc xs, changeMode new .setMode s = { s with sm := sm, rc := rc, handed := xs } :=
        ⟨_, _, _, hframe⟩
      rw [hx]
      rfl
  · have hrequest : requestedMode (modeCode new) = some new := by rcases hnew with rfl | rfl | rfl <;> rfl
    have hkeep : judgeMode new s = .keep := by rcases hnew with rfl | rfl | rfl <;> simp [judgeMode, ← hsame]
    simp only [exec, execSetMode, request_running hrun, hrequest, hkeep, ← hsame]
    rfl
  · have hrequest : requestedMode code = none := by
      unfold requestedMode
      split <;> first | contradiction | rfl
    simp [exec, execSetMode, request_running hrun, hrequest]
  · refine ⟨?_, ?_, fun hmask => ?_⟩ <;> simp_all [exec, execSetMode, request_running hrun, requestedMode, judgeMode]
  · simp [exec, execSetMode, request_running hrun, requestedMode, judgeMode, hmode]
  · simp [exec, execSetMode, request_running hrun, requestedMode, judgeMode, hmode, Option.isSome_iff_ne_none.mpr hw]
  · have hfirst : firstFault s = some r := find_lowest hr hlow
    simp [exec, execSetMode, request_running hrun, requestedMode, judgeMode, hmode, hw, hfirst]

/-- Settles O27. -/
theorem demandsChangeTheMode : Obligations.DemandsChangeTheMode := by
  refine ⟨fun r c s hrun => ⟨fun hmode => ?_, fun hmode => ?_⟩, fun s hrun => ⟨fun hmode => ?_, fun hmode => ?_⟩⟩
  · have hmode' : (s.take (.safeDemand r c)).sm.mode = .tracking := hmode
    have hexec : exec (.safeDemand r c) s = .next (takeMode .tracking .safe
        ((recordMode .safe .safeDemand (s.take (.safeDemand r c))).post .safeEntered (routeNumber r) (safeCauseCode c))) := by
      simp only [exec, execSafeDemand, event_running hrun, takeSafeDemand, hmode', if_true]
    obtain ⟨more, hmore⟩ := takeMode_handed .tracking .safe
      ((recordMode .safe .safeDemand (s.take (.safeDemand r c))).post .safeEntered (routeNumber r) (safeCauseCode c))
    have hframe := takeMode_noRoutes .tracking .safe
      ((recordMode .safe .safeDemand (s.take (.safeDemand r c))).post .safeEntered (routeNumber r) (safeCauseCode c))
    have hsm := sm_of_noRoutes hframe
    refine ⟨_, more, hexec, hsm, ?_, ?_⟩
    · rw [hmore]
      cases c <;> simp [recordMode, Instr.canonical, modeCauseCode, modeCode, safeCauseCode, hmode]
    · rw [hsm]
      exact eq_of_noRoutes hframe
  · have hmode' : (s.take (.safeDemand r c)).sm.mode ≠ .tracking := hmode
    simp only [exec, execSafeDemand, event_running hrun, takeSafeDemand, hmode', if_false]
  · have hexec : exec .holdDemand s = .next (changeMode .hold .overflow (s.take .holdDemand)) := by
      simp only [exec, execHoldDemand, event_running hrun, takeHoldDemand, State.take_sm]
      rcases hmode with hm | hm | hm <;> rw [hm]
    obtain ⟨hchanged, hframe⟩ := modeChanged .hold .overflow (s.take .holdDemand)
    exact ⟨_, hexec, hchanged, hframe⟩
  · simp only [exec, execHoldDemand, event_running hrun, takeHoldDemand, State.take_sm]
    rcases hmode with hm | hm <;> rw [hm]

end

end Sys2Proof.Proofs.Modes
end

section
/-! ACK TICKET, the refusals of the notices, and the standstill counts (O33, O35, O41). -/
namespace Sys2Proof.Proofs.Train

open Sys2Proof Sys2Proof.Machine
open Sys2Proof.Proofs.Answers
open Sys2Proof.Proofs.EveryStep (judgeIfChanged_eq)

section
variable {s : State} {id : Nat}

theorem notice_running {c : Nat} {k : State → State} (hrun : s.running = true) (hmode : s.sm.mode ≠ .unconfigured) :
    notice c k s = .next (k s) := by
  rw [notice, request_running hrun, if_neg hmode]

theorem notice_unconfigured {c : Nat} {k : State → State} (hrun : s.running = true) (hmode : s.sm.mode = .unconfigured) :
    notice c k s = .next (s.refuse c .wrongMode 0) := by
  rw [notice, request_running hrun, if_pos hmode]

/-! ### ACK TICKET (R164, R166) -/

/-- R162: the routes of a ticket, told apart by their litres. -/
theorem ticketRoutes_eq (tb : Tables) (d : Delivery) : ticketRoutes tb d
    = (allRoutes.filter (fun r => (tb.routes.get r).isSome && decide (1000 ≤ d.routes.get r))).map
        (fun r => ⟨r, min (d.routes.get r / 1000) 4294967295⟩) := by
  have hlitre : ∀ r, (0 < min (d.routes.get r / 1000) 4294967295) = (1000 ≤ d.routes.get r) := fun r =>
    propext ⟨fun h => by omega, fun h => by omega⟩
  simp only [ticketRoutes, ticketLitres, Config.u32Max, List.filter_map]
  refine congrArg _ (List.filter_congr fun r _ => ?_)
  simp only [Function.comp_apply, hlitre]

theorem find_ticket_isSome (h : ∃ k ∈ s.ts, k.id = id) : ∃ t, s.ts.find? (fun t => t.id == id) = some t :=
  Option.isSome_iff_exists.mp (List.find?_isSome.mpr (by simpa using h))

theorem find_ticket_none (h : ∀ k ∈ s.ts, k.id ≠ id) : s.ts.find? (fun t => t.id == id) = none :=
  List.find?_eq_none.mpr (by simpa using h)

/-- The state without the acknowledged ticket, ATTN judged where the store is then empty (R172). -/
def ticketGone (id : Nat) (s : State) : State :=
  { s with
    ts := s.ts.eraseP (fun k => k.id == id)
    el := { s.el with
      attn := if s.ts.eraseP (fun k => k.id == id) = [] then attnWanted { s with ts := [] } else s.el.attn } }

theorem judgeIfChanged_ticketGone (hrun : s.running = true) (h : ∃ k ∈ s.ts, k.id = id) :
    judgeIfChanged s.ts.isEmpty { s with ts := s.ts.eraseP (fun k => k.id == id) } = ticketGone id s := by
  obtain ⟨k, hk, -⟩ := h
  have hfull : s.ts.isEmpty = false := List.isEmpty_eq_false_iff.mpr (List.ne_nil_of_mem hk)
  rw [hfull, judgeIfChanged, ticketGone]
  by_cases hrest : s.ts.eraseP (fun k => k.id == id) = []
  · rw [hrest, if_neg (by simp), judgeAttn_running (by exact hrun)]
    rfl
  · have hne : (s.ts.eraseP fun k => k.id == id).isEmpty = false := List.isEmpty_eq_false_iff.mpr hrest
    simp only [hne, beq_self_eq_true, if_true, hrest, if_false]

theorem ackTicket_found (hrun : s.running = true) (hid : id ≠ 0) (h : ∃ k ∈ s.ts, k.id = id) :
    exec (.ackTicket id) s = .next ((releaseFront (ticketGone id s)).accept 0x09
      (enc1 (releaseFront (ticketGone id s)).ts.length)) := by
  obtain ⟨t, ht⟩ := find_ticket_isSome h
  simp only [exec, execAckTicket, request_running hrun, hid, if_false, ht, acknowledge, judgeIfChanged_ticketGone hrun h]

/-- R160: the ticket of the front entry goes to the back of the store. -/
theorem issueTicket_front {e : Entry} {back : List Entry} (h : s.lt.train = e :: back) :
    ∃ attn, issueTicket e s = ({ s with
      lt := { s.lt with train := back }
      ts := s.ts ++ [formTicket s.tables e ((behindOf e.id s.lt.train).bind (·.leading))]
      el := { s.el with attn := attn } } : State).post .ticketReady e.id (s.ts.length + 1) := by
  have herase : s.lt.train.eraseP (fun x => x.id == e.id) = back := by simp [h]
  obtain ⟨attn, hjudged, -, -⟩ := judgeIfChanged_eq s.ts.isEmpty { s.setTrain back with
    ts := s.ts ++ [formTicket s.tables e ((behindOf e.id s.lt.train).bind (·.leading))] }
  refine ⟨attn, ?_⟩
  simp only [issueTicket, herase, hjudged]
  rfl

/-- Settles O33. -/
theorem ackTicketFreesAPlace : Obligations.AckTicketFreesAPlace := by
  refine fun id s hrun => ⟨fun hid => ?_, fun hid hno => ?_, fun hid hin => ⟨fun hfront => ?_, fun e back htrain hc => ?_⟩⟩
  · simp [exec, execAckTicket, request_running hrun, hid]
  · simp [exec, execAckTicket, request_running hrun, hid, find_ticket_none hno]
  · have hstay : releaseFront (ticketGone id s) = ticketGone id s := by
      have htrain : (ticketGone id s).lt.train = s.lt.train := rfl
      unfold releaseFront
      rw [htrain]
      split
      next e _ heq =>
        rw [if_neg]
        simp [hfront e (by simp [heq])]
      next => rfl
    rw [ackTicket_found hrun hid hin, hstay]
    rfl
  · obtain ⟨attn, hissued⟩ := issueTicket_front (s := ticketGone id s) htrain
    have hrelease : releaseFront (ticketGone id s) = issueTicket e (ticketGone id s) := by
      have htrain' : (ticketGone id s).lt.train = e :: back := htrain
      simp only [releaseFront, htrain', hc, if_true]
    rw [ackTicket_found hrun hid hin, hrelease, hissued]
    refine ⟨_, _, rfl, rfl, rfl, rfl, rfl, rfl, rfl, rfl, ticketRoutes_eq .., ?_⟩
    simp [ticketGone, State.accept, State.reply, State.post, State.hand, enc1]

/-! ### The refusals of a launch (R12) -/

section
variable {product density launched : Nat} {p : ProductEntry}

theorem launchFieldsBad_iff : (id = 0 ∨ product < 1 ∨ Config.maxProduct < product ∨ density < 5000 ∨ 11000 < density
      ∨ (launched ≠ 0 ∧ launchedInRange launched = false))
    ↔ (id = 0 ∨ product = 0 ∨ 24 < product ∨ density < 5000 ∨ 11000 < density ∨ 2000000000 < launched) := by
  simp only [launchedInRange, decide_eq_false_iff_not, Config.maxProduct]
  omega

theorem launchRefusal_fields (hid : id ≠ 0) (hp1 : 1 ≤ product) (hp2 : product ≤ 24) (hd1 : 5000 ≤ density)
    (hd2 : density ≤ 11000) (hl : launched ≤ 2000000000) : launchRefusal id product density launched s
      = match productOf s.tables product with
        | none => some .unknownProduct
        | some p =>
          if density < p.dmin ∨ p.dmax < density then some .badValue
          else if idHeld s id then some .duplicateId
          else if tailOpen s.lt.train then some .tailOpen
          else if Config.maxTrain ≤ s.lt.train.length then some .trainFull
          else none :=
  if_neg fun h => by have := launchFieldsBad_iff.mp h; omega

theorem launchRefusal_product (hid : id ≠ 0) (hp1 : 1 ≤ product) (hp2 : product ≤ 24) (hd1 : 5000 ≤ density)
    (hd2 : density ≤ 11000) (hl : launched ≤ 2000000000) (hp : productOf s.tables product = some p) (hmin : p.dmin ≤ density)
    (hmax : density ≤ p.dmax) : launchRefusal id product density launched s
      = if idHeld s id then some .duplicateId
        else if tailOpen s.lt.train then some .tailOpen
        else if Config.maxTrain ≤ s.lt.train.length then some .trainFull
        else none := by
  rw [launchRefusal_fields hid hp1 hp2 hd1 hd2 hl, hp]
  exact if_neg (by omega)

theorem idHeld_iff : idHeld s id = true ↔ (∃ e ∈ s.lt.train, e.id = id) ∨ ∃ k ∈ s.ts, k.id = id := by
  simp [idHeld]

theorem idHeld_false (h : ∀ e ∈ s.lt.train, e.id ≠ id) (ht : ∀ k ∈ s.ts, k.id ≠ id) : idHeld s id = false := by
  simpa [idHeld] using ⟨h, ht⟩

end

end

/-- Settles O35. -/
theorem noticesAreRefused : Obligations.NoticesAreRefused := by
  refine ⟨fun id product density launched s hrun hmode => ?_, fun a b c d x s hrun hmode => ?_⟩
  · have answer : ∀ c, launchRefusal id product density launched s = some c →
        exec (.batchLaunch id product density launched) s = .next (s.refuse 0x10 c 0) := fun c hc => by
      simp only [exec, execBatchLaunch, notice_running hrun hmode, hc]
    refine ⟨fun hbad => answer _ ?_, fun hid hp1 hp2 hd1 hd2 hl => ⟨fun hno => answer _ ?_, fun p hp hout => answer _ ?_⟩,
      fun ⟨hid, hp1, hp2, hd1, hd2, hl, p, hp, hmin, hmax⟩ => ⟨fun hheld => answer _ ?_, fun hfree htickets =>
        ⟨fun b hb hopen => answer _ ?_, fun b v hb hv hfull => answer _ ?_⟩⟩⟩
    · rw [launchRefusal, if_pos (launchFieldsBad_iff.mpr hbad)]
    · rw [launchRefusal_fields hid hp1 hp2 hd1 hd2 hl, hno]
    · rw [launchRefusal_fields hid hp1 hp2 hd1 hd2 hl, hp]
      exact if_pos hout
    · rw [launchRefusal_product hid hp1 hp2 hd1 hd2 hl hp hmin hmax, idHeld_iff.mpr hheld]
      rfl
    · rw [launchRefusal_product hid hp1 hp2 hd1 hd2 hl hp hmin hmax, idHeld_false hfree htickets]
      simp [tailOpen, hb, hopen]
    · rw [launchRefusal_product hid hp1 hp2 hd1 hd2 hl hp hmin hmax, idHeld_false hfree htickets]
      simp [tailOpen, hb, hv, Config.maxTrain, hfull]
  · simp only [exec, execBatchLaunch, execBatchClose, execBatchAdjust, execBatchPlan, execBatchWithdraw, execInterfaceDecide,
      notice_unconfigured hrun hmode, and_self]

/-- Settles O41. -/
theorem standstillRaisesFarCounts : Obligations.StandstillRaisesFarCounts := by
  intro s hrun
  refine ⟨_, event_running hrun, rfl, by simp, fun k e he => ⟨fun i hi hfar => ?_, fun hnot => ?_⟩⟩
  · simp [he, raiseStandstill, hi, hfar, satInc]
  · have hsame : raiseStandstill e = e := by
      have hmap : e.leading.map (fun i => if i.track = .far then { i with standstills := satInc 255 i.standstills } else i)
          = e.leading := by
        cases hi : e.leading with
        | none => rfl
        | some i => simp [hnot i hi]
      simp only [raiseStandstill, hmap]
    simp [he, hsame]

end Sys2Proof.Proofs.Train
end

section
/-! The train's look-ups after a change of its entries, the body line-up as plan, and the notices that change the train
(O34, O36, O37). -/
namespace Sys2Proof.Proofs.Train

open Sys2Proof Sys2Proof.Machine
open Sys2Proof.Proofs.Answers Sys2Proof.Proofs.Routes
open Sys2Proof.Proofs.EveryStep (derived_rederive)

/-! ### Look-ups in a changed train -/

section
variable {t : List Entry} {g : Entry → Entry} {id x : Nat}

theorem findEntry_map (hg : ∀ e, (g e).id = e.id) : findEntry x (t.map g) = (findEntry x t).map g := by
  have hsame : ((fun e => e.id == x) ∘ g) = fun e : Entry => e.id == x := funext fun e => by simp [hg]
  rw [findEntry, List.find?_map, hsame]
  rfl

theorem behindOf_map (hg : ∀ e, (g e).id = e.id) : behindOf x (t.map g) = (behindOf x t).map g := by
  induction t with
  | nil => rfl
  | cons e rest ih =>
    simp only [List.map_cons, behindOf, hg]
    split
    · simp
    · exact ih

theorem aheadOf_map (hg : ∀ e, (g e).id = e.id) : aheadOf x (t.map g) = (aheadOf x t).map g := by
  induction t with
  | nil => rfl
  | cons a rest ih =>
    cases rest with
    | nil => rfl
    | cons b rest =>
      simp only [List.map_cons, aheadOf, hg]
      split
      · rfl
      · exact ih

theorem manifoldOf_map (hc : ∀ e, (g e).complete = e.complete) : manifoldOf (t.map g) = (manifoldOf t).map g := by
  have hsame : ((fun e => !e.complete) ∘ g) = fun e : Entry => !e.complete := funext fun e => by simp [hc]
  rw [manifoldOf, List.find?_map, hsame]
  rfl

/-- What `modEntry` does to one entry. -/
def changed (id : Nat) (f : Entry → Entry) (e : Entry) : Entry := if e.id == id then f e else e

theorem modEntry_eq_map (id : Nat) (f : Entry → Entry) (t : List Entry) : modEntry id f t = t.map (changed id f) := rfl

variable {f : Entry → Entry}

theorem changed_id (hf : ∀ e, (f e).id = e.id) (e : Entry) : (changed id f e).id = e.id := by
  unfold changed
  split <;> simp [hf]

theorem changed_self {e : Entry} (h : e.id = id) : changed id f e = f e := by simp [changed, h]

theorem changed_other {e : Entry} (h : e.id ≠ id) : changed id f e = e := by simp [changed, h]

theorem changed_field {α : Type} {p : Entry → α} (hf : ∀ e, p (f e) = p e) (e : Entry) : p (changed id f e) = p e := by
  unfold changed
  split <;> simp [hf]

theorem findEntry_id {e : Entry} (h : findEntry x t = some e) : e.id = x := by
  have := List.find?_some h
  simpa using this

theorem findEntry_modEntry (hf : ∀ e, (f e).id = e.id) : findEntry id (modEntry id f t) = (findEntry id t).map f := by
  rw [modEntry_eq_map, findEntry_map (changed_id hf)]
  cases h : findEntry id t with
  | none => rfl
  | some e => exact congrArg some (changed_self (findEntry_id h))

theorem behindOf_modEntry (hf : ∀ e, (f e).id = e.id) : behindOf x (modEntry id f t) = (behindOf x t).map (changed id f) :=
  behindOf_map (changed_id hf)

end

/-! ### The body line-up as plan (R111, R117) -/

section
variable {s : State} {rs : List RouteNo} {k : PlanKind} {o : Nat}

theorem applyPlan_some (h : rs ≠ []) : applyPlan rs k o s = s.setPlan (some ⟨rs, o, k⟩) := by
  cases rs with
  | nil => exact absurd rfl h
  | cons r rest => rfl

theorem applyPlan_frame (rs : List RouteNo) (k : PlanKind) (o : Nat) (s : State) :
    ∃ p more, applyPlan rs k o s = { s with cp := { s.cp with plan := p }, handed := s.handed ++ more } := by
  cases rs with
  | nil => exact ⟨_, _, rfl⟩
  | cons r rest => exact ⟨some ⟨r :: rest, o, k⟩, [], by simp [applyPlan, State.setPlan]⟩

theorem compare_frame (s : State) : ∃ rc more, Machine.compare s = { s with rc := rc, handed := s.handed ++ more } := by
  obtain ⟨more, hmore⟩ := prefix_compare s
  refine ⟨(Machine.compare s).rc, more, ?_⟩
  rw [hmore]
  exact eq_of_noRoutes (compare_noRoutes s)

/-- The body line-up of a batch as plan, and the comparison that follows, change the plan, the routes and the hand-offs. -/
theorem planBody_frame (id : Nat) (s : State) : ∃ p rc more, planBody id s
    = { s with cp := { s.cp with plan := p }, rc := rc, handed := s.handed ++ more } := by
  obtain ⟨p, xs, hplan⟩ := applyPlan_frame (formLineup s (.bodyOf id)) .body id s
  obtain ⟨rc, ys, hcompare⟩ := compare_frame (applyPlan (formLineup s (.bodyOf id)) .body id s)
  refine ⟨p, rc, xs ++ ys, ?_⟩
  rw [planBody, hcompare, hplan]
  simp

theorem planBody_plan {id : Nat} (hrs : formLineup s (.bodyOf id) = rs) (h : rs ≠ []) :
    (planBody id s).cp.plan = some ⟨rs, id, .body⟩ := by
  obtain ⟨rc, more, hcompare⟩ := compare_frame (applyPlan (formLineup s (.bodyOf id)) .body id s)
  rw [planBody, hcompare, hrs, applyPlan_some h]
  rfl

theorem planBody_untargeted {id : Nat} (ht : Untargeted s) : planBody id s = applyPlan (formLineup s (.bodyOf id)) .body id s := by
  obtain ⟨p, more, hplan⟩ := applyPlan_frame (formLineup s (.bodyOf id)) .body id s
  refine compare_untargeted ?_
  rw [hplan]
  exact ht

end

/-! ### BATCH LAUNCH (R8, R12, R111) -/

section
variable {s : State} {id product density launched : Nat}

theorem launch_accepted (hrun : s.running = true) (hmode : s.sm.mode ≠ .unconfigured)
    (hfields : Safety.LaunchFields s id product density launched) (hfree : ∀ e ∈ s.lt.train, e.id ≠ id)
    (htickets : ∀ k ∈ s.ts, k.id ≠ id) (htail : tailOpen s.lt.train = false) (hroom : s.lt.train.length < 48) :
    exec (.batchLaunch id product density launched) s = .next ((launch (launchedEntry id product density launched s) s).accept 0x10
      (enc1 (s.lt.train.length + 1) ++ encUnsigned 8 (launchedEntry id product density launched s).reference)) := by
  obtain ⟨hid, hp1, hp2, hd1, hd2, hl, p, hp, hmin, hmax⟩ := hfields
  have hnone : launchRefusal id product density launched s = none := by
    rw [launchRefusal_product hid hp1 hp2 hd1 hd2 hl hp hmin hmax, idHeld_false hfree htickets, htail]
    simp [Config.maxTrain, hroom]
  simp only [exec, execBatchLaunch, notice_running hrun hmode, hnone]

/-- R107: the body line-up of an inherited batch alone in the train, under the default disposition. -/
theorem bodyLineup_alone {tb : Tables} {e : Entry} (hl : e.leading = none) (hd : e.disposition = none) :
    bodyLineup tb [e] e = match tb.params.defaultDisposition with
      | .pass => throughSet tb
      | .transmixAll => transmixSet tb := by
  have hgov : governing tb [e] e = defaultDisposition tb := by simp [governing, hl, hd, behindOf]
  rw [bodyLineup, hgov, defaultDisposition]
  cases tb.params.defaultDisposition <;> rfl

/-- Settles O34. -/
theorem launchAddsAnEntry : Obligations.LaunchAddsAnEntry := by
  intro id product density launched s hrun hmode hfields hfree htickets
  refine ⟨fun b v hb hv hroom => ?_, fun hempty => ?_⟩
  · have htail : tailOpen s.lt.train = false := by
      cases hl : b.launched with
      | none => simp [Entry.volume, hl] at hv
      | some l => simp [tailOpen, hb, hl]
    have hentry : launchedEntry id product density launched s
        = { newEntry id product density launched with leading := some (newInterface (b.reference + v)) } := by
      simp [launchedEntry, hb, hv]
    have hexec := launch_accepted hrun hmode hfields hfree htickets htail hroom
    rw [hentry] at hexec
    exact ⟨_, _, ⟨rfl, rfl, rfl, rfl, rfl, rfl, rfl, rfl, rfl, rfl, rfl, rfl, rfl, rfl, rfl⟩, rfl, rfl, rfl, rfl, rfl, rfl,
      rfl, rfl, rfl, hexec⟩
  · have hentry : launchedEntry id product density launched s = inheritedEntry id product density launched s.lt.curS := by
      simp [launchedEntry, hempty]
    have hexec := launch_accepted hrun hmode hfields hfree htickets (by simp [hempty, tailOpen]) (by simp [hempty])
    obtain ⟨e, he⟩ : ∃ e, inheritedEntry id product density launched s.lt.curS = e := ⟨_, rfl⟩
    have hlaunched : Safety.Launched e id product density launched := by
      rw [← he]
      exact ⟨rfl, rfl, rfl, rfl, rfl, rfl, rfl, rfl, rfl, rfl, rfl, rfl, rfl, rfl, rfl⟩
    have hinherited : e.inherited = true := by rw [← he]; rfl
    have hid : e.id = id := by rw [← he]; rfl
    have hreference : e.reference = s.lt.curS := by rw [← he]; rfl
    obtain ⟨s1, hs1⟩ : ∃ s1, (s.setTrain [e]).post .batchAdded id 1 = s1 := ⟨_, rfl⟩
    have hlaunch : launch e s = planBody id s1 := by
      simp only [launch, hinherited, if_true, hid, hempty, List.nil_append]
      rw [← hs1]
    rw [hentry, he, hlaunch, hreference, hempty] at hexec
    have hform : formLineup s1 (.bodyOf id) = match s.tables.params.defaultDisposition with
        | .pass => throughSet s.tables
        | .transmixAll => transmixSet s.tables := by
      have hfind : findEntry id s1.lt.train = some e := by
        rw [← hs1]
        simp [findEntry, hid]
      have htrain : s1.lt.train = [e] := by rw [← hs1]; rfl
      have htables : s1.tables = s.tables := by rw [← hs1]; rfl
      rw [formLineup, hfind, htrain, htables]
      exact bodyLineup_alone (by rw [← he]; rfl) (by rw [← he]; rfl)
    obtain ⟨p, rc, more, hplan⟩ := planBody_frame id s1
    refine ⟨e, _, more, hlaunched, hinherited, by rw [← he]; rfl, by rw [← he]; rfl, by rw [← he]; rfl, by rw [← he]; rfl, hexec,
      ?_, ?_, fun r hpass hr => ?_, fun r hall hr => ?_, fun hidle => ?_, ?_⟩
    · rw [State.accept_lt, hplan, ← hs1]
      rfl
    · rw [State.accept_handed, hplan, ← hs1]
      simp
    · refine planBody_plan (rs := [r]) ?_ (by simp)
      rw [hform, hpass]
      simp [throughSet, hr]
    · refine planBody_plan (rs := [r]) ?_ (by simp)
      rw [hform, hall]
      simp [transmixSet, hr]
    · have ht : Untargeted s1 := by
        rw [← hs1]
        rcases hidle with hm | hm <;> simp [Untargeted, hm]
      obtain ⟨p', more', happly⟩ := applyPlan_frame (formLineup s1 (.bodyOf id)) .body id s1
      rw [State.accept_rc, planBody_untargeted ht, happly, ← hs1]
      rfl
    · rw [hplan, ← hs1]
      rfl

end

end Sys2Proof.Proofs.Train
end

section
/-! BATCH CLOSE, ADJUST, PLAN and WITHDRAW (O36, O37). -/
namespace Sys2Proof.Proofs.Train

open Sys2Proof Sys2Proof.Machine
open Sys2Proof.Proofs.Answers Sys2Proof.Proofs.Routes
open Sys2Proof.Proofs.EveryStep (derived_rederive)

/-! ### Derived positions (R6) -/

theorem onlyFarMoved_refl (e : Entry) : Safety.OnlyFarMoved e e :=
  ⟨rfl, id, fun i hi => ⟨i.pos, hi, fun _ => rfl⟩⟩

theorem onlyFarMoved_derivePosition (a e : Entry) : Safety.OnlyFarMoved e (derivePosition a e) := by
  unfold derivePosition
  split
  next i v hi hv =>
    split
    next hfar =>
      refine ⟨rfl, fun hnone => ?_, fun j hj => ?_⟩
      · rw [hi] at hnone
        cases hnone
      · obtain rfl : i = j := by rw [hi] at hj; exact Option.some.inj hj
        exact ⟨_, rfl, fun hnot => absurd hfar hnot⟩
    next => exact onlyFarMoved_refl e
  next => exact onlyFarMoved_refl e

theorem onlyFarMoved_rederiveBehind (a : Entry) (t : List Entry) :
    List.Forall₂ Safety.OnlyFarMoved t (rederiveBehind a t) := by
  induction t generalizing a with
  | nil => exact .nil
  | cons e rest ih => exact .cons (onlyFarMoved_derivePosition a e) (ih _)

theorem onlyFarMoved_rederive (t : List Entry) : List.Forall₂ Safety.OnlyFarMoved t (rederive t) := by
  cases t with
  | nil => exact .nil
  | cons e rest => exact .cons (onlyFarMoved_refl e) (onlyFarMoved_rederiveBehind e rest)

/-! ### Held interfaces -/

section
variable {s : State} {e : Entry} {id : Nat} {t : List Entry}

theorem leadingHeld_false (h : ∀ i, e.leading = some i → i.track = .far) : leadingHeld e = false := by
  unfold leadingHeld
  split
  next i hi => simp [h i hi]
  next => rfl

theorem leadingHeld_true (h : ∃ i, e.leading = some i ∧ i.track ≠ .far) : leadingHeld e = true := by
  obtain ⟨i, hi, hnot⟩ := h
  simp [leadingHeld, hi, hnot]

theorem trailingHeld_false (h : ∀ b i, behindOf id t = some b → b.leading = some i → i.track = .far) :
    trailingHeld id t = false := by
  unfold trailingHeld
  split
  next b hb => exact leadingHeld_false fun i => h b i hb
  next => rfl

theorem trailingHeld_true (h : ∃ b i, behindOf id t = some b ∧ b.leading = some i ∧ i.track ≠ .far) :
    trailingHeld id t = true := by
  obtain ⟨b, i, hb, hi⟩ := h
  rw [trailingHeld, hb]
  exact leadingHeld_true ⟨i, hi⟩

/-- Settles O36. -/
theorem closeAndAdjustDeriveTheTrain : Obligations.CloseAndAdjustDeriveTheTrain := by
  intro id e s hrun hmode he
  refine ⟨fun l hopen hl1 hl2 hv1 hv2 => ?_, fun l v hclosed => ?_, fun d hd0 hd1 hd2 => ⟨fun hfar hbehind hclosed hopen => ?_,
    fun hheld => ?_⟩⟩
  · have hrange : launchedInRange l = true ∧ volumeInRange ((l : Int) + e.adjust) = true := by
      simp [launchedInRange, volumeInRange, hl1, hl2, hv1, hv2]
    have hexec : exec (.batchClose id l) s = .next (((s.setTrain (rederive (modEntry id (fun e => { e with launched := some l })
        s.lt.train))).post .batchClosed id l).accept 0x11 []) := by
      simp only [exec, execBatchClose, notice_running hrun hmode, he, hopen, hrange.1, hrange.2, Option.isSome_none,
        Bool.false_eq_true, if_false, Bool.true_eq_false, or_self]
    exact ⟨_, hexec, onlyFarMoved_rederive _, derived_rederive _, rfl⟩
  · simp only [exec, execBatchClose, notice_running hrun hmode, he, hclosed, Option.isSome_some, if_true]
  · have hrange : adjustInRange e d = true := by
      unfold adjustInRange
      split
      next l hl =>
        have := hclosed l hl
        simp only [volumeInRange, decide_eq_true_eq]
        omega
      next hl => simpa using hopen hl
    have hexec : exec (.batchAdjust id d) s = .next (((s.setTrain (rederive (modEntry id
        (fun e => { e with adjust := e.adjust + d }) s.lt.train))).post .batchAdjusted id d).accept 0x12 []) := by
      simp only [exec, execBatchAdjust, notice_running hrun hmode, he, leadingHeld_false hfar, trailingHeld_false hbehind, hrange,
        show ¬(d = 0 ∨ d < -1000000000 ∨ 1000000000 < d) by omega, Bool.or_self, Bool.false_eq_true, if_false, Bool.true_eq_false]
    exact ⟨_, hexec, onlyFarMoved_rederive _, derived_rederive _, rfl⟩
  · have hfrozen : (leadingHeld e || trailingHeld id s.lt.train) = true := by
      rcases hheld with h | h
      · rw [leadingHeld_true h, Bool.true_or]
      · rw [trailingHeld_true h, Bool.or_true]
    simp only [exec, execBatchAdjust, notice_running hrun hmode, he, hfrozen,
      show ¬(d = 0 ∨ d < -1000000000 ∨ 1000000000 < d) by omega, if_false, if_true]

/-! ### BATCH PLAN (R110) -/

/-- The entry as BATCH PLAN leaves it. -/
def plannedEntry (d : Disposition) (e : Entry) : Entry := { e with disposition := some d, stripMark := false }

theorem batchPlan_accepted {kind route volume : Nat} {d : Disposition} (hrun : s.running = true)
    (hmode : s.sm.mode ≠ .unconfigured) (he : findEntry id s.lt.train = some e)
    (hd : requestedDisposition kind route volume = some d) (hfree : planFrozen e s.lt.train = false)
    (hno : planRefusal s.tables e.product d = none) :
    exec (.batchPlan id kind route volume) s = .next ((planBatch e d s).accept 0x13 (encDisposition (some d))) := by
  simp only [exec, execBatchPlan, notice_running hrun hmode, hd, he, hfree, hno, Bool.false_eq_true, if_false]

theorem planBatch_upstream {d : Disposition} (he : findEntry id s.lt.train = some e) (h : e.inherited = false) :
    planBatch e d s = s.setTrain (modEntry id (plannedEntry d) s.lt.train) := by
  simp only [planBatch, h, Bool.false_and, Bool.false_eq_true, if_false, findEntry_id he]
  rfl

theorem planFrozen_false (hc : e.complete = false) (hl : ∀ i, e.leading = some i → i.track = .far)
    (hb : ∀ b i, e.inherited = true → behindOf id t = some b → b.leading = some i → i.track = .far)
    (he : e.id = id) : planFrozen e t = false := by
  have htrailing : (e.inherited && trailingHeld e.id t) = false := by
    cases hi : e.inherited with
    | false => rfl
    | true => rw [he, trailingHeld_false fun b i => hb b i hi]; rfl
  simp [planFrozen, hc, leadingHeld_false hl, htrailing]

theorem planFrozen_true (h : e.complete = true ∨ ∃ i, e.leading = some i ∧ i.track ≠ .far) : planFrozen e t = true := by
  rcases h with h | h
  · simp [planFrozen, h]
  · simp [planFrozen, leadingHeld_true h]

/-- R110: an inherited manifold batch planned PASS has its body line-up formed afresh. -/
theorem planBatch_inherited {x : RouteNo} (he : findEntry id s.lt.train = some e) (hi : e.inherited = true)
    (hm : manifoldId s.lt.train = id) (ht : Untargeted s) (hl : e.leading = none)
    (hb : ∀ b i, behindOf id s.lt.train = some b → b.leading = some i → i.snapshot = none)
    (hp : ∃ p, s.cp.plan = some p ∧ p.kind = .body ∧ p.owner = id) (hx : throughRoute s.tables = some x) :
    planBatch e .pass s = (s.setTrain (modEntry id (plannedEntry .pass) s.lt.train)).setPlan (some ⟨[x], id, .body⟩) := by
  obtain ⟨p, hp, hkind, howner⟩ := hp
  obtain ⟨s1, hs1⟩ : ∃ s1, s.setTrain (modEntry id (plannedEntry .pass) s.lt.train) = s1 := ⟨_, rfl⟩
  have hbody : planIsBodyOf id s = true := by simp [planIsBodyOf, hp, hkind, howner]
  have hform : formLineup s1 (.bodyOf id) = [x] := by
    have hfind : findEntry id s1.lt.train = some (plannedEntry .pass e) := by
      rw [← hs1, State.setTrain_lt, findEntry_modEntry (f := plannedEntry .pass) fun _ => rfl, he]
      rfl
    have hgov : governing s1.tables s1.lt.train (plannedEntry .pass e) = .pass := by
      have hbehind : ((behindOf id s1.lt.train).bind (·.leading)).bind (·.snapshot) = none := by
        rw [← hs1, State.setTrain_lt, behindOf_modEntry (f := plannedEntry .pass) fun _ => rfl]
        cases hbo : behindOf id s.lt.train with
        | none => rfl
        | some b =>
          have hsame : (changed id (plannedEntry .pass) b).leading = b.leading := 
            changed_field (f := plannedEntry .pass) (p := (·.leading)) (fun _ => rfl) b
          simp only [Option.map_some, Option.bind_some, hsame]
          cases hbl : b.leading with
          | none => rfl
          | some i => exact hb b i hbo hbl
      have hid : (plannedEntry .pass e).id = id := (findEntry_id he : e.id = id)
      have hlead : (plannedEntry .pass e).leading = none := hl
      simp only [governing, hlead, hid, hbehind]
      rfl
    have hthrough : throughRoute s1.tables = some x := by rw [← hs1]; exact hx
    simp [formLineup, hfind, bodyLineup, hgov, throughSet, hthrough]
  have ht1 : Untargeted s1 := by rw [← hs1]; exact ht
  have hid := findEntry_id he
  have hplanned : planBatch e .pass s = planBody id s1 := by
    have hcond : (e.inherited && (manifoldId s.lt.train == e.id)
        && planIsBodyOf e.id s) = true := by
      rw [hi, hm, hid, hbody, beq_self_eq_true]
      rfl
    rw [planBatch, if_pos hcond, ← hs1, hid]
    rfl
  rw [hplanned, planBody_untargeted ht1, hform, hs1]
  rfl

/-! ### BATCH WITHDRAW (R15) -/

theorem findIdx_first {k : Nat} (hk : t[k]? = some e) (he : e.id = id) (hfirst : ∀ j x, j < k → t[j]? = some x → x.id ≠ id) :
    t.findIdx? (fun x => x.id == id) = some k := by
  obtain ⟨hlt, hget⟩ := List.getElem?_eq_some_iff.mp hk
  refine List.findIdx?_eq_some_iff_getElem.mpr ⟨hlt, by simp [hget, he], fun j hj => ?_⟩
  simpa using hfirst j _ hj (List.getElem?_eq_getElem (by omega))

theorem withdrawable_true {i : Interface} (hc : e.complete = false) (hm : (manifoldOf t).map (·.id) ≠ some e.id)
    (hi : e.leading = some i) (hfar : i.track = .far) : withdrawable t e = true := by
  have hheld : leadingHeld e = false := leadingHeld_false fun j hj => by
    obtain rfl : i = j := by rw [hi] at hj; exact Option.some.inj hj
    exact hfar
  simp [withdrawable, batchState, hc, hm, hi, hfar, hheld]

theorem withdrawable_false (h : e.complete = true ∨ (manifoldOf t).map (·.id) = some e.id
    ∨ ∃ i, e.leading = some i ∧ i.track ≠ .far) : withdrawable t e = false := by
  rcases h with hc | hm | hi
  · simp [withdrawable, batchState, hc]
  · cases hc : e.complete <;> simp [withdrawable, batchState, hc, hm]
  · simp [withdrawable, leadingHeld_true hi]

/-- Settles O37. -/
theorem planAndWithdrawChangeTheEntry : Obligations.PlanAndWithdrawChangeTheEntry := by
  refine ⟨fun id e r s hrun hmode he => ⟨fun hc hl hb => ⟨fun x hx => ⟨fun hi => ?_, fun hi hm htr hsf hlead hsnap hp => ?_,
    fun v hv1 hv2 hr hi => ?_⟩, fun c hr => ⟨fun hce hi => ?_, fun hce => ?_⟩⟩, fun hfrozen => ?_⟩,
    fun id e s hrun hmode he => ⟨fun i k hc hm hi hfar hk hfirst => ?_, fun hfrozen => ?_⟩⟩
  · rw [batchPlan_accepted hrun hmode he rfl (planFrozen_false hc hl hb (findEntry_id he)) (by simp [planRefusal, hx]),
      planBatch_upstream he hi]
    rfl
  · rw [batchPlan_accepted hrun hmode he rfl (planFrozen_false hc hl hb (findEntry_id he)) (by simp [planRefusal, hx]),
      planBatch_inherited he hi hm ⟨htr, hsf⟩ hlead hsnap hp hx]
    rfl
  · rw [batchPlan_accepted (d := .strip r v) hrun hmode he (by simp [requestedDisposition, hv1, hv2])
      (planFrozen_false hc hl hb (findEntry_id he)) (by simp [planRefusal, planRoute, hx, hr]), planBatch_upstream he hi]
    rfl
  · rw [batchPlan_accepted (d := .take r) hrun hmode he (by simp [requestedDisposition])
      (planFrozen_false hc hl hb (findEntry_id he)) (by simp [planRefusal, planRoute, hr, hce]), planBatch_upstream he hi]
    rfl
  · have hfree := planFrozen_false hc hl hb (findEntry_id he)
    simp [exec, execBatchPlan, notice_running hrun hmode, requestedDisposition, he, hfree, planRefusal, planRoute, hr, hce]
  · simp [exec, execBatchPlan, notice_running hrun hmode, requestedDisposition, he, planFrozen_true hfrozen]
  · have hid := findEntry_id he
    have hidx := findIdx_first hk hid hfirst
    have herase : s.lt.train.eraseP (fun x => x.id == id) = s.lt.train.eraseIdx k := by
      rw [List.eraseP_eq_eraseIdx, hidx]
    have hindex : indexOf id s.lt.train = k + 1 := by simp [indexOf, hidx]
    have hexec : exec (.batchWithdraw id) s = .next (((s.setTrain (rederive (s.lt.train.eraseIdx k))).post .batchWithdrawn id
        (k + 1 : Nat)).accept 0x14 []) := by
      simp only [exec, execBatchWithdraw, notice_running hrun hmode, he, withdrawable_true hc (hid ▸ hm) hi hfar, if_true, herase,
        hindex]
    exact ⟨_, hexec, onlyFarMoved_rederive _, derived_rederive _, rfl⟩
  · have hid := findEntry_id he
    have hnot := withdrawable_false (t := s.lt.train) (hid ▸ hfrozen)
    simp [exec, execBatchWithdraw, notice_running hrun hmode, he, hnot]

end

end Sys2Proof.Proofs.Train
end

section
/-! The booking of a period's volume (O32). -/
namespace Sys2Proof.Proofs.Booking

open Sys2Proof Sys2Proof.Machine
open Sys2Proof.Proofs.Answers Sys2Proof.Proofs.Routes Sys2Proof.Proofs.Train

section
variable {s : State} {r : RouteNo} {v : Nat} {d : Delivery}

theorem add64_of_lt {a b : Nat} (h : a + b < 2 ^ 64) : add64 a b = a + b := if_pos h

/-! ### The current tank route (R141) -/

/-- A tank route that is OPEN. -/
def Tank (s : State) (x : RouteNo) : Prop := x ∈ (openRoutes s).filter (tankRoute s.tables)

theorem tank_iff {x : RouteNo} : Tank s x ↔ valveIs s x .opened = true
    ∧ (routeKind s.tables x = some .transmix ∨ ∃ p, routeKind s.tables x = some (.product p)) := by
  have hkind : tankRoute s.tables x = true
      ↔ (routeKind s.tables x = some .transmix ∨ ∃ p, routeKind s.tables x = some (.product p)) := by
    unfold tankRoute productRoute isTransmix
    cases hk : routeKind s.tables x with
    | none => simp
    | some k => cases k <;> simp
  simp only [Tank, openRoutes, List.mem_filter, mem_allRoutes, true_and, hkind]

/-- What the search for the latest stamp has found among the routes `rs`. -/
def Latest (s : State) (rs : List RouteNo) : Option RouteNo → Prop
  | some b => b ∈ rs ∧ ∀ x ∈ rs, stampOf s x ≤ stampOf s b
  | none => rs = []

theorem latest_foldl (rs seen : List RouteNo) (best : Option RouteNo) (h : Latest s seen best) :
    Latest s (seen ++ rs) (rs.foldl (laterTank s) best) := by
  induction rs generalizing seen best with
  | nil => simpa using h
  | cons r rs ih =>
    rw [List.foldl_cons, List.append_cons]
    refine ih _ _ ?_
    cases best with
    | none =>
      obtain rfl : seen = [] := h
      simp [laterTank, Latest]
    | some b =>
      obtain ⟨hb, hmax⟩ := h
      unfold laterTank
      dsimp only
      split
      next hlt =>
        refine ⟨by simp, fun x hx => ?_⟩
        rcases List.mem_append.mp hx with hx | hx
        · exact (hmax x hx).trans hlt.le
        · rw [List.mem_singleton.mp hx]
      next hle =>
        refine ⟨List.mem_append_left _ hb, fun x hx => ?_⟩
        rcases List.mem_append.mp hx with hx | hx
        · exact hmax x hx
        · rw [List.mem_singleton.mp hx]
          omega

theorem latest_currentTank (s : State) : Latest s ((openRoutes s).filter (tankRoute s.tables)) (currentTank s) :=
  latest_foldl (s := s) _ [] none rfl

/-! ### A booking (R141, R142) -/

theorem bookTo_routes (o : Option RouteNo) (x : RouteNo) (h : d.routes.get x + v < 2 ^ 64) :
    (bookTo o v d).routes.get x = d.routes.get x + (if o = some x then v else 0) := by
  cases o with
  | none => simp [bookTo]
  | some r =>
    by_cases hx : x = r
    · subst hx
      simp [bookTo, add64_of_lt h]
    · simp [bookTo, PerRoute.get_set_ne _ _ hx, Ne.symm hx]

theorem bookTo_unaccounted (o : Option RouteNo) (h : d.unaccounted + v < 2 ^ 64) :
    (bookTo o v d).unaccounted = d.unaccounted + (if o = none then v else 0) := by
  cases o with
  | none => simp [bookTo, add64_of_lt h]
  | some r => simp [bookTo]

theorem bookTo_frame (o : Option RouteNo) :
    bookTo o v d = { d with routes := (bookTo o v d).routes, unaccounted := (bookTo o v d).unaccounted } := by
  cases o <;> rfl

theorem crossDelivery_iff {product delivery : Nat} : crossDelivery s product delivery = true
    ↔ 0 < delivery ∧ ∃ r p, currentTank s = some r ∧ productRoute s.tables r = some p ∧ p ≠ product := by
  unfold crossDelivery
  cases hr : currentTank s with
  | none => simp
  | some r => cases hp : productRoute s.tables r <;> simp [hp]

/-- Only the delivery record of the one batch with the manifold batch's ID changes. -/
theorem modEntry_unique {t : List Entry} {m : Entry} {f g : Entry → Entry}
    (hu : ∀ e ∈ t, e.id = m.id → e = m) (h : f m = g m) : modEntry m.id f t = modEntry m.id g t := by
  refine List.map_congr_left fun e he => ?_
  by_cases hid : e.id = m.id
  · rw [hu e he hid, if_pos (by simp), if_pos (by simp), h]
  · rw [if_neg (by simpa using hid), if_neg (by simpa using hid)]

/-- R141, R142: what a booking makes of a delivery record, with no volume past 64 bits. -/
theorem bookDelivery_eq {product inlet delivery : Nat} (hroutes : ∀ r, d.routes.get r + inlet + delivery < 2 ^ 64)
    (hunaccounted : d.unaccounted + inlet + delivery < 2 ^ 64) :
    (∀ r, (bookDelivery s product inlet delivery d).routes.get r = d.routes.get r + (if currentTank s = some r then delivery else 0)
        + (if throughOpen s = some r then inlet - delivery else 0))
      ∧ (bookDelivery s product inlet delivery d).unaccounted = d.unaccounted + (if currentTank s = none then delivery else 0)
        + (if throughOpen s = none then inlet - delivery else 0)
      ∧ bookDelivery s product inlet delivery d = { d with
          routes := (bookDelivery s product inlet delivery d).routes
          unaccounted := (bookDelivery s product inlet delivery d).unaccounted
          flags := bookingFlags s product delivery d.flags } := by
  have htank : ∀ r, (bookTo (currentTank s) delivery d).routes.get r
      = d.routes.get r + (if currentTank s = some r then delivery else 0) := fun r =>
    bookTo_routes _ r (by have := hroutes r; omega)
  have htankless := bookTo_unaccounted (v := delivery) (d := d) (currentTank s) (by omega)
  have hframe := bookTo_frame (v := delivery) (d := d) (currentTank s)
  have hframe' := bookTo_frame (v := inlet - delivery) (d := bookTo (currentTank s) delivery d) (throughOpen s)
  refine ⟨fun r => ?_, ?_, ?_⟩
  · refine (bookTo_routes (throughOpen s) r ?_).trans (by rw [htank])
    rw [htank]
    have := hroutes r
    split <;> omega
  · refine (bookTo_unaccounted (throughOpen s) ?_).trans (by rw [htankless])
    rw [htankless]
    split <;> omega
  · unfold bookDelivery
    rw [hframe', hframe]

/-- Settles O32. -/
theorem bookingAddsTheIncrement : Obligations.BookingAddsTheIncrement := by
  refine ⟨fun inlet delivery s hrun => ⟨fun m hm hu hroutes hunaccounted => ?_, fun hnone => ?_⟩,
    fun s => ⟨fun r hr => ?_, fun hnone x hx => ?_, fun r hr => ?_, fun hnone r hr => ?_⟩⟩
  · have hmem : m ∈ s.lt.train := List.mem_of_find?_eq_some hm
    have hunique : ∀ e ∈ s.lt.train, e.id = m.id → e = m := fun e he =>
      List.inj_on_of_nodup_map (List.nodup_append.mp hu).1 he hmem
    obtain ⟨hr, hn, hframe⟩ := bookDelivery_eq (s := s) (product := m.product) hroutes hunaccounted
    refine ⟨bookDelivery s m.product inlet delivery m.delivery, ?_, hr, hn, ?_, ?_⟩
    · have hm' : manifoldOf (s.take (.periodIncrementBooking inlet delivery)).lt.train = some m := hm
      simp only [exec, execPeriodIncrementBooking, event_running hrun, hm']
      rw [← modEntry_unique (f := fun e => { e with delivery := bookDelivery s m.product inlet delivery e.delivery }) hunique rfl]
      rfl
    · rw [hframe]
      simp only [bookingFlags, Bool.or_eq_true, crossDelivery_iff]
    · rw [hframe]
      rfl
  · have hnone' : manifoldOf (s.take (.periodIncrementBooking inlet delivery)).lt.train = none := hnone
    simp only [exec, execPeriodIncrementBooking, event_running hrun, hnone']
  · have hlatest := latest_currentTank s
    rw [hr] at hlatest
    exact ⟨tank_iff.mp hlatest.1, fun x hx => hlatest.2 x (tank_iff.mpr hx)⟩
  · have hlatest := latest_currentTank s
    rw [hnone] at hlatest
    have hin := tank_iff.mpr hx
    rw [Tank, show (openRoutes s).filter (tankRoute s.tables) = [] from hlatest] at hin
    cases hin
  · unfold throughOpen at hr
    split at hr
    next r' hthrough =>
      split at hr
      next hopen =>
        obtain rfl := Option.some.inj hr
        exact ⟨hopen, by simpa using List.find?_some hthrough⟩
      next => cases hr
    next => cases hr
  · simpa [throughOpen, hr] using hnone

end

end Sys2Proof.Proofs.Booking
end

section
/-! SET PRODUCT, SET PAIR and SET SLOT (O21, O23). -/
namespace Sys2Proof.Proofs.TableEntries

open Sys2Proof Sys2Proof.Machine
open Sys2Proof.Proofs.Answers Sys2Proof.Proofs.Routes

/-! ### A removal and the rows it leaves -/

theorem find_filter_of_imp {α : Type} {p q : α → Bool} (h : ∀ a, q a = true → p a = true) (l : List α) :
    (l.filter p).find? q = l.find? q := by
  rw [List.find?_filter]
  congr 1
  funext a
  cases hq : q a with
  | false => simp
  | true => simp [h a hq]

theorem find_filter_none {α : Type} {p q : α → Bool} (h : ∀ a, p a = true → q a = false) (l : List α) :
    (l.filter p).find? q = none := by
  rw [List.find?_eq_none]
  intro a ha
  simp [h a (List.mem_filter.mp ha).2]

/-! ### The product table (R104) -/

section
variable {t : Tables} {row : ProductRow} {c : Nat}

theorem find_insertProduct (ps : List ProductRow) :
    (insertProduct row ps).find? (fun p => p.code == c) = if row.code = c then some row else ps.find? (fun p => p.code == c) := by
  induction ps with
  | nil => by_cases h : row.code = c <;> simp [insertProduct, h]
  | cons p rest ih =>
    unfold insertProduct
    split
    · by_cases h : row.code = c <;> simp [h]
    · split
      next heq =>
        by_cases h : row.code = c
        · simp [h]
        · have hp : p.code ≠ c := fun hpc => h (heq.trans hpc)
          simp [h, hp]
      next hne =>
        by_cases h : row.code = c
        · have hp : p.code ≠ c := fun hpc => hne (h.trans hpc.symm)
          simp [h, hp, ih]
        · simp [List.find?_cons, ih, h]

theorem productOf_insertProduct_self {code : Nat} {e : ProductEntry} :
    productOf { t with products := insertProduct ⟨code, e⟩ t.products } code = some e := by
  simp [productOf, find_insertProduct]

theorem productOf_insertProduct_ne {code : Nat} {e : ProductEntry} (h : c ≠ code) :
    productOf { t with products := insertProduct ⟨code, e⟩ t.products } c = productOf t c := by
  simp [productOf, find_insertProduct, Ne.symm h]

theorem productOf_remove_self {code : Nat} :
    productOf { t with products := t.products.filter (fun p => p.code != code) } code = none := by
  rw [productOf, find_filter_none fun p hp => by simpa using hp]
  rfl

theorem productOf_remove_ne {code : Nat} (h : c ≠ code) :
    productOf { t with products := t.products.filter (fun p => p.code != code) } c = productOf t c := by
  rw [productOf, find_filter_of_imp fun p hp => ?_]
  · rfl
  · have hpc : p.code = c := by simpa using hp
    simpa [hpc] using h

end

/-! ### The pair table (R105) -/

section
variable {t : Tables} {row : PairRow} {a b x y : Nat}

theorem isPair_iff {p : PairRow} : isPair a b p = true ↔ p.ahead = a ∧ p.behind = b := by simp [isPair]

theorem find_insertPair (ps : List PairRow) : (insertPair row ps).find? (isPair x y)
    = if row.ahead = x ∧ row.behind = y then some row else ps.find? (isPair x y) := by
  induction ps with
  | nil => by_cases h : row.ahead = x ∧ row.behind = y <;> simp [insertPair, isPair, h]
  | cons p rest ih =>
    unfold insertPair
    split
    · by_cases h : row.ahead = x ∧ row.behind = y
      · simp [isPair, h]
      · have hrow : isPair x y row = false := by rwa [← Bool.not_eq_true, isPair_iff]
        simp [List.find?_cons, hrow, h]
    · split
      next heq =>
        rw [isPair_iff] at heq
        by_cases h : row.ahead = x ∧ row.behind = y
        · simp [isPair, h]
        · have hrow : isPair x y row = false := by rwa [← Bool.not_eq_true, isPair_iff]
          have hp : isPair x y p = false := by rwa [← Bool.not_eq_true, isPair_iff, heq.1, heq.2]
          simp [hrow, hp, h]
      next hne =>
        rw [isPair_iff] at hne
        by_cases h : row.ahead = x ∧ row.behind = y
        · have hp : isPair x y p = false := by
            rw [← Bool.not_eq_true, isPair_iff]
            rw [h.1, h.2] at hne
            exact hne
          simp [hp, ih, h]
        · simp [List.find?_cons, ih, h]

theorem pairOf_eq (t : Tables) (x y : Nat) : pairOf t x y = match t.pairs.find? (isPair x y) with
    | some p => p.entry
    | none => t.defaultPair := rfl

theorem pairOf_insertPair_self {p : PairEntry} :
    pairOf { t with pairs := insertPair ⟨a, b, p⟩ t.pairs } a b = p := by simp [pairOf_eq, find_insertPair]

theorem pairOf_insertPair_ne {p : PairEntry} (h : (x, y) ≠ (a, b)) :
    pairOf { t with pairs := insertPair ⟨a, b, p⟩ t.pairs } x y = pairOf t x y := by
  have hne : ¬(a = x ∧ b = y) := fun ⟨ha, hb⟩ => h (by rw [ha, hb])
  simp [pairOf_eq, find_insertPair, hne]

theorem pairOf_remove_self :
    pairOf { t with pairs := t.pairs.filter (fun p => !isPair a b p) } a b = t.defaultPair := by
  rw [pairOf_eq, find_filter_none fun p hp => by simpa using hp]

theorem pairOf_remove_ne (h : (x, y) ≠ (a, b)) :
    pairOf { t with pairs := t.pairs.filter (fun p => !isPair a b p) } x y = pairOf t x y := by
  rw [pairOf_eq, find_filter_of_imp fun p hp => ?_]
  · rfl
  · rw [isPair_iff] at hp
    have hab : isPair a b p = false := by
      rw [← Bool.not_eq_true, isPair_iff]
      exact fun ⟨ha, hb⟩ => h (by rw [← hp.1, ← hp.2, ha, hb])
    simp [hab]

end

section
variable {s : State}

/-- The row SET PRODUCT writes, its coefficient and rank clamped (R180). -/
def productRow (code : Nat) (name : List Byte) (alpha rank dmin dmax : Nat) : ProductRow :=
  ⟨code, ⟨name, min 2000 alpha, max 1 (min 9 rank), dmin, dmax⟩⟩

theorem setProduct_written {code alpha rank dmin dmax : Nat} {name : List Byte} (hrun : s.running = true)
    (h : productRefusal code 1 dmin dmax s = none) : ∃ p, exec (.setProduct code 1 name alpha rank dmin dmax) s
      = .next ((setEdited (s.setTables { s.tables with
          products := insertProduct (productRow code name alpha rank dmin dmax) s.tables.products })).accept 0x31 p) := by
  simp only [exec, execSetProduct, request_running hrun, h, clampNat_eq, acceptSet, Nat.zero_max, if_true]
  exact ⟨_, rfl⟩

theorem setProduct_removed {code alpha rank dmin dmax : Nat} {name : List Byte} (hrun : s.running = true)
    (h : productRefusal code 2 dmin dmax s = none) : ∃ p, exec (.setProduct code 2 name alpha rank dmin dmax) s
      = .next ((setEdited (s.setTables { s.tables with
          products := s.tables.products.filter (fun p => p.code != code) })).accept 0x31 p) := by
  simp only [exec, execSetProduct, request_running hrun, h, OfNat.ofNat_ne_one, if_false, acceptSet]
  exact ⟨_, rfl⟩

theorem clampPair_eq (rule : PairRule) (h t baseMix growth maxMix : Nat) : clampPair rule h t baseMix growth maxMix
    = ⟨rule, max 1 (min 999 h), max (max 1 (min 999 h)) (min 999 t), min 500000 baseMix, min 100000 growth,
      max (min 500000 baseMix) (min 1000000 maxMix)⟩ := by
  simp only [clampPair, clampNat_eq, Nat.zero_max]

theorem setPair_written {a b ruleNo h t baseMix growth maxMix : Nat} {rule : PairRule} (hrun : s.running = true)
    (hrule : ruleOfCode ruleNo = some rule) (hno : pairRefusal a b 1 ruleNo s = none) :
    ∃ p, exec (.setPair a b 1 ruleNo h t baseMix growth maxMix) s
      = .next ((setEdited (s.setTables (writePair a b (clampPair rule h t baseMix growth maxMix) s.tables))).accept 0x32 p) := by
  simp only [exec, execSetPair, request_running hrun, hno, if_true, hrule, Option.getD_some, acceptSet]
  exact ⟨_, rfl⟩

theorem setPair_removed {a b ruleNo h t baseMix growth maxMix : Nat} (hrun : s.running = true)
    (hno : pairRefusal a b 2 ruleNo s = none) : ∃ p, exec (.setPair a b 2 ruleNo h t baseMix growth maxMix) s
      = .next ((setEdited (s.setTables { s.tables with
          pairs := s.tables.pairs.filter (fun p => !isPair a b p) })).accept 0x32 p) := by
  simp only [exec, execSetPair, request_running hrun, hno, OfNat.ofNat_ne_one, if_false, acceptSet]
  exact ⟨_, rfl⟩

/-- Settles O21. -/
theorem productAndPairEntriesAreWritten : Obligations.ProductAndPairEntriesAreWritten := by
  refine ⟨fun code name alpha rank dmin dmax s hrun hc1 hc2 => ⟨fun h1 h2 h3 => ?_, fun hdef hfree => ?_⟩,
    fun a b ruleNo h t baseMix growth maxMix rule s hrun hrule => ?_⟩
  · have hnone : productRefusal code 1 dmin dmax s = none := by
      simp only [productRefusal, Config.maxProduct, if_true]
      rw [if_neg (by simp), if_neg (by omega), if_neg (by omega)]
    obtain ⟨p, hexec⟩ := setProduct_written (name := name) (alpha := alpha) (rank := rank) hrun hnone
    exact ⟨_, hexec, productOf_insertProduct_self, fun c hc => productOf_insertProduct_ne hc, rfl, rfl⟩
  · have hnone : productRefusal code 2 dmin dmax s = none := by
      obtain ⟨e, he⟩ := Option.isSome_iff_exists.mp hdef
      simp only [productRefusal, Config.maxProduct, he, hfree]
      rw [if_neg (by simp), if_neg (by omega), if_neg (by simp), if_neg (by simp)]
    obtain ⟨p, hexec⟩ := setProduct_removed (name := name) (alpha := alpha) (rank := rank) hrun hnone
    exact ⟨_, hexec, productOf_remove_self, fun c hc => productOf_remove_ne hc, rfl, rfl⟩
  · rw [← clampPair_eq]
    have hcodes : 1 ≤ a → a ≤ 24 → 1 ≤ b → b ≤ 24 → pairCodesOk a b = true := fun ha1 ha2 hb1 hb2 => by
      simp [pairCodesOk, Config.maxProduct, ha1, ha2, hb1, hb2]
    refine ⟨fun ha1 ha2 hb1 hb2 hroom => ?_, ?_, fun ha1 ha2 hb1 hb2 hany => ?_⟩
    · have hno : pairRefusal a b 1 ruleNo s = none := by
        have hroom' : ¬96 ≤ s.tables.pairs.length := by omega
        simp [pairRefusal, hcodes ha1 ha2 hb1 hb2, hrule, Config.maxPairs, hroom']
      obtain ⟨p, hexec⟩ := setPair_written (h := h) (t := t) (baseMix := baseMix) (growth := growth) (maxMix := maxMix) hrun hrule hno
      have hwrite : ∀ e, writePair a b e s.tables = { s.tables with pairs := insertPair ⟨a, b, e⟩ s.tables.pairs } := fun e =>
        if_neg (by omega)
      rw [hwrite] at hexec
      exact ⟨_, hexec, pairOf_insertPair_self, fun x y hxy => pairOf_insertPair_ne hxy, rfl, rfl⟩
    · have hno : pairRefusal 0 0 1 ruleNo s = none := by simp [pairRefusal, pairCodesOk, hrule]
      obtain ⟨p, hexec⟩ := setPair_written (h := h) (t := t) (baseMix := baseMix) (growth := growth) (maxMix := maxMix) hrun hrule hno
      exact ⟨_, hexec, rfl, rfl, rfl⟩
    · have hno : pairRefusal a b 2 ruleNo s = none := by
        have hany' : s.tables.pairs.any (isPair a b) = true := hany
        have ha0 : a ≠ 0 := by omega
        simp [pairRefusal, hcodes ha1 ha2 hb1 hb2, hany', ha0]
      obtain ⟨p, hexec⟩ := setPair_removed (h := h) (t := t) (baseMix := baseMix) (growth := growth) (maxMix := maxMix) hrun hno
      exact ⟨_, hexec, pairOf_remove_self, fun x y hxy => pairOf_remove_ne hxy, rfl, rfl⟩

end

/-! ### SET SLOT (R48) -/

section
variable {s : State} {k : SlotNo} {c : SlotConfig}

@[simp] theorem slotOfNumber_slotNumber (k : SlotNo) : slotOfNumber (slotNumber k) = some k := by cases k <;> rfl

/-- R48, R180: the configuration a SET SLOT carries. -/
theorem slotRequest_config {t : Tables} {slot role address enable range rate status rateLimit fail recovery : Nat}
    (h : slotRequest t slot role address enable range rate status rateLimit fail recovery = some (k, c)) :
    c.address = address ∧ c.rateLimit = max 1 (min 100000 rateLimit) ∧ c.failThreshold = max 1 (min 15 fail)
      ∧ c.recoveryCount = max 1 (min 50 recovery) := by
  unfold slotRequest at h
  split at h
  · split at h
    · cases h
    · split at h
      · cases h
      · obtain ⟨-, rfl⟩ := Prod.mk.inj (Option.some.inj h)
        exact ⟨rfl, clampNat_eq .., clampNat_eq .., clampNat_eq ..⟩
  · cases h

theorem abandonPoll_elsewhere (h : ∀ y, s.ip.cycle = some y → y.slot ≠ k) : abandonPoll k s = s := by
  unfold abandonPoll
  split
  next y hy => rw [if_neg (h y hy)]
  next => rfl

theorem takeSlot_kept (h : identityChange (s.tables.slots.get k) c = false) :
    takeSlot k c s = setEdited (s.setTables { s.tables with slots := s.tables.slots.set k c }) := by
  simp [takeSlot, h]

theorem takeSlot_cleared (h : identityChange (s.tables.slots.get k) c = true)
    (hcycle : ∀ y, s.ip.cycle = some y → y.slot ≠ k) : takeSlot k c s
      = { (setEdited (s.setTables { s.tables with slots := s.tables.slots.set k c })).setSlot k (clearSlot (s.ip.slots.get k)) with
          handed := s.handed ++ (match channelOfRole (s.tables.slots.get k).role with
            | some ch => [.channelSlotLost ch]
            | none => []) } := by
  have habandon := abandonPoll_elsewhere (s := (setEdited (s.setTables { s.tables with
    slots := s.tables.slots.set k c })).setSlot k (clearSlot (s.ip.slots.get k))) hcycle
  have hslots : (setEdited (s.setTables { s.tables with slots := s.tables.slots.set k c })).ip.slots = s.ip.slots := rfl
  simp only [takeSlot, h, if_true, hslots, habandon]
  cases channelOfRole (s.tables.slots.get k).role with
  | none => simp [setEdited, State.setSlot, State.setTables]
  | some ch => rfl

/-- Settles O23. -/
theorem slotConfigurationIsTaken : Obligations.SlotConfigurationIsTaken := by
  intro k role address enable range rate status rateLimit fail recovery c s hrun hcycle hreq
  obtain ⟨haddress, hrate, hfail, hrecovery⟩ := slotRequest_config hreq
  have hexec : ∃ p, exec (.setSlot (slotNumber k) role address enable range rate status rateLimit fail recovery) s
      = .next ((takeSlot k c s).accept 0x34 p) := by
    simp only [exec, execSetSlot, request_running hrun, hreq, acceptSet]
    exact ⟨_, rfl⟩
  obtain ⟨p, hexec⟩ := hexec
  cases hid : identityChange (s.tables.slots.get k) c with
  | false =>
    rw [takeSlot_kept hid] at hexec
    exact ⟨_, hexec, rfl, rfl, haddress, hrate, hfail, hrecovery, fun _ => ⟨rfl, rfl⟩, (by cases ·), rfl⟩
  | true =>
    rw [takeSlot_cleared hid hcycle] at hexec
    exact ⟨_, hexec, rfl, rfl, haddress, hrate, hfail, hrecovery, (by cases ·), fun _ => ⟨rfl, rfl⟩, rfl⟩

end

end Sys2Proof.Proofs.TableEntries
end

section
/-! The Instrument Poller: poll cycles, responses and timeouts (O42, O43, O44). -/
namespace Sys2Proof.Proofs.Polling

open Sys2Proof Sys2Proof.Machine
open Sys2Proof.Proofs.Answers

/-! ### The order of the slots (R49) -/

theorem allSlots_getElem_number : ∀ j (h : j < allSlots.length), slotNumber allSlots[j] = j + 1 := by decide

theorem mem_allSlots (k : SlotNo) : k ∈ allSlots := by cases k <;> decide

/-- The slots are searched in number order. -/
theorem find_lowestSlot {p : SlotNo → Bool} {x : SlotNo} (hx : p x = true)
    (hlow : ∀ y, slotNumber y < slotNumber x → p y = false) : allSlots.find? p = some x := by
  have hnumber := fun j h => allSlots_getElem_number j h
  obtain ⟨i, hi, rfl⟩ := List.getElem_of_mem (mem_allSlots x)
  refine List.find?_eq_some_iff_getElem.mpr ⟨hx, i, hi, rfl, fun j hj => ?_⟩
  rw [hlow allSlots[j] (by rw [hnumber, hnumber]; omega)]
  rfl

section
variable {t : Tables} {k j : SlotNo}

theorem firstConfigured_all (hj : configured (t.slots.get j) = true)
    (hlow : ∀ i, slotNumber i < slotNumber j → configured (t.slots.get i) = false) : firstConfigured t allSlots = some j :=
  find_lowestSlot hj hlow

theorem firstConfigured_none {ks : List SlotNo} (h : ∀ i ∈ ks, configured (t.slots.get i) = false) :
    firstConfigured t ks = none := List.find?_eq_none.mpr (by simpa using h)

theorem firstConfigured_after (hk : slotNumber k < slotNumber j) (hj : configured (t.slots.get j) = true)
    (hlow : ∀ i, slotNumber k < slotNumber i → slotNumber i < slotNumber j → configured (t.slots.get i) = false) :
    firstConfigured t (slotsAfter k) = some j := by
  rw [firstConfigured, slotsAfter, List.find?_filter]
  refine find_lowestSlot (by simp [hk, hj]) fun i hi => ?_
  by_cases hki : slotNumber k < slotNumber i
  · simp [hlow i hki hi]
  · simp [hki]

end

/-! ### The cycle after a poll (R49, R50) -/

/-- The cycle that follows a poll of slot `k` in a cycle begun at `start`, and whether one is deferred then. -/
def nextCycle (s : State) (start : Nat) (k : SlotNo) : Option Cycle × Bool :=
  match firstConfigured s.tables (slotsAfter k) with
  | some j => (some ⟨start, j, .sending⟩, s.ip.deferred)
  | none =>
    (if s.ip.deferred then (firstConfigured s.tables allSlots).map (fun j => ⟨s.clock.ms, j, .sending⟩) else none, false)

theorem afterPoll_nextCycle (s : State) (start : Nat) (k : SlotNo) :
    Safety.AfterPoll s start k (nextCycle s start k).1 (nextCycle s start k).2 := by
  refine ⟨fun j hk hj hlow => ?_, fun hlast => ?_⟩
  · simp [nextCycle, firstConfigured_after hk hj hlow]
  · have hnone : firstConfigured s.tables (slotsAfter k) = none := firstConfigured_none fun i hi =>
      hlast i (by simpa using (List.mem_filter.mp hi).2)
    simp only [nextCycle, hnone]
    refine ⟨trivial, fun hd => by simp [hd], fun hd => ⟨fun j hj hlow => ?_, fun hno => ?_⟩⟩
    · simp [hd, firstConfigured_all hj hlow]
    · simp [hd, firstConfigured_none fun i (_ : i ∈ allSlots) => hno i]

theorem goOn_eq (c : Cycle) (s : State) : goOn c s = { s with ip := { s.ip with
    cycle := (nextCycle s c.startMs c.slot).1, deferred := (nextCycle s c.startMs c.slot).2 } } := by
  cases hnext : firstConfigured s.tables (slotsAfter c.slot) with
  | some j => simp only [goOn, nextCycle, hnext]; rfl
  | none =>
    cases hd : s.ip.deferred with
    | false =>
      simp only [goOn, nextCycle, hnext, hd, Bool.false_eq_true, if_false]
      rw [← hd]
      rfl
    | true => simp only [goOn, nextCycle, hnext, hd, if_true]; rfl

/-- R52: a poll that has ended leaves nothing assembled, and the cycle goes on. -/
theorem nextPoll_eq {c : Cycle} {s u : State} (htables : u.tables = s.tables) (hclock : u.clock = s.clock)
    (hdeferred : u.ip.deferred = s.ip.deferred) : nextPoll c u = { u with ip := { u.ip with
      assembled := [], cycle := (nextCycle s c.startMs c.slot).1, deferred := (nextCycle s c.startMs c.slot).2 } } := by
  have hsame : nextCycle (setAssembled [] u) c.startMs c.slot = nextCycle s c.startMs c.slot := by
    have ht : (setAssembled [] u).tables = s.tables := htables
    have hc : (setAssembled [] u).clock = s.clock := hclock
    have hd : (setAssembled [] u).ip.deferred = s.ip.deferred := hdeferred
    simp only [nextCycle, ht, hc, hd]
  rw [nextPoll, goOn_eq, hsame]
  rfl

/-- Settles O42. -/
theorem pollTickAndRequest : Obligations.PollTickAndRequest := by
  refine fun k s hrun => ⟨fun hidle => ⟨fun hk hlow => ?_, fun hno => ?_⟩, fun c hc => ?_, fun start hc => ?_⟩
  · have hidle' : (s.take .pollTick).ip.cycle = none := hidle
    simp only [exec, execPollTick, event_running hrun, pollTick, hidle', beginCycle, State.setPoller, State.take_tables,
      firstConfigured_all hk hlow]
    rfl
  · have hidle' : (s.take .pollTick).ip.cycle = none := hidle
    simp only [exec, execPollTick, event_running hrun, pollTick, hidle', beginCycle, State.setPoller, State.take_tables,
      firstConfigured_none fun i (_ : i ∈ allSlots) => hno i, Option.map_none]
    simp [hidle]
  · have hc' : (s.take .pollTick).ip.cycle = some c := hc
    simp only [exec, execPollTick, event_running hrun, pollTick, hc']
    cases hl : s.ip.overrunLatch <;>
      simp [hl, hc, State.setPoller, State.post, State.hand, State.take, Instr.canonical]
  · have hc' : (s.take .pollRequestSent).ip.cycle = some ⟨start, k, .sending⟩ := hc
    simp only [exec, execPollRequestSent, event_running hrun, requestSent, hc']
    rfl

/-! ### Failed polls (R57, R58) -/

/-- What a channel of a density role is told. -/
def toChannel (role : SlotRole) (f : Channel → Instr) : List Instr :=
  match channelOfRole role with
  | some ch => [f ch]
  | none => []

section
variable {c : SlotConfig} {r : LastResult} {x : SlotState}

theorem failedPoll_of_failed (hq : x.quality = .failed) : failedPoll c r x
    = { x with result := r, failures := (x.failures + 1) % 4294967296, health := min 15 (x.health + 1), recovery := 0 } :=
  if_pos hq

theorem failedPoll_below (hq : x.quality ≠ .failed) (h : x.health + 1 < c.failThreshold) : failedPoll c r x
    = { x with result := r, failures := (x.failures + 1) % 4294967296, health := x.health + 1,
               quality := if x.quality = .noValue then .noValue else .held } := by
  have hheld : heldQuality x.quality = if x.quality = .noValue then .noValue else .held := by
    cases hx : x.quality <;> simp_all [heldQuality]
  simp only [failedPoll, if_neg hq, if_neg (Nat.not_le.mpr h), hheld]
  rfl

theorem failedPoll_at (hq : x.quality ≠ .failed) (h : c.failThreshold ≤ x.health + 1) : failedPoll c r x
    = { x with result := r, failures := (x.failures + 1) % 4294967296, health := 1, quality := .failed, recovery := 0,
               rateRef := none } := by
  simp only [failedPoll, if_neg hq, if_pos h]
  rfl

end

theorem takeFailedPoll_stays {k : SlotNo} {r : LastResult} {s : State} {z : SlotState}
    (hz : failedPoll (s.tables.slots.get k) r (s.ip.slots.get k) = z)
    (h : (s.ip.slots.get k).quality = .failed ∨ (s.ip.slots.get k).health + 1 < (s.tables.slots.get k).failThreshold) :
    takeFailedPoll k r s = s.setSlot k z := by
  subst hz
  refine if_neg ?_
  rintro ⟨hnot, hfails⟩
  rw [failedPoll_below hnot (h.resolve_left hnot)] at hfails
  revert hfails
  dsimp only
  split <;> decide

theorem takeFailedPoll_fails {k : SlotNo} {r : LastResult} {s : State} {z : SlotState}
    (hz : failedPoll (s.tables.slots.get k) r (s.ip.slots.get k) = z) (hq : (s.ip.slots.get k).quality ≠ .failed)
    (h : (s.tables.slots.get k).failThreshold ≤ (s.ip.slots.get k).health + 1) :
    takeFailedPoll k r s = { s.setSlot k z with
      handed := s.handed ++ (.eventPosted .slotFailed (slotNumber k) (failureCode r)
        :: toChannel (s.tables.slots.get k).role .channelSlotLost) } := by
  have hfails : z.quality = .failed := by rw [← hz, failedPoll_at hq h]
  rw [takeFailedPoll, toChannel]
  simp only [hz, hfails, hq, ne_eq, not_false_eq_true, and_self, if_true]
  cases channelOfRole (s.tables.slots.get k).role <;> simp [State.post, State.hand, State.setSlot]

/-! ### Accepted readings (R56, R58, R59) -/

theorem handReading_eq (role : SlotRole) (v : Int) (q : ReadingQuality) (tag : Nat) (s : State) :
    handReading role v q tag s = { s with handed := s.handed ++ toChannel role (.channelReading · v q tag) } := by
  unfold handReading toChannel
  cases channelOfRole role <;> simp [State.hand]

theorem recoverSlot_eq (k : SlotNo) (v : Int) (x : SlotState) (s : State) :
    recoverSlot k v x s = { s.setSlot k { x with quality := .good, health := 0, recovery := 0 } with
      handed := s.handed ++ (.eventPosted .slotRecovered (slotNumber k) (min x.failures 2147483647 : Nat)
        :: toChannel (s.tables.slots.get k).role .channelSlotRecovered
          ++ toChannel (s.tables.slots.get k).role (.channelReading · v .good s.stationS)) } := by
  cases hch : channelOfRole (s.tables.slots.get k).role with
  | none => simp [recoverSlot, toChannel, hch, State.post, State.hand, State.setSlot]
  | some ch =>
    simp only [recoverSlot, toChannel, hch, handReading_eq]
    simp [State.post, State.hand, State.setSlot]
    rfl

section
variable {k : SlotNo} {v : Int} {r : LastResult} {q : ReadingQuality} {s : State}

theorem takeAccepted_running (hq : (s.ip.slots.get k).quality ≠ .failed) : takeAccepted k v q r s
    = { s.setSlot k (match q with
          | .good => { acceptValueOf v r s.stationS (s.ip.slots.get k) with
              quality := .good, health := (s.ip.slots.get k).health - 1 }
          | .suspect => { acceptValueOf v r s.stationS (s.ip.slots.get k) with quality := .suspect }) with
        handed := s.handed ++ toChannel (s.tables.slots.get k).role (.channelReading · v q s.stationS) } := by
  refine (if_neg hq).trans ((handReading_eq ..).trans ?_)
  cases q <;> rfl

theorem takeAccepted_recovering (hq : (s.ip.slots.get k).quality = .failed)
    (h : (s.ip.slots.get k).recovery + 1 < (s.tables.slots.get k).recoveryCount) : takeAccepted k v .good r s
    = s.setSlot k { acceptValueOf v r s.stationS (s.ip.slots.get k) with
        recovery := (s.ip.slots.get k).recovery + 1 } :=
  (if_pos hq).trans (if_neg (Nat.not_le.mpr h))

theorem takeAccepted_recovered (hq : (s.ip.slots.get k).quality = .failed)
    (h : (s.tables.slots.get k).recoveryCount ≤ (s.ip.slots.get k).recovery + 1) : takeAccepted k v .good r s
    = recoverSlot k v (acceptValueOf v r s.stationS (s.ip.slots.get k)) s :=
  (if_pos hq).trans (if_pos h)

theorem takeAccepted_failed_suspect (hq : (s.ip.slots.get k).quality = .failed) : takeAccepted k v .suspect r s
    = s.setSlot k { acceptValueOf v r s.stationS (s.ip.slots.get k) with recovery := 0 } :=
  if_pos hq

end

/-! ### The end of a poll -/

section
variable {s : State} {start d : Nat} {k : SlotNo} {i : Instr}

theorem responseTimeout_stands (hrun : s.running = true) (hc : s.ip.cycle = some ⟨start, k, .waiting d⟩)
    (h : d ≤ s.clock.ms ∨ .responseTimeout ∉ s.handed) : exec .responseTimeout s
      = .next (nextPoll ⟨start, k, .waiting d⟩ (takeFailedPoll k .noResponse (s.take .responseTimeout))) := by
  have hstands : expiryStands .responseTimeout (timeoutOut s) s = true := by
    simpa [expiryStands, timeoutOut, hc, or_comm] using h
  have hc' : (s.take .responseTimeout).ip.cycle = some ⟨start, k, .waiting d⟩ := hc
  simp only [exec, execResponseTimeout, event_running hrun, hstands, if_true, takeTimeout, hc']

theorem response_judged (hrun : s.running = true) (hc : s.ip.cycle = some ⟨start, k, .waiting d⟩) {bs : List Byte}
    (ha : s.ip.assembled = []) (h : responseShape bs = true) : exec (.instrumentResponse bs) s
      = .next (nextPoll ⟨start, k, .waiting d⟩ (takeOutcome k
        (judgeResponse s.tables (s.tables.slots.get k) (s.ip.slots.get k) bs) (responseValue bs)
        (s.take (.instrumentResponse bs)))) := by
  simp only [exec, execInstrumentResponse, event_running hrun]
  exact congrArg _ (takeResponse_whole (s := s.take (.instrumentResponse bs)) (c := ⟨start, k, .waiting d⟩) h hc rfl ha)

/-- What a failed poll of slot `k` that leaves it as `z` comes to. -/
theorem failedPoll_ends {z : SlotState} {more : List Instr} {u : State}
    (hu : u = { (s.take i).setSlot k z with handed := (s.take i).handed ++ more }) (hi : i.canonical = i) :
    nextPoll ⟨start, k, .waiting d⟩ u = { s with
      ip := { s.ip with cycle := (nextCycle s start k).1, deferred := (nextCycle s start k).2, assembled := [],
                        slots := s.ip.slots.set k z }
      handed := s.handed.erase i ++ more } := by
  have htake : (s.take i).handed = s.handed.erase i := by rw [State.take, hi]
  rw [hu, ← htake]
  exact nextPoll_eq (s := s) rfl rfl rfl

/-- Settles O44. -/
theorem timeoutIsAFailedPoll : Obligations.TimeoutIsAFailedPoll := by
  refine fun k start d s hrun hc => ⟨⟨_, _, afterPoll_nextCycle s start k, fun i r hcause => ?_⟩, fun bs hshape hbad => ?_,
    fun hearly hmem => ?_⟩
  · have hexec : exec i s = .next (nextPoll ⟨start, k, .waiting d⟩ (takeFailedPoll k r (s.take i))) := by
      rcases hcause with ⟨rfl, rfl, hstands⟩ | ⟨bs, rfl, ha, hshape, hr, hfault⟩
      · exact responseTimeout_stands hrun hc hstands
      · rw [response_judged hrun hc ha hshape, ← hr]
        rcases hfault with rfl | ⟨cause, rfl⟩ <;> rfl
    have hi : i.canonical = i := by
      rcases hcause with ⟨rfl, _⟩ | ⟨bs, rfl, _⟩ <;> rfl
    refine ⟨fun hq hlow => ?_, fun hq hhigh => ?_, fun hq => ?_⟩
    all_goals refine hexec.trans (congrArg _ (failedPoll_ends ?_ hi))
    · rw [takeFailedPoll_stays (s := s.take i) (failedPoll_below hq hlow) (.inr hlow), List.append_nil]
      rfl
    · rw [takeFailedPoll_fails (s := s.take i) (failedPoll_at hq hhigh) hq hhigh]
      cases r with
      | dropped cause => cases cause <;> rfl
      | _ => rfl
    · rw [takeFailedPoll_stays (s := s.take i) (failedPoll_of_failed hq) (.inl hq), List.append_nil]
      rfl
  · refine if_neg fun hok => ?_
    simp only [frameOk, Bool.and_eq_true, beq_iff_eq] at hok
    exact hbad.elim (· hok.1.2) (· hok.2)
  · have hwaits : expiryStands .responseTimeout (timeoutOut s) s = false := by
      simp [expiryStands, timeoutOut, hc, hearly, hmem]
    simp only [exec, execResponseTimeout, event_running hrun, hwaits, Bool.false_eq_true, if_false, id]

/-- What an accepted reading that leaves slot `k` as `z` comes to. -/
theorem accepted_ends {z : SlotState} {more : List Instr} {u : State} (ha : s.ip.assembled = [])
    (hu : u = { (s.take i).setSlot k z with handed := (s.take i).handed ++ more }) (hi : i.canonical = i) :
    nextPoll ⟨start, k, .waiting d⟩ u = { s with
      ip := { s.ip with cycle := (nextCycle s start k).1, deferred := (nextCycle s start k).2, slots := s.ip.slots.set k z }
      handed := s.handed.erase i ++ more } := by
  rw [failedPoll_ends hu hi, ← ha]

theorem responseShape_of_frameOk {address : Nat} {bs : List Byte} (h : frameOk address bs = true) :
    responseShape bs = true := by
  simp only [frameOk, Bool.and_eq_true] at h
  exact h.1.1

theorem shape_of_accepted {t : Tables} {c : SlotConfig} {x : SlotState} {bs : List Byte}
    (h : judgeResponse t c x bs ≠ .frameFault) : responseShape bs = true := by
  by_contra hbad
  exact h (if_neg fun hok => hbad (responseShape_of_frameOk hok))

/-- R52: the bytes before a start byte are discarded, the others held. -/
theorem assembleResponse_append {pre q : List Byte} (hpre : ∀ b ∈ pre, b ≠ 0x5A#8) (hq : q = [] ∨ q.head? = some 0x5A#8) :
    assembleResponse [] (pre ++ q) = q := by
  rw [assembleResponse, List.nil_append, List.dropWhile_append_of_pos (by simpa using hpre)]
  rcases hq with rfl | hq
  · rfl
  · obtain ⟨q, rfl⟩ : ∃ q', q = 0x5A#8 :: q' := List.head?_eq_some_iff.mp hq
    simp

/-- Settles O43. -/
theorem goodResponseIsTaken : Obligations.GoodResponseIsTaken := by
  refine fun bs k start d s hrun => ⟨fun hc ha => ⟨⟨_, _, afterPoll_nextCycle s start k, fun r hr => ?_⟩,
    fun pre q hbs hpre hq hlen => ?_⟩, fun hidle => ?_⟩
  · have hjudged (hr' : r ≠ .frameFault) := response_judged (s := s) hrun hc ha (shape_of_accepted (hr ▸ hr'))
    rw [hr] at hjudged
    refine ⟨?_, ?_⟩
    · rintro rfl
      refine ⟨fun hq => ?_, fun hq hlow => ?_, fun hq hhigh => ?_⟩
      all_goals refine (hjudged (by decide)).trans (congrArg _ (accepted_ends ha ?_ rfl))
      · rw [takeOutcome, takeAccepted_running (s := s.take _) hq]
        rfl
      · rw [takeOutcome, takeAccepted_recovering (s := s.take _) hq hlow, List.append_nil]
        rfl
      · rw [takeOutcome, takeAccepted_recovered (s := s.take _) hq hhigh, recoverSlot_eq, List.cons_append]
        rfl
    · rintro cause rfl
      refine ⟨fun hq => ?_, fun hq => ?_⟩
      all_goals refine (hjudged (by simp)).trans (congrArg _ (accepted_ends ha ?_ rfl))
      · rw [takeOutcome, takeAccepted_running (s := s.take _) hq]
        rfl
      · rw [takeOutcome, takeAccepted_failed_suspect (s := s.take _) hq, List.append_nil]
        rfl
  · subst hbs
    have hc' : (s.take (.instrumentResponse (pre ++ q))).ip.cycle = some ⟨start, k, .waiting d⟩ := hc
    have ha' : (s.take (.instrumentResponse (pre ++ q))).ip.assembled = [] := ha
    simp only [exec, execInstrumentResponse, event_running hrun, takeResponse, hc', ha', assembleResponse_append hpre hq, hlen,
      if_true]
    rfl
  · refine (event_running hrun).trans (congrArg _ ?_)
    cases hc : s.ip.cycle with
    | none =>
      have hc' : (s.take (.instrumentResponse bs)).ip.cycle = none := hc
      simp only [takeResponse, hc']
    | some c =>
      have hc' : (s.take (.instrumentResponse bs)).ip.cycle = some c := hc
      simp only [takeResponse, hc', hidle c hc]

end

end Sys2Proof.Proofs.Polling
end

section
/-! The Metering Unit: what a period close does to both meters and to the flow state (O40). -/
namespace Sys2Proof.Proofs.Metering

open Sys2Proof Sys2Proof.Machine
open Sys2Proof.Proofs.Answers

/-! ### The events of a period (R31, R33) -/

/-- METER_OVERRANGE of a period, where it is due. -/
def overPosts (m : MeterId) (s : State) : List Instr :=
  if (periodRecord s m).1.overrange && !(meterOf s.mu m).overLatch then
    [.eventPosted .meterOverrange (meterNumber m) (min (meterOf s.mu m).pulses 2147483647 : Nat)]
  else []

/-- TEMP_SUBSTITUTED of a period, where it is due. -/
def subPosts (m : MeterId) (s : State) : List Instr :=
  if (periodRecord s m).1.substituted && !(meterOf s.mu m).subLatch then
    [.eventPosted .tempSubstituted (meterNumber m) (fallback s.tables.params m)]
  else []

theorem postOverrange_eq (m : MeterId) (before s : State) :
    postOverrange m before s = { s with handed := s.handed ++ overPosts m before } := by
  unfold postOverrange overPosts
  split
  · simp [State.post, State.hand]
  · simp

theorem postSubstituted_eq (m : MeterId) (before s : State) :
    ∃ train, postSubstituted m before s
        = { s with lt := { s.lt with train := train }, handed := s.handed ++ subPosts m before }
      ∧ ((periodRecord before m).1.substituted = false → train = s.lt.train) := by
  unfold postSubstituted subPosts
  cases hsub : (periodRecord before m).1.substituted with
  | false => exact ⟨s.lt.train, by simp, fun _ => rfl⟩
  | true =>
    refine ⟨markManifold (fun f => { f with tempSubstituted := true }) s.lt.train, ?_, by simp⟩
    cases hlatch : (meterOf before.mu m).subLatch <;> simp [State.setTrain, State.post, State.hand]

/-- What the events of one meter come to. -/
theorem meterPosts_eq (m : MeterId) (before s : State) :
    ∃ train, postSubstituted m before (postOverrange m before s)
        = { s with lt := { s.lt with train := train }, handed := s.handed ++ overPosts m before ++ subPosts m before }
      ∧ ((periodRecord before m).1.substituted = false → train = s.lt.train) := by
  rw [postOverrange_eq]
  exact postSubstituted_eq m before _

/-! ### The flow state (R41, R43) -/

/-- The Metering Unit after a period close with the given inlet flow and increment, and what the flow state hands out. -/
def flowStep (p : Params) (q std : Nat) (mu : MeterUnit) : MeterUnit × List Instr :=
  match mu.flowState with
  | .flowing =>
    if q < p.standstillFlow then
      if p.standstillTime ≤ mu.lowRun + 1 then
        ({ mu with flowState := .standstill, lowRun := 0, resume := 0 }, [.eventPosted .standstill 0 q, .standstillCountRaise])
      else ({ mu with lowRun := mu.lowRun + 1 }, [])
    else ({ mu with lowRun := 0 }, [])
  | .standstill =>
    if p.resumeVolume * 1000 ≤ mu.resume + std then
      ({ mu with flowState := .flowing, lowRun := 0, resume := 0 },
        [.eventPosted .flowing 0 ((mu.resume + std) / 1000 : Nat)])
    else ({ mu with resume := mu.resume + std }, [])

theorem flowClose_eq (q std : Nat) (s : State) : flowClose q std s
    = { s with mu := (flowStep s.tables.params q std s.mu).1, handed := s.handed ++ (flowStep s.tables.params q std s.mu).2 } := by
  cases hf : s.mu.flowState with
  | flowing =>
    simp only [flowClose, flowStep, hf, flowingClose]
    by_cases hq : q < s.tables.params.standstillFlow <;>
      by_cases ht : s.tables.params.standstillTime ≤ s.mu.lowRun + 1 <;>
      simp [hq, ht, State.post, State.hand]
  | standstill =>
    simp only [flowClose, flowStep, hf, standstillClose]
    split <;> simp [State.post, State.hand]

theorem flowStep_meters (p : Params) (q std : Nat) (mu : MeterUnit) :
    (flowStep p q std mu).1.inlet = mu.inlet ∧ (flowStep p q std mu).1.delivery = mu.delivery
      ∧ (flowStep p q std mu).1.periodDue = mu.periodDue := by
  unfold flowStep
  split <;> split <;> [split; skip; skip; skip] <;> exact ⟨rfl, rfl, rfl⟩

/-! ### The period close (R30 to R43) -/

/-- The flow state's step at the close of the period of `s`. -/
def closedFlow (s : State) : MeterUnit × List Instr :=
  flowStep s.tables.params (closedMeter s .inlet).flow (closedMeter s .inlet).last.std
    { s.mu with inlet := closedMeter s .inlet, delivery := closedMeter s .delivery }

/-- The events a period close posts, and the standstill it declares. -/
def periodPosts (s : State) : List Instr :=
  overPosts .inlet s ++ subPosts .inlet s ++ overPosts .delivery s ++ subPosts .delivery s ++ (closedFlow s).2

theorem closePeriod_eq (s : State) :
    ∃ train, closePeriod s = { s with
        mu := (closedFlow s).1, lt := { s.lt with train := train }
        handed := s.handed ++ periodPosts s ++ 
          [.ltSAdvance ((closedMeter s .inlet).std / 1000), .cpSAdvance ((closedMeter s .inlet).std / 1000) .routeController,
            .channelSAdvance .advance ((closedMeter s .inlet).std / 1000),
            .channelSAdvance .manifold ((closedMeter s .inlet).std / 1000),
            .periodIncrementBooking (closedMeter s .inlet).last.std (closedMeter s .delivery).last.std] }
      ∧ ((∀ m, (periodRecord s m).1.substituted = false) → train = s.lt.train) := by
  obtain ⟨t1, h1, hkept1⟩ := meterPosts_eq .inlet s
    { s with mu := { s.mu with inlet := closedMeter s .inlet, delivery := closedMeter s .delivery } }
  obtain ⟨t2, h2, hkept2⟩ := meterPosts_eq .delivery s
    { s with mu := { s.mu with inlet := closedMeter s .inlet, delivery := closedMeter s .delivery }
             lt := { s.lt with train := t1 }, handed := s.handed ++ overPosts .inlet s ++ subPosts .inlet s }
  refine ⟨t2, ?_, fun hnone => (hkept2 (hnone _)).trans (hkept1 (hnone _))⟩
  simp only [closePeriod, h1, h2, flowClose_eq]
  simp only [handResults, State.hand, List.append_assoc]
  simp only [periodPosts, closedFlow, List.append_assoc]
  rfl

section
variable {s : State} {m : MeterId}

/-- R36, R37: no volume is lost by a period close that fits the totalisers. -/
theorem meterClosed_closedMeter (hgross : (meterOf s.mu m).gross + (periodRecord s m).1.gross < 2 ^ 64)
    (hstd : (meterOf s.mu m).std + (periodRecord s m).1.std < 2 ^ 64) :
    Safety.MeterClosed (meterOf s.mu m) (closedMeter s m) (min (meterOf s.mu m).pulses (pulseLimit s.tables.params m))
      (pulseWeight s.tables.params m) (periodTemperature s m) (correctionFactor (periodAlpha s) (periodTemperature s m)) := by
  have hs := EveryStep.std_closedMeter hstd
  have hsub : (closedMeter s m).std - (meterOf s.mu m).std = (periodRecord s m).1.std := by rw [hs]; omega
  have hdiv := Nat.div_add_mod (min (meterOf s.mu m).pulses (pulseLimit s.tables.params m) * pulseWeight s.tables.params m
    * correctionFactor (periodAlpha s) (periodTemperature s m) + (meterOf s.mu m).residue) 1000000
  refine ⟨rfl, Booking.add64_of_lt hgross, EveryStep.residue_closedMeter s m, ?_, rfl, rfl, rfl, rfl, ?_, ?_, rfl, rfl⟩
  · rw [hs]
    simp only [closedMeter, periodRecord]
    omega
  · rw [hsub]; rfl
  · rw [hsub]; rfl

theorem mem_periodPosts {i : Instr} (h : i ∈ overPosts m s ∨ i ∈ subPosts m s ∨ i ∈ (closedFlow s).2) : i ∈ periodPosts s := by
  cases m <;> simp only [periodPosts, List.mem_append] <;> tauto

/-- R41: only the flow state's step declares a standstill. -/
theorem standstill_of_mem_periodPosts (h : .standstillCountRaise ∈ periodPosts s) :
    .standstillCountRaise ∈ (closedFlow s).2 := by
  have hover : ∀ m, .standstillCountRaise ∉ overPosts m s := fun m => by unfold overPosts; split <;> simp
  have hsub : ∀ m, .standstillCountRaise ∉ subPosts m s := fun m => by unfold subPosts; split <;> simp
  simpa [periodPosts, hover, hsub] using h

end

/-! ### The flow state's step, case by case -/

section
variable {p : Params} {q std : Nat} {mu : MeterUnit}

theorem flowStep_flowing (hf : mu.flowState = .flowing) (hq : p.standstillFlow ≤ q) :
    flowStep p q std mu = ({ mu with lowRun := 0 }, []) := by
  simp only [flowStep, hf, if_neg (Nat.not_lt.mpr hq)]

theorem flowStep_low (hf : mu.flowState = .flowing) (hq : q < p.standstillFlow) (ht : mu.lowRun + 1 < p.standstillTime) :
    flowStep p q std mu = ({ mu with lowRun := mu.lowRun + 1 }, []) := by
  simp only [flowStep, hf, if_pos hq, if_neg (Nat.not_le.mpr ht)]

theorem flowStep_declares (hf : mu.flowState = .flowing) (hq : q < p.standstillFlow) (ht : p.standstillTime ≤ mu.lowRun + 1) :
    flowStep p q std mu = ({ mu with flowState := .standstill, lowRun := 0, resume := 0 },
      [.eventPosted .standstill 0 q, .standstillCountRaise]) := by
  simp only [flowStep, hf, if_pos hq, if_pos ht]

theorem flowStep_standstill (hf : mu.flowState = .standstill) (h : mu.resume + std < p.resumeVolume * 1000) :
    flowStep p q std mu = ({ mu with resume := mu.resume + std }, []) := by
  simp only [flowStep, hf, if_neg (Nat.not_le.mpr h)]

theorem flowStep_resumes (hf : mu.flowState = .standstill) (h : p.resumeVolume * 1000 ≤ mu.resume + std) :
    flowStep p q std mu = ({ mu with flowState := .flowing, lowRun := 0, resume := 0 },
      [.eventPosted .flowing 0 ((mu.resume + std) / 1000 : Nat)]) := by
  simp only [flowStep, hf, if_pos h]

end

/-- R30: a pulse is counted, up to the largest 32-bit value. -/
theorem pulseCounted {s : State} (hrun : s.running = true) : Safety.PulseCounted s :=
  ⟨event_running hrun, event_running hrun⟩

/-- Settles O40. -/
theorem periodCloseMetersBothLines : Obligations.PeriodCloseMetersBothLines := by
  refine fun s hrun => ⟨pulseCounted hrun, fun hgross hstd => ?_⟩
  obtain ⟨train, hclose, hkept⟩ := closePeriod_eq (s.take .meterPeriodClose)
  obtain ⟨hin, hde, hdue⟩ := flowStep_meters s.tables.params (closedMeter s .inlet).flow (closedMeter s .inlet).last.std
    { s.mu with inlet := closedMeter s .inlet, delivery := closedMeter s .delivery }
  have hmeter : ∀ m, meterOf (closedFlow s).1 m = closedMeter s m
    | .inlet => hin
    | .delivery => hde
  have hexec : exec .meterPeriodClose s = .next { s with
      mu := (closedFlow s).1, lt := { s.lt with train := train }
      handed := s.handed.erase .meterPeriodClose ++ periodPosts s ++ [.ltSAdvance ((closedFlow s).1.inlet.std / 1000),
        .cpSAdvance ((closedFlow s).1.inlet.std / 1000) .routeController,
        .channelSAdvance .advance ((closedFlow s).1.inlet.std / 1000),
        .channelSAdvance .manifold ((closedFlow s).1.inlet.std / 1000),
        .periodIncrementBooking (closedFlow s).1.inlet.last.std (closedFlow s).1.delivery.last.std] } := by
    rw [show (closedFlow s).1.inlet = closedMeter s .inlet from hin, show (closedFlow s).1.delivery = closedMeter s .delivery from hde]
    exact (event_running hrun).trans (congrArg _ hclose)
  refine ⟨_, periodPosts s, hexec, fun m => ?_, fun m => ?_, rfl, fun m hover hlatch => ?_, fun m hsub hlatch => ?_, rfl,
    fun hnone => ?_, hdue, fun hf => ⟨fun hq => ?_, fun hq => ⟨fun ht => ?_, fun ht => ?_⟩⟩, fun hf => ⟨fun hv => ?_, fun hv => ?_⟩⟩
  all_goals dsimp only at *
  · rw [hmeter]
    exact meterClosed_closedMeter (hgross m) (hstd m)
  · rw [hmeter]
    exact ⟨rfl, rfl⟩
  · refine mem_periodPosts (m := m) (.inl ?_)
    rw [hmeter] at hover
    have hover' : (periodRecord s m).1.overrange = true := hover
    simp [overPosts, hover', hlatch]
  · refine mem_periodPosts (m := m) (.inr (.inl ?_))
    rw [hmeter] at hsub
    have hsub' : (periodRecord s m).1.substituted = true := hsub
    simp [subPosts, hsub', hlatch]
  · rw [hkept fun m => (congrArg (·.last.substituted) (hmeter m)).symm.trans (hnone m)]
    rfl
  · have hflow : closedFlow s = _ := flowStep_flowing hf (hin ▸ hq)
    exact ⟨by rw [hflow]; exact hf, by rw [hflow], fun hmem => by simpa [hflow] using standstill_of_mem_periodPosts hmem⟩
  · have hflow : closedFlow s = _ := flowStep_low hf (hin ▸ hq) ht
    exact ⟨by rw [hflow]; exact hf, by rw [hflow], fun hmem => by simpa [hflow] using standstill_of_mem_periodPosts hmem⟩
  · have hflow : closedFlow s = _ := flowStep_declares hf (hin ▸ hq) ht
    refine ⟨by rw [hflow], by rw [hflow], by rw [hflow], ?_, ?_⟩
    · exact mem_periodPosts (m := .inlet) (.inr (.inr (by simp [hflow])))
    · exact mem_periodPosts (m := .inlet) (.inr (.inr (by simp [hflow])))
  · have hflow : closedFlow s = _ := flowStep_standstill hf (hin ▸ hv)
    exact ⟨by rw [hflow]; exact hf, by rw [hflow]⟩
  · have hflow : closedFlow s = _ := flowStep_resumes hf (hin ▸ hv)
    refine ⟨by rw [hflow], by rw [hflow], by rw [hflow], ?_⟩
    exact mem_periodPosts (m := .inlet) (.inr (.inr (by simp [hflow])))

end Sys2Proof.Proofs.Metering
end

section
/-! SET PARAMETER (O20). -/
namespace Sys2Proof.Proofs.Parameters

open Sys2Proof Sys2Proof.Machine
open Sys2Proof.Proofs.Answers
open Sys2Proof.Proofs.Routes

/-! ### The clamped parameters (R181) -/

section
variable {n : Nat} {lo hi v : Int}

/-- A clamped parameter is the parameter of its number, and no other. -/
theorem paramValues_setTuning {p : Params} (h : tuningRange n = some (lo, hi)) (hv : lo ≤ v) :
    paramValues (setTuning n v p) = (paramValues p).set (n - 1) v := by
  unfold tuningRange at h
  split at h
  all_goals
    simp only [Option.some.injEq, Prod.mk.injEq, reduceCtorEq] at h
  all_goals
    obtain ⟨rfl, rfl⟩ := h
    simp (disch := omega) only [setTuning, paramValues, Int.toNat_of_nonneg]
    rfl

theorem paramValues_length (p : Params) : (paramValues p).length = 33 := rfl

theorem tuningRange_number (h : tuningRange n = some (lo, hi)) : 1 ≤ n ∧ n ≤ 33 ∧ n ≠ 30 := by
  unfold tuningRange at h
  split at h <;> simp_all

end

/-! ### The completion check and the host link -/

/-- The state with another host link. -/
def withLink (l : LinkInterface) (s : State) : State := { s with li := l }

theorem judgeIfChanged_withLink (l : LinkInterface) (b : Bool) (s : State) :
    judgeIfChanged b (withLink l s) = withLink l (judgeIfChanged b s) := by
  simp only [judgeIfChanged, apply_ite (withLink l)]
  rfl

theorem issueTicket_withLink (l : LinkInterface) (e : Entry) (s : State) :
    issueTicket e (withLink l s) = withLink l (issueTicket e s) :=
  congrArg (State.post .ticketReady e.id (s.ts.length + 1)) (judgeIfChanged_withLink l s.ts.isEmpty
    { s.setTrain (s.lt.train.eraseP (fun x => x.id == e.id)) with
      ts := s.ts ++ [formTicket s.tables e ((behindOf e.id s.lt.train).bind (·.leading))] })

theorem completeBatch_withLink (l : LinkInterface) (m behind : Entry) (s : State) :
    completeBatch m behind (withLink l s) = withLink l (completeBatch m behind s) := by
  have hissue := fun e => issueTicket_withLink l e ((s.setTrain (completedTrain s m behind)).post .batchComplete m.id
    (indexOf m.id s.lt.train))
  simp only [completeBatch, apply_ite (withLink l)]
  refine if_congr Iff.rfl ?_ rfl
  change (match findEntry m.id (completedTrain s m behind) with
    | some e => issueTicket e _
    | none => _) = withLink l (match findEntry m.id (completedTrain s m behind) with
    | some e => issueTicket e _
    | none => _)
  cases findEntry m.id (completedTrain s m behind) with
  | some e => exact hissue e
  | none => rfl

theorem completeOnce_withLink (l : LinkInterface) (s : State) :
    completeOnce (withLink l s) = (completeOnce s).map (withLink l) := by
  have htrain : (withLink l s).lt.train = s.lt.train := rfl
  have hcompletes : ∀ e, completes (withLink l s) e = completes s e := fun _ => rfl
  simp only [completeOnce, htrain, hcompletes, completeBatch_withLink]
  cases manifoldOf s.lt.train with
  | none => rfl
  | some m =>
    dsimp only
    cases behindOf m.id s.lt.train with
    | none => rfl
    | some e =>
      dsimp only
      rw [apply_ite (Option.map (withLink l))]
      rfl

theorem completionLoop_withLink (l : LinkInterface) (n : Nat) (s : State) :
    completionLoop n (withLink l s) = withLink l (completionLoop n s) := by
  induction n generalizing s with
  | zero => rfl
  | succ n ih =>
    cases h : completeOnce s with
    | none => simp [completionLoop, completeOnce_withLink, h]
    | some t => simp [completionLoop, completeOnce_withLink, h, ih]

/-- The completion check does not read the host link. -/
theorem completionCheck_withLink (l : LinkInterface) (s : State) :
    completionCheck (withLink l s) = withLink l (completionCheck s) := completionLoop_withLink l _ s

/-! ### What a parameter's change brings about -/

section
variable {n : Nat} {v lo hi : Int} {s : State}

/-- The state in which a parameter's change takes effect: the tables changed and marked as edited. -/
def withParams (p : Params) (s : State) : State := setEdited (s.setTables { s.tables with params := p })

theorem afterParameter_plain (h2 : n ≠ 2) (h30 : n ≠ 30) (s : State) : ∃ el, afterParameter n s = { s with el := el } := by
  unfold afterParameter
  split
  · contradiction
  · contradiction
  all_goals exact ⟨_, rfl⟩

theorem setParameter_tuned (hrun : s.running = true) (h : tuningRange n = some (lo, hi))
    (hmode : n = 2 → s.sm.mode = .hold ∨ s.sm.mode = .unconfigured) :
    exec (.setParameter n v) s = .next (acceptSet 0x30 (clampInt lo hi v != v) (enc1 n ++ encSigned 4 (clampInt lo hi v))
      (afterParameter n (withParams (setTuning n (clampInt lo hi v) s.tables.params) s))) := by
  have hfree : ¬(n = 2 ∧ leadRefused s = true) := by
    rintro ⟨h2, hlead⟩
    rcases hmode h2 with hm | hm <;> simp [leadRefused, hm] at hlead
  simp only [exec, execSetParameter, request_running hrun, h, if_neg hfree]
  rfl

theorem setParameter_structural (hrun : s.running = true) (h : tuningRange n = none) : exec (.setParameter n v) s
    = .next (match setStructural s.tables n v with
      | some p => acceptSet 0x30 false (enc1 n ++ encSigned 4 v) (afterParameter n (withParams p s))
      | none => s.refuse 0x30 .badValue 0) := by
  simp only [exec, execSetParameter, request_running hrun, h]
  rfl

theorem afterParameter_noTrack (h30 : n ≠ 30) (s : State) : (afterParameter n s).noTrack = s.noTrack := by
  by_cases h2 : n = 2
  · subst h2
    exact completionCheck_noTrack s
  · obtain ⟨el, h⟩ := afterParameter_plain h2 h30 s
    rw [h]
    rfl

/-- R2: once taken, the lead volume makes the check an action's leaving makes. -/
theorem actionLeftList_withParams (hrun : s.running = true) (p : Params) (x : Nat) :
    exec (.actionLeftList x) { s with tables := { s.tables with params := p }, handed := .actionLeftList x :: s.handed }
      = .next { completionCheck (withParams p s) with li := s.li } := by
  have htake : State.take (.actionLeftList x)
      { s with tables := { s.tables with params := p }, handed := .actionLeftList x :: s.handed }
      = withLink s.li (withParams p s) := by
    simp only [State.take, Instr.canonical, List.erase_cons_head]
    rfl
  simp only [exec, execActionLeftList]
  rw [event_running (by exact hrun), htake, completionCheck_withLink]
  rfl

/-- The clamped parameters of O20. -/
theorem tunedParameter (hrun : s.running = true) (h : tuningRange n = some (lo, hi))
    (hmode : n = 2 → s.sm.mode = .hold ∨ s.sm.mode = .unconfigured) :
      ∃ t, exec (.setParameter n v) s = .next t
        ∧ (paramValues t.tables.params)[n - 1]? = some (max lo (min hi v))
        ∧ (∀ m, m ≠ n - 1 → (paramValues t.tables.params)[m]? = (paramValues s.tables.params)[m]?)
        ∧ t.tables = { s.tables with params := t.tables.params } ∧ t.li.edited = true
        ∧ t.li.reply = some ⟨0xB0,
            [if max lo (min hi v) = v then 0#8 else 1#8] ++ encUnsigned 1 n ++ encSigned 4 (max lo (min hi v))⟩
        ∧ t.sm = s.sm ∧ t.rc = s.rc ∧ t.cp = s.cp ∧ t.mu = s.mu ∧ t.ip = s.ip ∧ t.sd = s.sd ∧ t.cs = s.cs
        ∧ (n ≠ 2 → t.lt = s.lt ∧ t.ts = s.ts ∧ t.handed = s.handed)
        ∧ (n = 2 → ∀ x, exec (.actionLeftList x) { s with tables := t.tables, handed := .actionLeftList x :: s.handed }
            = .next { t with li := s.li }) := by
  obtain ⟨h1, h33, h30⟩ := tuningRange_number h
  have hlo : lo ≤ clampInt lo hi v := le_max_left ..
  have hvalues := paramValues_setTuning (p := s.tables.params) h hlo
  obtain ⟨lt, ts, el, xs, hafter⟩ : ∃ lt ts el xs, afterParameter n (withParams (setTuning n (clampInt lo hi v) s.tables.params) s)
      = { withParams (setTuning n (clampInt lo hi v) s.tables.params) s with lt := lt, ts := ts, el := el, handed := xs } :=
    ⟨_, _, _, _, eq_of_noTrack (afterParameter_noTrack h30 _)⟩
  have hexec := setParameter_tuned (v := v) hrun h hmode
  rw [hafter] at hexec
  refine ⟨_, hexec, ?_, fun m hm => ?_, rfl, rfl, ?_, rfl, rfl, rfl, rfl, rfl, rfl, rfl, fun h2 => ?_, ?_⟩
  · refine (congrArg (·[n - 1]?) hvalues).trans ?_
    rw [List.getElem?_set_self (by rw [paramValues_length]; omega)]
    rfl
  · exact (congrArg (·[m]?) hvalues).trans (List.getElem?_set_ne (Ne.symm hm))
  · have hmark : encBool (clampInt lo hi v != v) = [if clampInt lo hi v = v then 0#8 else 1#8] := by
      by_cases hv : clampInt lo hi v = v <;> simp [encBool, hv]
    change some (⟨0xB0, encBool (clampInt lo hi v != v) ++ (enc1 n ++ encSigned 4 (clampInt lo hi v))⟩ : Reply) = _
    rw [hmark, ← List.append_assoc]
    rfl
  · obtain ⟨el', hplain⟩ := afterParameter_plain h2 h30 (withParams (setTuning n (clampInt lo hi v) s.tables.params) s)
    rw [hplain] at hafter
    exact ⟨(congrArg State.lt hafter).symm, (congrArg State.ts hafter).symm, (congrArg State.handed hafter).symm⟩
  · rintro rfl x
    refine (actionLeftList_withParams hrun _ x).trans (congrArg _ ?_)
    rw [show completionCheck (withParams _ s) = _ from hafter]
    rfl

end

end Sys2Proof.Proofs.Parameters
end

section
/-! The safe route and the structural parameters (O20). -/
namespace Sys2Proof.Proofs.Parameters

open Sys2Proof Sys2Proof.Machine
open Sys2Proof.Proofs.Answers
open Sys2Proof.Proofs.Routes
open Sys2Proof.Proofs.EveryStep (valveIs_iff valveIs_ne)

/-! ### The comparison after a change of the safe route (R135) -/

section
variable {r : RouteNo} {s : State} {p : Params}

/-- The state in which the safe route is compared: the latch is clear. -/
def unlatched (p : Params) (s : State) : State := (withParams p s).setLatch false

theorem unlatched_valveIs (x : RouteNo) (w : ValveState) : valveIs (unlatched p s) x w = valveIs s x w := rfl

theorem target_unlatched (hmode : s.sm.mode = .tracking) : target (unlatched p s) = target s := by
  simp [target, unlatched, withParams, setEdited, State.setTables, State.setLatch, hmode]
  rfl

theorem target_unlatched_safe (hmode : s.sm.mode = .safe) (hp : p.safeRoute = some r) :
    target (unlatched p s) = some ([r], manifoldId s.lt.train) := by
  have hmode' : (unlatched p s).sm.mode = .safe := hmode
  have hp' : (unlatched p s).tables.params.safeRoute = some r := hp
  simp only [target, hmode', hp']
  rfl

theorem compare_travelling {x : RouteNo} (h : travelling s x = true) : Machine.compare s = s := by
  have hany : allRoutes.any (travelling s) = true := List.any_eq_true.mpr ⟨x, mem_allRoutes x, h⟩
  unfold Machine.compare
  split <;> simp [hany]

theorem compare_agrees {rs : List RouteNo} {owner : Nat} (ht : target s = some (rs, owner)) (ha : agrees s rs = true) :
    Machine.compare s = s := by
  simp [Machine.compare, ht, ha]

theorem closingRoutes_single : closingRoutes s [r]
    = allRoutes.filter (fun x => !(x == r) && (valveIs s x .opened || valveIs s x .unknown)) :=
  List.filter_congr fun x _ => by by_cases h : x = r <;> simp [h]

theorem agrees_single (h : valveIs s r .opened = true) : agrees s [r] = (closingRoutes s [r]).isEmpty := by
  rw [Bool.eq_iff_iff]
  simp only [agrees, closingRoutes, List.all_cons, h, List.all_nil, Bool.true_and, List.all_eq_true, List.isEmpty_iff,
    List.filter_eq_nil_iff]
  refine forall₂_congr fun x _ => ?_
  cases [r].contains x <;> simp

/-- A switch whose commanded routes have not come to their end position stands as it is. -/
theorem settleSwitch_notThere {w : Switch} (hw : s.rc.switching = some w) (hsome : w.commanded ≠ []) (harrived : w.arrived = [])
    (h : ∀ x ∈ w.commanded, valveIs s x (phaseEnd w.phase) = false) : settleSwitch s = s := by
  have hnot : ∀ x ∈ w.commanded, ¬There s w x := fun x hx hthere => by
    rcases hthere with hin | hin
    · simp [harrived] at hin
    · simp [h x hx] at hin
  have hnote : noteArrivals w s = w := by
    have hempty : w.commanded.filter (fun x => w.arrived.contains x || valveIs s x (phaseEnd w.phase)) = w.arrived := by
      rw [harrived, List.filter_eq_nil_iff]
      exact fun x hx => by simp [h x hx]
    simp only [noteArrivals, hempty]
  obtain ⟨x, hx⟩ := List.exists_mem_of_ne_nil _ hsome
  rw [settleSwitch_waiting hw ⟨x, hx, hnot x hx⟩, hnote, ← hw]
  rfl

/-- R136: a switch to one route, which its limits do not show OPEN, sets it travelling. -/
theorem settleSwitch_begun_single {v : Valve} {owner : Nat} (hv : s.rc.valves.get r = some v)
    (hstate : OpensFrom v.state) (hlimits : s.rc.limits.get r ≠ ⟨true, false⟩) :
    settleSwitch (beginSwitch [r] owner s)
      = ((s.setSwitch (some ⟨[r], owner, .opening, [r], [], false, s.stationS⟩)).post .switchBegun owner
          (routeSetCode [r])).setValve r (some (travelValve s r .opening v)) := by
  have hclosed : valveIs s r .opened = false := by
    rw [valveIs_eq hv]
    rcases hstate with h | h | h <;> simp [h]
  have htoOpen : toOpen s [r] = [r] := by simp [toOpen, hclosed]
  have hbegun : begunState [r] owner s = (s.setSwitch (some ⟨[r], owner, .opening, [r], [], false, s.stationS⟩)).post
      .switchBegun owner (routeSetCode [r]) := by rw [begunState, htoOpen]
  have hbegin : beginSwitch [r] owner s = (begunState [r] owner s).setValve r (some (travelValve s r .opening v)) := by
    have hv' : (begunState [r] owner s).rc.valves.get r = some v := hv
    rw [beginSwitch_eq, htoOpen, List.foldl_cons, List.foldl_nil, commandOpen_taken hv' hstate, if_neg (by exact hlimits),
      enterTravel_eq hv']
    rfl
  rw [hbegin, hbegun]
  exact settleSwitch_notThere (w := ⟨[r], owner, .opening, [r], [], false, s.stationS⟩) rfl (by simp) rfl
    (by simp [valveIs, valveState, phaseEnd, travelValve])

/-- R137: a switch to one route that is OPEN closes the others at once. -/
theorem settleSwitch_closes_others {owner : Nat} (hopen : valveIs s r .opened = true) (hsome : closingRoutes s [r] ≠ [])
    (hlimits : ∀ x ∈ closingRoutes s [r], (s.rc.limits.get x).closed = false) :
    Travelled (closingRoutes s [r]) .closing
      ((begunState [r] owner s).setSwitch (some ⟨[r], owner, .closing, closingRoutes s [r], [], false, s.stationS⟩))
      (settleSwitch (beginSwitch [r] owner s)) := by
  have htoOpen : toOpen s [r] = [] := by simp [toOpen, hopen]
  rw [beginSwitch_eq, htoOpen, List.foldl_nil]
  exact settleSwitch_closing (s := begunState [r] owner s) (w := ⟨[r], owner, .opening, toOpen s [r], [], false, s.stationS⟩) rfl
    (by simp [htoOpen]) rfl rfl hsome hlimits

/-- What a change of the safe route leads to, from what the comparison leaves of the Route Controller. -/
theorem safeRouteCompared {leaves : State → Prop} (hp : p.safeRoute = some r)
    (h : ∀ rc xs, Machine.compare (unlatched p s) = { unlatched p s with rc := rc, handed := xs } →
      leaves { s with rc := rc, handed := xs }) : Safety.SafeRouteCompared r s leaves := by
  have hsame (hc : Machine.compare (unlatched p s) = unlatched p s) : leaves { s with rc := { s.rc with latch := false } } :=
    h _ s.handed hc
  refine ⟨fun ht hs => hsame (compare_untargeted ⟨ht, hs⟩), fun ht hnone => hsame (compare_of_target_none ?_),
    fun _ hbusy => hsame ?_, fun _ => ?_, fun hs hw htravel => ?_⟩
  · rw [target_unlatched ht, hnone]
  · rcases hbusy with hw | ⟨x, hx⟩
    · obtain ⟨w, hw⟩ := Option.ne_none_iff_exists'.mp hw
      exact compare_switching (w := w) hw
    · exact compare_travelling (x := x) hx
  · obtain ⟨rc, more, hframe⟩ := Train.compare_frame (unlatched p s)
    exact ⟨rc, more, h rc _ hframe⟩
  · have htarget := target_unlatched_safe (s := s) hs hp
    rw [← closingRoutes_single]
    refine ⟨fun hopen hnone => hsame (compare_agrees htarget ?_), fun hlocked => ?_, fun v hv hlocked hopen hlimits => ?_,
      fun hopen hsome hlimits => ?_⟩
    · rw [agrees_single (s := unlatched p s) hopen]
      exact List.isEmpty_iff.mpr hnone
    · refine h _ _ ((compare_lockedOut (x := r) htarget hw (agrees_of_closed (x := r) (by simp) (valveIs_ne hlocked (by simp)))
        htravel rfl ?_).trans ?_)
      · refine find_lowest (by simpa [unlatched_valveIs] using hlocked) fun x hx => ?_
        have hne : x ≠ r := by rintro rfl; omega
        simp [hne]
      · rw [if_pos (by exact hs)]
        rfl
    · refine h _ _ ((compare_begins htarget hw (agrees_of_closed (x := r) (by simp) ?_) htravel rfl ?_).trans
        (settleSwitch_begun_single (s := unlatched p s) hv ?_ hlimits))
      · exact (valveIs_eq (s := s) hv _).trans (by simpa using hopen)
      · simpa [unlatched_valveIs] using (valveIs_eq (s := s) hv _).trans (by simpa using hlocked)
      · have hnot := htravel r
        simp only [travelling, valveIs_eq hv] at hnot
        revert hnot hlocked hopen
        cases v.state <;> simp [OpensFrom]
    · have hclosing := settleSwitch_closes_others (s := unlatched p s) (owner := manifoldId s.lt.train) hopen hsome hlimits
      have hcompare : Machine.compare (unlatched p s) = settleSwitch (beginSwitch [r] (manifoldId s.lt.train) (unlatched p s)) := by
        refine compare_begins htarget hw ?_ htravel rfl ?_
        · rw [agrees_single (s := unlatched p s) hopen]
          exact List.isEmpty_eq_false_iff.mpr hsome
        · simpa [unlatched_valveIs] using valveIs_ne (w := .lockedOut) hopen (by simp)
      rw [← hcompare] at hclosing
      obtain ⟨vs, hframe⟩ : ∃ vs, Machine.compare (unlatched p s) = { unlatched p s with
          rc := { s.rc with
            latch := false, valves := vs
            switching := some ⟨[r], manifoldId s.lt.train, .closing, closingRoutes s [r], [], false, s.stationS⟩ }
          handed := s.handed ++ [.eventPosted .switchBegun (manifoldId s.lt.train) (routeSetCode [r])] } :=
        ⟨_, hclosing.frame⟩
      rw [hframe] at hclosing
      exact ⟨_, h _ _ hframe, rfl, rfl, fun x hx => (valveIs_iff ..).mp (hclosing.there x hx), hclosing.others⟩

end

/-! ### The parameters that are refused out of range -/

section
variable {n : Nat} {v : Int} {s : State}

theorem setParameter_refused (hrun : s.running = true) (h : tuningRange n = none) (hbad : setStructural s.tables n v = none) :
    exec (.setParameter n v) s = .next (s.refuse 0x30 .badValue 0) := by
  rw [setParameter_structural hrun h, hbad]

theorem setParameter_taken {p : Params} {rc : RouteController} {el : EventLog} {xs : List Instr} (hrun : s.running = true)
    (h : tuningRange n = none) (hp : setStructural s.tables n v = some p)
    (hafter : afterParameter n (withParams p s) = { withParams p s with rc := rc, el := el, handed := xs }) :
    exec (.setParameter n v) s = .next { s with
      rc := rc, el := el, handed := xs, tables := { s.tables with params := p }
      li := { s.li with
        edited := true, reply := some ⟨0xB0, 0#8 :: encUnsigned 1 n ++ encSigned 4 v⟩, assembler := .closed } } := by
  rw [setParameter_structural hrun h, hp]
  simp only [hafter]
  rfl

/-- R172: a change of the routing mask or of the ticket attention has ATTN judged. -/
theorem setParameter_judged {p : Params} (hn : n = 31 ∨ n = 33) (hrun : s.running = true) (h : tuningRange n = none)
    (hp : setStructural s.tables n v = some p) : exec (.setParameter n v) s = .next { s with
      el := { s.el with attn := attnWanted { s with tables := { s.tables with params := p } } }
      tables := { s.tables with params := p }
      li := { s.li with
        edited := true, reply := some ⟨0xB0, 0#8 :: encUnsigned 1 n ++ encSigned 4 v⟩, assembler := .closed } } := by
  have hafter : afterParameter n (withParams p s) = judgeAttn (withParams p s) := by rcases hn with rfl | rfl <;> rfl
  exact setParameter_taken (rc := s.rc) (xs := s.handed) hrun h hp (hafter.trans (judgeAttn_running (s := withParams p s) hrun))

theorem tuningRange_outside (h : n = 0 ∨ 33 < n) : tuningRange n = none := by
  by_contra hsome
  obtain ⟨⟨lo, hi⟩, hrange⟩ := Option.ne_none_iff_exists'.mp hsome
  have := tuningRange_number hrange
  omega

theorem setStructural_outside {t : Tables} (h : n = 0 ∨ 33 < n) : setStructural t n v = none := by
  unfold setStructural
  split <;> simp_all

theorem safeRouteAllowed_iff {t : Tables} {r : RouteNo} : safeRouteAllowed t r = true
    ↔ routeKind t r = some .through ∨ routeKind t r = some .transmix := by
  unfold safeRouteAllowed
  split <;> simp_all

end

/-- Settles O20. -/
theorem parametersAreClampedOrRefused : Obligations.ParametersAreClampedOrRefused := by
  refine ⟨fun n v lo hi s hrun h hmode => tunedParameter hrun h hmode, fun n v s hrun =>
    ⟨fun hn => setParameter_refused hrun ?_ ?_, fun hn hm => ?_, fun hn => ⟨fun hbad => ?_, fun h1 h62 => ?_⟩,
      fun hn => ⟨fun h1 h2 => ?_, fun hv hnone => ?_, fun hv hsome => ?_, fun hv => ?_⟩,
      fun hn => ⟨fun hv => ?_, fun r hv => ⟨fun h1 h2 => ?_, fun hkind => ?_⟩⟩,
      fun hn => ⟨fun hv => ?_, fun h0 h63 => ?_⟩, fun hn => ⟨fun h0 h1 => ?_, fun hv => ?_⟩⟩⟩
  · exact tuningRange_outside hn
  · exact setStructural_outside hn
  · subst hn
    have hlead : leadRefused s = true := by rcases hm with h | h | h <;> simp [leadRefused, h]
    simp [exec, execSetParameter, request_running hrun, tuningRange, hlead]
  · subst hn
    exact setParameter_refused hrun rfl (if_neg hbad)
  · subst hn
    exact setParameter_taken hrun rfl (if_pos ⟨h1, h62⟩) rfl
  · subst hn
    exact setParameter_refused hrun rfl (by simp [setStructural, h1, h2])
  · subst hn hv
    exact setParameter_refused hrun rfl (by simp [setStructural, hnone])
  · subst hn hv
    exact setParameter_taken hrun rfl (by simp [setStructural, Option.isSome_iff_ne_none.mpr hsome]) rfl
  · subst hn hv
    exact setParameter_taken hrun rfl (by simp [setStructural]) rfl
  · subst hn
    have hno : (if 0 ≤ v then routeOfNumber v.toNat else none) = none := by
      split
      · exact routeOfNumber_none (by omega)
      · rfl
    exact setParameter_refused hrun rfl (by simp [setStructural, hno])
  · subst hn hv
    exact setParameter_refused hrun rfl (by simp [setStructural, safeRouteAllowed_iff, h1, h2])
  · subst hn hv
    refine safeRouteCompared (p := { s.tables.params with safeRoute := some r }) rfl fun rc xs hcompare => ?_
    exact setParameter_taken hrun rfl (by simp [setStructural, safeRouteAllowed_iff, hkind]) hcompare
  · subst hn
    exact setParameter_refused hrun rfl (if_neg hv)
  · subst hn
    exact setParameter_judged (.inl rfl) hrun rfl (if_pos ⟨h0, h63⟩)
  · subst hn
    exact setParameter_refused hrun rfl ((if_neg h0).trans (if_neg h1))
  · subst hn
    rcases hv with rfl | rfl
    · exact setParameter_judged (.inr rfl) hrun rfl (by simp [setStructural])
    · exact setParameter_judged (.inr rfl) hrun rfl (by simp [setStructural])

end Sys2Proof.Proofs.Parameters
end

section
/-! What the Cut Planner's operations leave alone while the Route Controller has no target, and the starts (O59, O60). -/
namespace Sys2Proof.Proofs.Starts

open Sys2Proof Sys2Proof.Machine
open Sys2Proof.Proofs.Answers
open Sys2Proof.Proofs.Routes

/-! ### Scheduling beside no target -/

/-- What scheduling leaves of the train: the batches and the states of their interfaces. -/
def tracks (t : List Entry) : List (Nat × Option TrackState) := t.map (fun e => (e.id, e.leading.map (·.track)))

/-- Only the Cut Planner, the marks of the train entries and the hand-offs have changed. -/
structure Planned (s t : State) : Prop where
  frame : t = { s with lt := { s.lt with train := t.lt.train }, cp := t.cp, handed := t.handed }
  tracks : tracks t.lt.train = tracks s.lt.train
  handed : s.handed <+: t.handed
  noEnd : .startEnd ∈ t.handed → .startEnd ∈ s.handed

theorem tracks_modEntry {id : Nat} {f : Entry → Entry} {t : List Entry} (hid : ∀ e, (f e).id = e.id)
    (htrack : ∀ e, (f e).leading.map (·.track) = e.leading.map (·.track)) : tracks (modEntry id f t) = tracks t := by
  rw [tracks, modEntry, List.map_map]
  refine List.map_congr_left fun e _ => ?_
  by_cases h : e.id = id <;> simp [h, hid, htrack]

theorem tracks_markBatch (id : Nat) (f : TicketFlags → TicketFlags) (t : List Entry) : tracks (markBatch id f t) = tracks t := by
  refine tracks_modEntry (fun e => ?_) fun e => ?_ <;> cases e.complete <;> rfl

theorem tracks_markManifold (f : TicketFlags → TicketFlags) (t : List Entry) : tracks (markManifold f t) = tracks t := by
  unfold markManifold
  split
  · exact tracks_markBatch ..
  · rfl

theorem tracks_flagAction (a : Action) (t : List Entry) : tracks (flagAction a t) = tracks t := by
  unfold flagAction
  split
  · exact tracks_markManifold ..
  · dsimp only
    split
    · rw [tracks_markBatch, tracks_markBatch]
    · exact tracks_markBatch ..

theorem tracks_markLeft (a : Action) (t : List Entry) : tracks (markLeft a t) = tracks t := by
  unfold markLeft
  split
  · exact tracks_modEntry (fun _ => rfl) fun _ => rfl
  · rfl

section
variable {s t u : State}

theorem Planned.refl (s : State) : Planned s s := ⟨rfl, rfl, List.prefix_rfl, id⟩

theorem Planned.trans (h : Planned s t) (k : Planned t u) : Planned s u := by
  obtain ⟨xs, cp, hd, rfl⟩ : ∃ xs cp hd, t = { s with lt := { s.lt with train := xs }, cp := cp, handed := hd } :=
    ⟨_, _, _, h.frame⟩
  exact ⟨k.frame, k.tracks.trans h.tracks, h.handed.trans k.handed, h.noEnd ∘ k.noEnd⟩

theorem Planned.untargeted (h : Planned s t) (hu : Untargeted s) : Untargeted t := by
  obtain ⟨xs, cp, hd, rfl⟩ : ∃ xs cp hd, t = { s with lt := { s.lt with train := xs }, cp := cp, handed := hd } :=
    ⟨_, _, _, h.frame⟩
  exact hu

/-- One change after another, each beside no target. -/
theorem Planned.andThen (hu : Untargeted s) (h : Planned s t) (k : Untargeted t → Planned t u) : Planned s u :=
  h.trans (k (h.untargeted hu))

theorem Planned.setTrain {xs : List Entry} (h : Starts.tracks xs = Starts.tracks s.lt.train) : Planned s (s.setTrain xs) :=
  ⟨rfl, h, List.prefix_rfl, id⟩

theorem Planned.setCp (s : State) (cp : CutPlanner) : Planned s { s with cp := cp } := ⟨rfl, rfl, List.prefix_rfl, id⟩

theorem Planned.hand (s : State) {i : Instr} (hi : i ≠ .startEnd) : Planned s (s.hand i) :=
  ⟨rfl, rfl, List.prefix_append .., fun h => by simpa [State.hand, hi.symm] using h⟩

theorem Planned.post (s : State) (k : EventKind) (n : Nat) (d : Int) : Planned s (s.post k n d) := .hand s nofun

theorem Planned.compare (hu : Untargeted s) : Planned s (Machine.compare s) := by
  rw [compare_untargeted hu]
  exact .refl s

theorem Planned.applyPlan (rs : List RouteNo) (k : PlanKind) (o : Nat) (s : State) : Planned s (applyPlan rs k o s) := by
  unfold Machine.applyPlan
  split
  · exact (Planned.setCp s _).trans (.post ..)
  · exact .setCp s _

theorem Planned.applyAction (a : Action) (s : State) : Planned s (applyAction a s) := by
  unfold Machine.applyAction
  split
  · dsimp only
    split
    · exact (Planned.applyPlan ..).trans (.setTrain (tracks_markManifold ..))
    · exact .applyPlan ..
  · exact .refl s

theorem Planned.releaseProtection (a : Action) (s : State) : Planned s (releaseProtection a s) := by
  unfold Machine.releaseProtection
  split
  · exact .setCp s _
  · exact .refl s

theorem Planned.dueEffect (a : Action) (s : State) : Planned s (dueEffect a s) :=
  ((((Planned.setTrain (tracks_markLeft a _)).trans (.applyAction a _)).trans (.post ..)).trans
    (.setTrain (tracks_flagAction a _))).trans (.releaseProtection a _)

theorem Planned.dueAction (a : Action) (hu : Untargeted s) : Planned s (dueAction .routeController a s) := by
  refine .andThen hu (.dueEffect a s) fun hu' => .trans ?_ (.hand _ nofun)
  split
  · exact .compare hu'
  · exact .refl _

theorem Planned.placeAction (a : Action) (b : Bool) (hu : Untargeted s) : Planned s (placeAction .routeController a b s) := by
  unfold Machine.placeAction
  split
  · exact .dueAction _ hu
  · split
    · exact .setCp s _
    · exact (Planned.post ..).trans (.hand _ nofun)

theorem Planned.takeNumber (s : State) : Planned s (takeNumber s) := .setCp s _

end

/-! ### The measurement of a short batch -/

section
variable {s : State}

theorem Planned.checkDisposition (id : Nat) (s : State) : Planned s (checkDisposition id s) := by
  unfold Machine.checkDisposition
  split
  · exact .refl s
  · split
    · exact .refl s
    · refine (Planned.setTrain ?_).trans (.post ..)
      rw [tracks_markBatch]
      exact tracks_modEntry (fun _ => rfl) fun e => by cases h : e.leading <;> rfl

theorem Planned.removeZoneDivert (b : Nat) (s : State) : Planned s (removeZoneDivert b s) := by
  unfold Machine.removeZoneDivert
  split
  · refine ((Planned.setCp s _).trans (.setTrain ?_)).trans (.hand _ nofun)
    exact tracks_modEntry (fun _ => rfl) fun _ => rfl
  · exact .refl s

theorem Planned.reportMerged (k : Nat) (c : Int) (s : State) : Planned s (reportMerged k c s) :=
  (Planned.setTrain (tracks_markBatch ..)).trans (.post ..)

theorem Planned.setMeasured (k : Nat) (s : State) : Planned s (setMeasured k s) :=
  .setTrain (tracks_modEntry (fun _ => rfl) fun _ => rfl)

theorem Planned.keepTriggers (a : Action) (s : State) : Planned s (keepTriggers a s) :=
  .setTrain (tracks_modEntry (fun _ => rfl) fun _ => rfl)

theorem Planned.measureTrailing (k b : Nat) (s : State) : Planned s (measureTrailing k b s).1 := by
  unfold Machine.measureTrailing
  split
  · exact .refl s
  · dsimp only
    split
    · split
      · exact (((Planned.setMeasured k s).trans (.setCp _ _)).trans (.removeZoneDivert ..)).trans (.reportMerged ..)
      · exact (Planned.setMeasured k s).trans (.post ..)
    · exact .setMeasured k s

theorem Planned.measureEnter (k : Nat) (a : Action) (s : State) : Planned s (measureEnter k a s).1 := by
  unfold Machine.measureEnter
  split
  · exact .refl s
  · dsimp only
    split
    · split
      · refine (Planned.setMeasured k s).trans (.trans ?_ (.reportMerged ..))
        split
        · exact .removeZoneDivert ..
        · exact .refl _
      · exact (Planned.setMeasured k s).trans (.post ..)
    · exact .setMeasured k s

theorem Planned.measureAhead (a : Action) (s : State) : Planned s (measureAhead a s).1 := by
  unfold Machine.measureAhead
  split
  · split
    · exact (Planned.keepTriggers a s).trans (.measureTrailing ..)
    · exact .keepTriggers a s
  · exact .keepTriggers a s

/-! ### Scheduling -/

theorem Planned.scheduleAction (a : Action) (b : Bool) (hu : Untargeted s) :
    Planned s (scheduleAction .routeController a b s) := by
  unfold Machine.scheduleAction
  refine .andThen hu (.measureAhead a s) fun hm => ?_
  split
  · exact .andThen hm (.measureEnter ..) fun hn => .placeAction _ _ hn
  · dsimp only
    split
    · exact .refl _
    · exact .placeAction _ _ hm

theorem Planned.scheduleLevel (id : Nat) (form : HandedAs) (l : Level) (x : Nat) (hu : Untargeted s) :
    Planned s (scheduleLevel .routeController id form l x s) := by
  unfold Machine.scheduleLevel
  split
  · exact .refl s
  · split
    · exact .refl s
    · split
      · exact .refl s
      · exact .andThen hu (.takeNumber s) fun h => .scheduleAction _ _ h
    · exact .andThen hu ((Planned.checkDisposition id s).trans (.takeNumber _)) fun h => .scheduleAction _ _ h

theorem Planned.pointsToPlanner (id : Nat) (ps : List CutPoint) (hu : Untargeted s) :
    Planned s (pointsToPlanner id .routeController ps s) := by
  induction ps generalizing s with
  | nil => exact .refl s
  | cons p ps ih => exact .andThen hu (.scheduleLevel id .volumetric p.level p.point hu) fun h => ih h

theorem Planned.planning {k : State → State} (hk : ∀ t, Untargeted t → Planned t (k t)) (hu : Untargeted s) :
    Planned s (planning k s) := by
  unfold Machine.planning
  split
  · exact .refl s
  · exact hk s hu

theorem Planned.startSupply (id : Nat) (hu : Untargeted s) : Planned s (startSupply s id) := by
  unfold Machine.startSupply
  split
  · split
    · unfold supplyWith
      split
      · exact .refl s
      · split
        · exact .refl s
        · dsimp only
          split
          · exact .refl s
          · refine .andThen hu (.setTrain ?_) fun h => .planning (fun _ ht => .pointsToPlanner _ _ ht) h
            exact tracks_modEntry (fun _ => rfl) fun e => by cases h : e.leading <;> rfl
    · exact .refl s
  · exact .refl s

end

end Sys2Proof.Proofs.Starts
end

section
/-! The starts: what they take up, keep and clear, and the end of a start (O59, O60). -/
namespace Sys2Proof.Proofs.Starts

open Sys2Proof Sys2Proof.Machine
open Sys2Proof.Proofs.Answers
open Sys2Proof.Proofs.Routes

/-! ### The action list -/

section
variable {s : State} {a x : Action}

theorem applyPlan_actions (rs : List RouteNo) (k : PlanKind) (o : Nat) : (applyPlan rs k o s).cp.actions = s.cp.actions := by
  unfold applyPlan
  split <;> rfl

theorem applyAction_actions : (applyAction a s).cp.actions = s.cp.actions := by
  unfold applyAction
  split
  · dsimp only
    split <;> exact applyPlan_actions ..
  · rfl

theorem releaseProtection_actions : (releaseProtection a s).cp.actions = s.cp.actions := by
  unfold releaseProtection
  split <;> rfl

theorem dueEffect_actions : (dueEffect a s).cp.actions = s.cp.actions :=
  releaseProtection_actions.trans (applyAction_actions (s := s.setTrain (markLeft a s.lt.train)))

theorem dueAction_actions (hu : Untargeted s) : (dueAction .routeController a s).cp.actions = s.cp.actions := by
  have hcompare : Machine.compare (dueEffect a s) = dueEffect a s :=
    compare_untargeted ((Planned.dueEffect a s).untargeted hu)
  simp only [dueAction, hcompare, ite_self]
  exact dueEffect_actions

/-- Placing an action takes none out of the list. -/
theorem mem_placeAction (hu : Untargeted s) (b : Bool) (h : x ∈ s.cp.actions) :
    x ∈ (placeAction .routeController a b s).cp.actions := by
  unfold placeAction
  split
  · rwa [dueAction_actions hu]
  · split
    · exact (EveryStep.insertAction_perm a s.cp.actions).mem_iff.mpr (List.mem_cons_of_mem a h)
    · exact h

end

/-! ### What a start takes up -/

section
variable {k : StartKind} {c : StartCause} {s : State}

theorem decidedMode_calm (s : State) : decidedMode s = .hold ∨ decidedMode s = .unconfigured := by
  unfold decidedMode
  split
  · split <;> simp
  · simp

theorem untargeted_takeUp (k : StartKind) (c : StartCause) (s : State) : Untargeted (takeUp k c s) := by
  have hmode : (takeUp k c s).sm.mode = decidedMode s := rfl
  rcases decidedMode_calm s with h | h <;> simp [Untargeted, hmode, h]

theorem Planned.postStart (k : StartKind) (c : StartCause) (gap : Nat) (s : State) : Planned s (postStart k c gap s) := by
  cases k
  · exact .post ..
  · exact (Planned.post ..).trans (.post ..)

theorem Planned.scheduleReturn (hu : Untargeted s) : Planned s (scheduleReturn s) := by
  unfold Machine.scheduleReturn
  split
  · exact .refl s
  · split
    · exact .andThen hu (.takeNumber s) fun h => .placeAction _ _ h
    · exact .refl s

theorem Planned.startSupplies (k : StartKind) (hu : Untargeted s) : Planned s (startSupplies k s) := by
  cases k with
  | cold => exact .refl s
  | warm =>
    unfold Machine.startSupplies
    generalize s.lt.train.map (·.id) = ids
    induction ids generalizing s with
    | nil => exact .refl s
    | cons id ids ih => exact .andThen hu (.startSupply id hu) fun h => ih h

/-- A start but for its end: what the blocks take up, post, schedule and supply. -/
def begun (k : StartKind) (c : StartCause) (s : State) : State :=
  startSupplies k (scheduleReturn (postStart k c (discardedPulses c s) (takeUp k c s)))

theorem takeStart_eq (k : StartKind) (c : StartCause) (s : State) : takeStart k c s = handEnd (begun k c s) := rfl

theorem Planned.begun (k : StartKind) (c : StartCause) (s : State) :
    Planned (Machine.postStart k c (discardedPulses c s) (takeUp k c s)) (begun k c s) := by
  have hu := (Planned.postStart k c (discardedPulses c s) (takeUp k c s)).untargeted (untargeted_takeUp k c s)
  exact .andThen hu (.scheduleReturn hu) fun h => .startSupplies k h

theorem handEnd_frame (s : State) : ∃ xs, handEnd s = { s with handed := xs } ∧ s.handed <+: xs := by
  unfold handEnd
  split
  · exact ⟨s.handed, rfl, List.prefix_rfl⟩
  · exact ⟨_, rfl, List.prefix_append ..⟩

/-- Beyond what the blocks take up, a start changes the marks of the train, the Cut Planner and the hand-offs. -/
theorem takeStart_frame (k : StartKind) (c : StartCause) (s : State) : ∃ train cp xs,
    takeStart k c s = { takeUp k c s with lt := { (takeUp k c s).lt with train := train }, cp := cp, handed := xs }
      ∧ tracks train = tracks (takeUp k c s).lt.train
      ∧ ∀ i ∈ (postStart k c (discardedPulses c s) (takeUp k c s)).handed, i ∈ xs := by
  have hbegun := Planned.begun k c s
  have hplanned := (Planned.postStart k c (discardedPulses c s) (takeUp k c s)).trans hbegun
  obtain ⟨train, cp, hd, ht⟩ : ∃ train cp hd, begun k c s = { takeUp k c s with
      lt := { (takeUp k c s).lt with train := train }, cp := cp, handed := hd } := ⟨_, _, _, hplanned.frame⟩
  obtain ⟨xs, hend, hprefix⟩ := handEnd_frame (begun k c s)
  refine ⟨train, cp, xs, ?_, ?_, fun i hi => hprefix.subset (hbegun.handed.subset hi)⟩
  · rw [takeStart_eq, hend, ht]
  · exact (congrArg (tracks ·.lt.train) ht).symm.trans hplanned.tracks

/-! ### The train and the list of a warm start -/

theorem tracks_derivePosition (a e : Entry) : ((derivePosition a e).id, (derivePosition a e).leading.map (·.track))
    = (e.id, e.leading.map (·.track)) := by
  unfold derivePosition
  split
  · rename_i h _
    split <;> simp [h]
  · rfl

theorem tracks_rederiveBehind (a : Entry) (t : List Entry) : tracks (rederiveBehind a t) = tracks t := by
  induction t generalizing a with
  | nil => rfl
  | cons e t ih =>
    refine congrArg₂ List.cons (tracks_derivePosition a e) ?_
    exact ih _

theorem tracks_rederive (t : List Entry) : tracks (rederive t) = tracks t := by
  cases t with
  | nil => rfl
  | cons e t => exact congrArg (List.cons _) (tracks_rederiveBehind e t)

theorem tracks_startTrain (t : List Entry) :
    tracks (startTrain t) = t.map (fun e => (e.id, e.leading.map (fun i => (startInterface i).track))) := by
  rw [startTrain, tracks_rederive]
  simp [tracks, Function.comp_def]

theorem startInterface_track (i : Interface) : (startInterface i).track = if i.track = .window then .far else i.track := by
  unfold startInterface
  split <;> simp

theorem interfaceOf_track {id : Nat} {t : List Entry} {i : Interface} (h : interfaceOf id t = some i) :
    ∃ e ∈ t, e.leading = some i := by
  rw [interfaceOf, Option.bind_eq_some_iff] at h
  obtain ⟨e, he, hi⟩ := h
  exact ⟨e, List.mem_of_find?_eq_some he, hi⟩

/-- No interface of a train stands in a track. -/
def NoneIn (x : TrackState) (t : List Entry) : Prop := ∀ e ∈ t, ∀ i, e.leading = some i → i.track ≠ x

theorem noneIn_iff {x : TrackState} {t : List Entry} : NoneIn x t ↔ ∀ p ∈ tracks t, p.2 ≠ some x := by
  simp only [NoneIn, tracks, List.forall_mem_map, ne_eq, Option.map_eq_some_iff, not_exists, not_and]

theorem NoneIn.of_tracks {x : TrackState} {t u : List Entry} (h : NoneIn x t) (ht : tracks u = tracks t) : NoneIn x u := by
  rw [noneIn_iff, ht]
  exact noneIn_iff.mp h

theorem noneIn_startTrain (t : List Entry) : NoneIn .window (startTrain t) := by
  rw [noneIn_iff, tracks_startTrain]
  simp only [List.forall_mem_map, ne_eq, Option.map_eq_some_iff, not_exists, not_and, startInterface_track]
  intro e _ i _
  split <;> simp_all

theorem noneIn_anchored_startTrain {t : List Entry} (h : NoneIn .anchored t) : NoneIn .anchored (startTrain t) := by
  rw [noneIn_iff, tracks_startTrain]
  simp only [List.forall_mem_map, ne_eq, Option.map_eq_some_iff, not_exists, not_and, startInterface_track]
  intro e he i hi
  have := h e he i hi
  split <;> simp_all

/-- R125: where no interface is ANCHORED a warm start supplies no points. -/
theorem startSupplies_none (k : StartKind) (h : NoneIn .anchored s.lt.train) : startSupplies k s = s := by
  have hone : ∀ id, startSupply s id = s := fun id => by
    unfold startSupply
    split
    · rename_i i hi
      obtain ⟨e, he, hlead⟩ := interfaceOf_track hi
      rw [if_neg (h e he i hlead)]
    · rfl
  cases k with
  | cold => rfl
  | warm =>
    unfold startSupplies
    generalize s.lt.train.map (·.id) = ids
    induction ids with
    | nil => rfl
    | cons id ids ih => rw [List.foldl_cons, hone, ih]

theorem mem_scheduleReturn {x : Action} (hu : Untargeted s) (h : x ∈ s.cp.actions) : x ∈ (scheduleReturn s).cp.actions := by
  unfold scheduleReturn
  split
  · exact h
  · split
    · exact mem_placeAction (s := takeNumber s) hu false h
    · exact h

theorem handEnd_cp (s : State) : (handEnd s).cp = s.cp := by
  unfold handEnd
  split <;> rfl

/-! ### A start, taken -/

/-- A cold start takes up, posts its event and hands its end. -/
theorem takeStart_cold_frame (c : StartCause) (s : State) :
    (takeStart .cold c s).lt = (takeUp .cold c s).lt ∧ (takeStart .cold c s).cp = (takeUp .cold c s).cp := by
  rw [EveryStep.takeStart_cold]
  unfold handEnd
  split <;> exact ⟨rfl, rfl⟩

theorem warmStart_lockedOut {r : RouteNo} {v : Valve} {t : Tables} (hdef : (t.routes.get r).isSome)
    (hv : s.rc.valves.get r = some v) (hlocked : v.state = .lockedOut) :
    ((startRoutes .warm t s.rc).valves.get r).map (fun v => (v.state, v.faults)) = some (.lockedOut, v.faults) := by
  obtain ⟨e, he⟩ := Option.isSome_iff_exists.mp hdef
  cases r <;> simp_all [startRoutes, PerRoute.build, PerRoute.get, startValve]

/-- R125: in HOLD, with no interface ANCHORED, a warm start keeps the DIVERTs and ENTERs. -/
theorem mem_warmStart {a : Action} (hmode : decidedMode s = .hold) (hnone : NoneIn .anchored s.lt.train)
    (h : a ∈ s.cp.actions) (hkind : a.kind = .divert ∨ a.kind = .enter) : a ∈ (takeStart .warm c s).cp.actions := by
  have hup : a ∈ (takeUp .warm c s).cp.actions := by
    have hactions : (takeUp .warm c s).cp.actions
        = if decidedMode s = .unconfigured then [] else s.cp.actions.filter keptAction := rfl
    rw [hactions, if_neg (by simp [hmode])]
    exact List.mem_filter.mpr ⟨h, by rcases hkind with hk | hk <;> simp [keptAction, hk]⟩
  have hplanned := Planned.postStart .warm c (discardedPulses c s) (takeUp .warm c s)
  have hu := hplanned.untargeted (untargeted_takeUp .warm c s)
  have htrain := ((Planned.scheduleReturn hu).tracks.trans hplanned.tracks)
  rw [takeStart, handEnd_cp, startSupplies_none _ ((noneIn_anchored_startTrain hnone).of_tracks htrain)]
  exact mem_scheduleReturn hu hup

theorem startTaken (hp : s.powered = true) : Safety.StartTaken s (takeStart k c s) k c := by
  have hcold : k = .cold → (takeStart k c s).lt.train = [] ∧ (takeStart k c s).cp.actions = []
      ∧ (takeStart k c s).cp.plan = none := by
    rintro rfl
    obtain ⟨hlt, hcp⟩ := takeStart_cold_frame c s
    rw [hlt, hcp]
    exact ⟨rfl, rfl, rfl⟩
  have hkept : k = .warm → decidedMode s = .hold → NoneIn .anchored s.lt.train →
      ∀ a ∈ s.cp.actions, a.kind = .divert ∨ a.kind = .enter → a ∈ (takeStart k c s).cp.actions := by
    rintro rfl hmode hnone a ha hkind
    exact mem_warmStart hmode hnone ha hkind
  obtain ⟨train, cp, xs, ht, htracks, hmem⟩ := takeStart_frame k c s
  rw [ht] at hcold hkept ⊢
  refine ⟨hp, rfl, rfl, rfl, rfl, ?_, rfl, rfl, rfl, rfl, rfl, rfl, rfl, rfl, rfl, rfl, ?_, ?_, rfl, rfl, rfl, ?_, ?_,
    fun hk => ?_, fun hk => ?_⟩
  · cases k <;> rfl
  · cases k <;> rfl
  · cases k <;> rfl
  · cases k <;> rfl
  · cases k <;> rfl
  · subst hk
    obtain ⟨htrain, hactions, hplan⟩ := hcold rfl
    exact ⟨htrain, rfl, rfl, rfl, Nat.zero_div _, hactions, hplan, rfl, hmem _ (by simp [postStart, startEvent])⟩
  · subst hk
    have hstart : tracks train = _ := htracks.trans (tracks_startTrain s.lt.train)
    have hids : train.map (·.id) = s.lt.train.map (·.id) := by
      simpa [tracks, Function.comp_def] using congrArg (List.map Prod.fst) hstart
    refine ⟨hids, rfl, rfl, rfl, rfl, rfl, rfl, rfl, rfl, ?_, hkept rfl, fun r v hdef hv hlocked => ?_, hmem _ ?_, hmem _ ?_⟩
    · exact (noneIn_startTrain s.lt.train).of_tracks htracks
    · exact warmStart_lockedOut hdef hv hlocked
    · simp [postStart, startEvent]
    · cases c <;> simp [postStart, discardedPulses]

end

end Sys2Proof.Proofs.Starts
end

section
/-! Power, RSTIN, the requested starts and the end of a start (O59, O60). -/
namespace Sys2Proof.Proofs.Starts

open Sys2Proof Sys2Proof.Machine
open Sys2Proof.Proofs.Answers
open Sys2Proof.Proofs.Routes

section
variable {k : StartKind} {c : StartCause} {s : State}

theorem takeStart_others : (takeStart k c s).clock = startClock c s.clock ∧ (takeStart k c s).rstin = s.rstin
    ∧ (takeStart k c s).sm.powerOnTest = s.sm.powerOnTest := by
  obtain ⟨train, cp, xs, ht, -⟩ := takeStart_frame k c s
  rw [ht]
  exact ⟨rfl, rfl, rfl⟩

theorem takeStart_ends (h : s.rstin = false) : .startEnd ∈ (takeStart k c s).handed := by
  have hrstin : (begun k c s).rstin = false := by
    rw [((Planned.postStart ..).trans (Planned.begun k c s)).frame]
    exact h
  rw [takeStart_eq, handEnd, hrstin]
  exact List.mem_append_right _ (by simp)

/-- R155: while RSTIN is asserted a start does not end. -/
theorem takeStart_rstin (h : s.rstin = true) : .startEnd ∉ (takeStart .warm .rstin s).handed := by
  have hplanned := (Planned.postStart .warm .rstin (discardedPulses .rstin s) (takeUp .warm .rstin s)).trans (.begun ..)
  have hrstin : (begun .warm .rstin s).rstin = true := by
    rw [hplanned.frame]
    exact h
  rw [takeStart_eq, handEnd, if_pos hrstin]
  intro hmem
  have hfilter : .startEnd ∈ s.handed.filter isPost := hplanned.noEnd hmem
  simp [isPost] at hfilter

end

/-- Settles O59. -/
theorem powerResetAndRequestsTakeStarts : Obligations.PowerResetAndRequestsTakeStarts := by
  refine fun s => ⟨fun b hoff => ?_, fun b hon => ?_, fun b hon => ?_, fun b hoff => ?_, fun hon hrel => ?_,
    fun hon hset hstart => ?_, fun hrun => ?_, fun hrun hmode => ?_, fun hrun hhold hun => ?_, fun k hrun hk => ?_, fun hrun hk => ?_⟩
  · have hkind : (if s.sm.check = true ∧ b = false then StartKind.warm else .cold)
        = if s.sm.check && !b then .warm else .cold := by cases s.sm.check <;> cases b <;> rfl
    rw [hkind]
    refine ⟨_, congrArg Host.Outcome.next (if_neg (by simp [hoff])), ?_, takeStart_others.1, takeStart_others.2.2⟩
    exact startTaken (s := { s.take (.powerOn b) with
      powered := true, sm := { s.sm with check := s.sm.check && !b, powerOnTest := s.sm.check && !b } }) rfl
  · exact congrArg Host.Outcome.next (if_pos hon)
  · exact congrArg Host.Outcome.next (if_pos hon)
  · exact congrArg Host.Outcome.next (if_neg (by simp [hoff]))
  · refine ⟨_, congrArg Host.Outcome.next (if_pos (by simp [hon, hrel])), startTaken hon, ?_, ?_, takeStart_rstin rfl⟩
    · exact takeStart_others.2.1
    · exact takeStart_others.1
  · refine congrArg Host.Outcome.next (if_pos (by simp [hon, hset, hstart]))
  · simp only [exec, execWarmStart, request_running hrun]
    rfl
  · simp only [exec, execColdStart, request_running hrun, if_pos hmode]
    rfl
  · simp only [exec, execColdStart, request_running hrun]
    rw [if_neg (by simp [hhold, hun])]
  · have hexec : exec .requestedStartTaken s = .next (takeStart k .request (s.take .requestedStartTaken)) := by
      have hk' : (s.take .requestedStartTaken).sm.requested = some k := hk
      simp only [exec, execRequestedStartTaken, event_running hrun, requestedStart, hk']
    have hp : s.powered = true := (Bool.and_eq_true_iff.mp hrun).1
    exact ⟨_, hexec, startTaken (s := s.take .requestedStartTaken) hp, takeStart_others.1,
      fun h => takeStart_ends (s := s.take .requestedStartTaken) h⟩
  · have hk' : (s.take .requestedStartTaken).sm.requested = none := hk
    simp only [exec, execRequestedStartTaken, event_running hrun, requestedStart, hk']

/-! ### The end of a start (R155) -/

theorem completeOnce_some {s t : State} (h : completeOnce s = some t) : ∃ m b, manifoldOf s.lt.train = some m
    ∧ behindOf m.id s.lt.train = some b ∧ completes s b = true ∧ t = completeBatch m b s := by
  unfold completeOnce at h
  cases hm : manifoldOf s.lt.train with
  | none => simp [hm] at h
  | some m =>
    cases hb : behindOf m.id s.lt.train with
    | none => simp [hm, hb] at h
    | some b =>
      simp only [hm, hb, Option.ite_none_right_eq_some, Option.some.injEq] at h
      exact ⟨m, b, rfl, hb, h.1, h.2.symm⟩

theorem judgeIfChanged_handed (b : Bool) (s : State) : (judgeIfChanged b s).handed = s.handed := by
  obtain ⟨b', h, -⟩ := EveryStep.judgeIfChanged_eq b s
  rw [h]

theorem issueTicket_handed (e : Entry) (s : State) : (issueTicket e s).handed
    = s.handed ++ [.eventPosted .ticketReady e.id (s.ts.length + 1)] :=
  congrArg (· ++ _) (judgeIfChanged_handed ..)

/-- A completion check only adds to the hand-offs. -/
theorem prefix_completeBatch (m behind : Entry) (s : State) : s.handed <+: (completeBatch m behind s).handed := by
  unfold completeBatch
  dsimp only
  split
  · split
    · rw [issueTicket_handed]
      exact (List.prefix_append ..).trans (List.prefix_append ..)
    · exact List.prefix_append ..
  · exact (List.prefix_append ..).trans (List.prefix_append ..)

theorem prefix_completionCheck (s : State) : s.handed <+: (completionCheck s).handed := by
  unfold completionCheck
  generalize s.lt.train.length = n
  induction n generalizing s with
  | zero => exact List.prefix_rfl
  | succ n ih =>
    cases h : completeOnce s with
    | none => simp [completionLoop, h]
    | some t =>
      obtain ⟨m, b, -, -, -, rfl⟩ := completeOnce_some h
      simpa [completionLoop, h] using (prefix_completeBatch m b s).trans (ih _)

theorem startPosition_others {s : State} {r x : RouteNo} (hx : x ≠ r) :
    (startPosition s r).rc.valves.get x = s.rc.valves.get x := by
  unfold startPosition
  split
  · rfl
  · rfl
  · exact positionFromLimits_others hx

theorem positionFromLimits_limits (r : RouteNo) (s : State) : (positionFromLimits r s).rc.limits = s.rc.limits := by
  unfold positionFromLimits
  split
  · rfl
  · rfl
  · rfl
  · simp only [faultRoute, apply_ite State.rc, State.post_rc, ite_self]
    rfl

theorem startPosition_limits (s : State) (r : RouteNo) : (startPosition s r).rc.limits = s.rc.limits := by
  unfold startPosition
  split
  · rfl
  · rfl
  · exact positionFromLimits_limits r s

/-- The state and the fault count a route's limits give its valve at the end of a start (R144). -/
def positionOf (s : State) (r : RouteNo) (faults : Nat) : ValveState × Nat :=
  match (s.rc.limits.get r).opened, (s.rc.limits.get r).closed with
  | true, false => (.opened, faults)
  | false, true => (.closed, faults)
  | false, false => (.unknown, faults)
  | true, true => (if faultLimitOf s r ≤ min 7 (faults + 1) then .lockedOut else .fault, min 7 (faults + 1))

/-- What the end of a start leaves of one route's valve. -/
def ValvePositioned (s t : State) (r : RouteNo) : Prop :=
  ∀ v, s.rc.valves.get r = some v →
    (v.state = .lockedOut → t.rc.valves.get r = some v)
    ∧ (v.state ≠ .lockedOut → (t.rc.valves.get r).map (fun v => (v.state, v.faults)) = some (positionOf s r v.faults))

theorem valvePositioned_startPosition (s : State) (r : RouteNo) : ValvePositioned s (startPosition s r) r := by
  intro v hv
  constructor
  · intro hlocked
    rw [startPosition, valveState_eq hv, hlocked]
    exact hv
  · intro hfree
    have hstart : startPosition s r = positionFromLimits r s := by
      rw [startPosition, valveState_eq hv]
      cases hs : v.state <;> simp_all
    rw [hstart]
    exact positionFromLimits_state hv

theorem startPositions_others {rs : List RouteNo} {s : State} {x : RouteNo} (hx : x ∉ rs) :
    (rs.foldl startPosition s).rc.valves.get x = s.rc.valves.get x := by
  induction rs generalizing s with
  | nil => rfl
  | cons r rs ih =>
    rw [List.mem_cons, not_or] at hx
    exact (ih hx.2).trans (startPosition_others hx.1)

/-- R144: each route of a list takes its own position. -/
theorem valvePositioned_startPositions {rs : List RouteNo} (hnodup : rs.Nodup) {s : State} {r : RouteNo} (hr : r ∈ rs) :
    ValvePositioned s (rs.foldl startPosition s) r := by
  induction rs generalizing s with
  | nil => cases hr
  | cons x rs ih =>
    obtain ⟨hx, hrest⟩ := List.nodup_cons.mp hnodup
    rw [List.foldl_cons]
    by_cases hin : r ∈ rs
    · have hne : r ≠ x := by rintro rfl; exact hx hin
      have hpos : positionOf (startPosition s x) r = positionOf s r := by
        have hlimit : faultLimitOf (startPosition s x) r = faultLimitOf s r := by
          obtain ⟨rc, xs, hframe⟩ : ∃ rc xs, startPosition s x = { s with rc := rc, handed := xs } :=
            ⟨_, _, eq_of_noRoutes (EveryStep.Repositioned.startPositions [x] s).frame⟩
          rw [hframe]
          rfl
        funext n
        simp only [positionOf, startPosition_limits, hlimit]
      have := ih hrest hin (s := startPosition s x)
      simpa only [ValvePositioned, startPosition_others hne, hpos] using this
    · obtain rfl : r = x := by simpa [hin] using hr
      have := valvePositioned_startPosition s r
      simpa only [ValvePositioned, startPositions_others hx] using this

/-- Settles O60. -/
theorem startEndOpensTheWork : Obligations.StartEndOpensTheWork := by
  refine fun s hp hr => ⟨fun hstart hmode => ?_, fun hidle => ?_⟩
  · have hexec : exec .startEnd s = .next (startEnd (s.take .startEnd)) :=
      congrArg Host.Outcome.next (if_pos (by simp [hp, hr, hstart]))
    have hvalves := fun r =>
      valvePositioned_startPositions (rs := allRoutes) (by decide) (mem_allRoutes r) (s := s.take .startEnd)
    obtain ⟨rc, xs, hpos⟩ : ∃ rc xs, allRoutes.foldl startPosition (s.take .startEnd) = { s with rc := rc, handed := xs } :=
      ⟨_, _, eq_of_noRoutes (EveryStep.Repositioned.startPositions allRoutes (s.take .startEnd)).frame⟩
    rw [startEnd, hpos] at hexec
    rw [hpos] at hvalves
    have hu : Untargeted (openWork { s with rc := rc, handed := xs }) := by
      have hsame : (openWork { s with rc := rc, handed := xs }).sm.mode = s.sm.mode := rfl
      rcases hmode with h | h <;> simp [Untargeted, hsame, h]
    rw [compare_untargeted hu] at hexec
    have htick : .pollTick ∈ (completionCheck (openWork { s with rc := rc, handed := xs })).handed :=
      (prefix_completionCheck _).subset (List.mem_append_right _ (by simp))
    obtain ⟨lt, ts, el, hd, hcheck⟩ : ∃ lt ts el hd, completionCheck (openWork { s with rc := rc, handed := xs })
        = { openWork { s with rc := rc, handed := xs } with lt := lt, ts := ts, el := el, handed := hd } :=
      ⟨_, _, _, _, eq_of_noTrack (completionCheck_noTrack _)⟩
    rw [hcheck] at hexec htick
    have hrun : (openWork { s with rc := rc, handed := xs }).running = true := by
      simp [openWork, State.running, hp]
    rw [judgeAttn_running (by exact hrun)] at hexec
    refine ⟨_, hexec, hrun, rfl, rfl, rfl, rfl, htick, ?_, hvalves⟩
    rw [← judgeAttn_running (by exact hrun)]
    exact EveryStep.attnLaw_judgeAttn _
  · exact congrArg Host.Outcome.next (if_neg (by simp [hidle]))

end Sys2Proof.Proofs.Starts
end

section
/-! The Cut Planner's line-ups and strips (O58). -/
namespace Sys2Proof.Proofs.Planner

open Sys2Proof Sys2Proof.Machine
open Sys2Proof.Proofs.Answers
open Sys2Proof.Proofs.Routes
open Sys2Proof.Proofs.Train

/-! ### Entries by their IDs -/

section
variable {t : List Entry} {e m : Entry} {s : State}

theorem findEntry_of_mem (hu : (t.map (·.id)).Nodup) (he : e ∈ t) : findEntry e.id t = some e := by
  induction t with
  | nil => cases he
  | cons a t ih =>
    obtain ⟨hnot, hu'⟩ := List.nodup_cons.mp hu
    rcases List.mem_cons.mp he with rfl | hin
    · simp [findEntry]
    · have hne : a.id ≠ e.id := fun h => hnot (List.mem_map.mpr ⟨e, hin, h.symm⟩)
      simpa [findEntry, hne] using ih hu' hin

theorem uniqueIds_train (h : Safety.UniqueIds s) : (s.lt.train.map (·.id)).Nodup := (List.nodup_append.mp h).1

theorem manifoldOf_mem (h : manifoldOf t = some m) : m ∈ t := List.mem_of_find?_eq_some h

theorem manifoldOf_open (h : manifoldOf t = some m) : m.complete = false := by simpa using List.find?_some h

theorem findEntry_manifold (hu : (t.map (·.id)).Nodup) (h : manifoldOf t = some m) : findEntry m.id t = some m :=
  findEntry_of_mem hu (manifoldOf_mem h)

end

/-! ### The governing disposition and the body line-up (R107) -/

section
variable {tb : Tables} {t : List Entry} {e : Entry} {g : Entry → Entry} {rs : List RouteNo}

/-- The governing disposition rests on the entry's disposition and the interfaces of the train. -/
theorem governing_map (hid : ∀ e, (g e).id = e.id) (hlead : ∀ e, (g e).leading = e.leading)
    (hdisp : ∀ e, (g e).disposition = e.disposition) (e : Entry) : governing tb (t.map g) (g e) = governing tb t e := by
  have hbehind : (behindOf e.id (t.map g)).bind (·.leading) = (behindOf e.id t).bind (·.leading) := by
    rw [behindOf_map hid]
    cases behindOf e.id t <;> simp [hlead]
  simp only [governing, hlead, hdisp, hid, hbehind]

theorem bodyLineup_map (hid : ∀ e, (g e).id = e.id) (hlead : ∀ e, (g e).leading = e.leading)
    (hdisp : ∀ e, (g e).disposition = e.disposition) (hproduct : ∀ e, (g e).product = e.product)
    (hstrip : ∀ e, (g e).stripMark = e.stripMark) (e : Entry) : bodyLineup tb (t.map g) (g e) = bodyLineup tb t e := by
  simp only [bodyLineup, governing_map hid hlead hdisp, hproduct, hstrip]

theorem throughSet_eq {x : RouteNo} (h : throughRoute tb = some x) : throughSet tb = [x] := by simp [throughSet, h]

theorem transmixSet_eq {r : RouteNo} (h : firstTransmix tb = some r) : transmixSet tb = [r] := by simp [transmixSet, h]

theorem bodyLineup_of_bodyRoutes (h : Safety.BodyRoutes tb e (governing tb t e) rs) : bodyLineup tb t e = rs ∧ rs ≠ [] := by
  rw [bodyLineup]
  cases hd : governing tb t e with
  | pass =>
    rw [hd] at h
    obtain ⟨x, hx, rfl⟩ := h
    exact ⟨throughSet_eq hx, by simp⟩
  | take r =>
    rw [hd] at h
    obtain ⟨hr, rfl⟩ := h
    exact ⟨if_pos hr, by simp⟩
  | strip r v =>
    rw [hd] at h
    obtain ⟨hr, x, hx, rfl⟩ := h
    cases hs : e.stripMark <;> simp [throughSet_eq hx, takeSet, hr]
  | transmixAll =>
    rw [hd] at h
    obtain ⟨r, hr, rfl⟩ := h
    exact ⟨transmixSet_eq hr, by simp⟩

end

/-! ### Strips (R124) -/

/-- An entry whose strip has come to its volume. -/
def stripped (e : Entry) : Entry := { e with stripMark := true }

section
variable {m : Entry} {s : State} {r : RouteNo} {v : Nat}

theorem stripDone_strip (hg : governing s.tables s.lt.train m = .strip r v) : stripDone s.tables s.lt.train m
    = if m.stripMark = false ∧ v * 1000 ≤ m.delivery.routes.get r then some (m.delivery.routes.get r / 1000) else none := by
  simp [stripDone, hg]

theorem stripDone_none (hg : ∀ r v, governing s.tables s.lt.train m ≠ .strip r v) :
    stripDone s.tables s.lt.train m = none := by
  unfold stripDone
  split
  · rename_i r v h
    exact absurd h (hg r v)
  · rfl

/-- The state once a strip is done, before the plan line-up is looked at. -/
def stripReported (m : Entry) (litres : Nat) (s : State) : State :=
  (s.setTrain (modEntry m.id stripped s.lt.train)).post .stripComplete m.id litres

theorem planIsBodyOf_iff {id : Nat} : planIsBodyOf id s = true ↔ s.cp.plan.map (fun p => (p.kind, p.owner)) = some (.body, id) := by
  unfold planIsBodyOf
  cases s.cp.plan <;> simp

/-- R107: the body line-up of the stripped batch is the THROUGH route alone. -/
theorem formLineup_stripReported {x : RouteNo} {litres : Nat} (hm : findEntry m.id s.lt.train = some m)
    (hg : governing s.tables s.lt.train m = .strip r v) (hx : throughRoute s.tables = some x) :
    formLineup (stripReported m litres s) (.bodyOf m.id) = [x] := by
  have hfind : findEntry m.id (modEntry m.id stripped s.lt.train) = some (stripped m) := by
    rw [findEntry_modEntry (f := stripped) fun _ => rfl, hm]
    rfl
  have hgov : governing s.tables (modEntry m.id stripped s.lt.train) (stripped m) = .strip r v := by
    rw [← hg, ← changed_self (f := stripped) (e := m) rfl, modEntry_eq_map]
    exact governing_map (changed_id (f := stripped) fun _ => rfl) (changed_field (f := stripped) (p := (·.leading)) fun _ => rfl)
      (changed_field (f := stripped) (p := (·.disposition)) fun _ => rfl) m
  change ((findEntry m.id (modEntry m.id stripped s.lt.train)).map
    (bodyLineup s.tables (modEntry m.id stripped s.lt.train))).getD [] = [x]
  rw [hfind, Option.map_some, Option.getD_some, bodyLineup, hgov]
  exact throughSet_eq hx

theorem bookingStripCheck_running (hrun : s.running = true) (hm : manifoldOf s.lt.train = some m) :
    exec .bookingStripCheck s = .next (match stripDone s.tables s.lt.train m with
      | none => s.take .bookingStripCheck
      | some litres => if planIsBodyOf m.id s then planBody m.id (stripReported m litres (s.take .bookingStripCheck))
          else stripReported m litres (s.take .bookingStripCheck)) := by
  have hm' : manifoldOf (s.take .bookingStripCheck).lt.train = some m := hm
  simp only [exec, execBookingStripCheck, event_running hrun, stripCheck, hm']
  rfl

/-- Settles O58. -/
theorem stripEndsAtItsVolume : Obligations.StripEndsAtItsVolume := by
  refine fun m s hrun hu hm => ⟨fun r v hg => ⟨fun hmark hv => ⟨fun x hx hmode hplan => ?_, fun hplan => ?_⟩, fun hnot => ?_⟩,
    fun hg => ?_⟩
  · have hu' : Untargeted (stripReported m (m.delivery.routes.get r / 1000) (s.take .bookingStripCheck)) := by
      have hsame : (stripReported m (m.delivery.routes.get r / 1000) (s.take .bookingStripCheck)).sm.mode = s.sm.mode := rfl
      rcases hmode with h | h <;> simp [Untargeted, hsame, h]
    have hform := formLineup_stripReported (s := s.take .bookingStripCheck) (litres := m.delivery.routes.get r / 1000)
      (findEntry_manifold (uniqueIds_train hu) hm) hg hx
    simp only [bookingStripCheck_running hrun hm, stripDone_strip hg, if_pos (And.intro hmark hv), planIsBodyOf_iff.mpr hplan, if_true,
      planBody_untargeted hu', hform]
    rfl
  · have hother : planIsBodyOf m.id s = false := by rw [← Bool.not_eq_true, planIsBodyOf_iff]; exact hplan
    simp only [bookingStripCheck_running hrun hm, stripDone_strip hg, if_pos (And.intro hmark hv), hother]
    rfl
  · have hnot' : ¬(m.stripMark = false ∧ v * 1000 ≤ m.delivery.routes.get r) := by
      rcases hnot with h | h
      · simp [h]
      · exact fun ⟨_, hle⟩ => absurd hle (by omega)
    simp only [bookingStripCheck_running hrun hm, stripDone_strip hg, if_neg hnot']
  · simp only [bookingStripCheck_running hrun hm, stripDone_none hg]

end

end Sys2Proof.Proofs.Planner
end

section
/-! Actions placed in the cut action list and actions that fall due (O56, O57). -/
namespace Sys2Proof.Proofs.Planner

open Sys2Proof Sys2Proof.Machine
open Sys2Proof.Proofs.Answers
open Sys2Proof.Proofs.Routes
open Sys2Proof.Proofs.Train

/-! ### The list (R112, R115) -/

theorem inserted_insertAction (a : Action) (xs : List Action) : Safety.Inserted a xs (insertAction a xs) := by
  induction xs with
  | nil => exact ⟨[], [], rfl, rfl, by simp, by simp⟩
  | cons b rest ih =>
    by_cases h : a.trigger < b.trigger
    · exact ⟨[], b :: rest, rfl, by simp [insertAction, h], by simp, by simpa using h⟩
    · obtain ⟨pre, post, hbefore, hafter, hpre, hpost⟩ := ih
      refine ⟨b :: pre, post, by rw [hbefore]; rfl, by simp [insertAction, h, hafter], fun y hy => ?_, hpost⟩
      rcases List.mem_cons.mp hy with rfl | hy
      · exact Int.not_lt.mp h
      · exact hpre y hy

section
variable {first : Precedence} {a : Action} {b : Bool} {s t : State}

theorem placeAction_stored (h : (s.cp.curS : Int) < a.trigger) (hroom : s.cp.actions.length < 16) :
    placeAction first a b s = s.setActions (insertAction a s.cp.actions) := by
  rw [placeAction, if_neg (Int.not_le.mpr h), if_pos (by exact hroom)]

theorem placeAction_lost (h : (s.cp.curS : Int) < a.trigger) (hfull : 16 ≤ s.cp.actions.length) :
    placeAction first a b s = (s.post .actionOverflow a.subject (actionKindNumber a.kind)).hand .holdDemand := by
  rw [placeAction, if_neg (Int.not_le.mpr h), if_neg (by exact Nat.not_lt.mpr hfull)]

theorem placeAction_due (h : a.trigger ≤ (s.cp.curS : Int)) :
    placeAction first a b s = dueAction first (if b then a else { a with flags := { a.flags with late := true } }) s :=
  if_pos h

theorem settlePlan_same (h : t.cp.plan = s.cp.plan) : settlePlan first s t = t := by
  cases first
  · rfl
  · exact if_pos h

theorem lostToFull_room {x : Int} (hroom : s.cp.actions.length < 16) : lostToFull x s = false := by
  simp [lostToFull, Config.maxActions, hroom]

end

/-! ### What follows an action's effect -/

/-- Every entry of the second train was in the first, and has kept its ticket flag `p`. -/
def KeepsFlag (p : TicketFlags → Bool) (t u : List Entry) : Prop :=
  ∀ f ∈ u, ∃ e ∈ t, e.id = f.id ∧ (p e.delivery.flags = true → p f.delivery.flags = true)

/-- A ticket flag that a completion does not touch. -/
def StripBlind (p : TicketFlags → Bool) : Prop := ∀ x b, p { x with stripShort := b } = p x

section
variable {p : TicketFlags → Bool} {t u v : List Entry}

theorem KeepsFlag.refl (t : List Entry) : KeepsFlag p t t := fun f hf => ⟨f, hf, rfl, id⟩

theorem KeepsFlag.trans (h : KeepsFlag p t u) (k : KeepsFlag p u v) : KeepsFlag p t v := fun f hf => by
  obtain ⟨e, he, hid, hkeep⟩ := k f hf
  obtain ⟨e', he', hid', hkeep'⟩ := h e he
  exact ⟨e', he', hid'.trans hid, hkeep ∘ hkeep'⟩

theorem KeepsFlag.modEntry (id : Nat) {f : Entry → Entry} (hid : ∀ e, (f e).id = e.id)
    (hf : ∀ e, p e.delivery.flags = true → p (f e).delivery.flags = true) (t : List Entry) :
    KeepsFlag p t (modEntry id f t) := fun x hx => by
  obtain ⟨e, he, rfl⟩ := List.mem_map.mp hx
  refine ⟨e, he, ?_⟩
  split
  · exact ⟨(hid e).symm, hf e⟩
  · exact ⟨rfl, fun h => h⟩

theorem KeepsFlag.markBatch (id : Nat) {f : TicketFlags → TicketFlags} (hf : ∀ x, p x = true → p (f x) = true)
    (t : List Entry) : KeepsFlag p t (markBatch id f t) := by
  refine .modEntry id (fun e => ?_) (fun e he => ?_) t
  · cases e.complete <;> rfl
  · cases e.complete
    · exact hf _ he
    · exact he

theorem KeepsFlag.markManifold {f : TicketFlags → TicketFlags} (hf : ∀ x, p x = true → p (f x) = true)
    (t : List Entry) : KeepsFlag p t (markManifold f t) := by
  unfold Machine.markManifold
  split
  · exact .markBatch _ hf t
  · exact .refl t

theorem KeepsFlag.flagAction (a : Action) (hflags : ∀ x, p x = true → p (actionTicketFlags a x) = true) (t : List Entry) :
    KeepsFlag p t (flagAction a t) := by
  unfold Machine.flagAction
  split
  · exact .markManifold hflags t
  · dsimp only
    split
    · exact (KeepsFlag.markBatch _ hflags t).trans (.markBatch _ hflags _)
    · exact .markBatch _ hflags t

theorem KeepsFlag.completedTrain (hp : StripBlind p) (s : State) (m b : Entry) : KeepsFlag p s.lt.train (completedTrain s m b) := by
  refine ((KeepsFlag.modEntry _ (by simp) (by simp) _).trans (.modEntry _ (by simp) (fun e he => ?_) _)).trans
    (.modEntry _ (by simp) (by simp) _)
  split
  · exact (hp ..).trans he
  · exact he

end

/-- The parts of a state that the other blocks' reactions to a change of plan leave alone (R117, step 7). -/
structure Reacted (s t : State) : Prop where
  frame : t = { s with lt := { s.lt with train := t.lt.train }, rc := t.rc, ts := t.ts, el := t.el, handed := t.handed }
  handed : s.handed <+: t.handed
  train : ∀ p, StripBlind p → KeepsFlag p s.lt.train t.lt.train

section
variable {first : Precedence} {a : Action} {s t u : State}

theorem Reacted.refl (s : State) : Reacted s s := ⟨rfl, List.prefix_rfl, fun _ _ => .refl _⟩

theorem Reacted.trans (h : Reacted s t) (k : Reacted t u) : Reacted s u := by
  obtain ⟨xs, rc, ts, el, hd, rfl⟩ : ∃ xs rc ts el hd,
    t = { s with lt := { s.lt with train := xs }, rc := rc, ts := ts, el := el, handed := hd } := ⟨_, _, _, _, _, h.frame⟩
  exact ⟨k.frame, h.handed.trans k.handed, fun p hp => (h.train p hp).trans (k.train p hp)⟩

theorem Reacted.cp (h : Reacted s t) : t.cp = s.cp := by rw [h.frame]

theorem Reacted.compare (s : State) : Reacted s (Machine.compare s) := by
  obtain ⟨rc, more, h⟩ := compare_frame s
  rw [h]
  exact ⟨rfl, List.prefix_append .., fun _ _ => .refl _⟩

theorem Reacted.hand (s : State) (i : Instr) : Reacted s (s.hand i) := ⟨rfl, List.prefix_append .., fun _ _ => .refl _⟩

theorem judgeIfChanged_lt (b : Bool) (s : State) : (judgeIfChanged b s).lt = s.lt := by
  obtain ⟨b', h, -⟩ := EveryStep.judgeIfChanged_eq b s
  rw [h]

theorem issueTicket_lt (e : Entry) (s : State) :
    (issueTicket e s).lt = { s.lt with train := s.lt.train.eraseP (fun x => x.id == e.id) } :=
  judgeIfChanged_lt ..

theorem completeBatch_tracker (m behind : Entry) (s : State) :
    (completeBatch m behind s).lt = { s.lt with train := (completeBatch m behind s).lt.train } := by
  unfold completeBatch
  dsimp only
  split
  · split
    · rw [issueTicket_lt]
      rfl
    · rfl
  · rfl

theorem KeepsFlag.completeBatch {p : TicketFlags → Bool} (hp : StripBlind p) (m b : Entry) (s : State) :
    KeepsFlag p s.lt.train (completeBatch m b s).lt.train := by
  have hdone := KeepsFlag.completedTrain hp s m b
  unfold Machine.completeBatch
  dsimp only
  split
  · split
    · rw [issueTicket_lt]
      exact hdone.trans fun f hf => ⟨f, List.mem_of_mem_eraseP hf, rfl, id⟩
    · exact hdone
  · exact hdone.trans (.modEntry _ (by simp) (by simp) _)

theorem KeepsFlag.completionLoop {p : TicketFlags → Bool} (hp : StripBlind p) (n : Nat) (s : State) :
    KeepsFlag p s.lt.train (completionLoop n s).lt.train := by
  induction n generalizing s with
  | zero => exact .refl _
  | succ n ih =>
    cases h : completeOnce s with
    | none =>
      simp only [Machine.completionLoop, h]
      exact .refl _
    | some t =>
      obtain ⟨m, b, -, -, -, rfl⟩ := Starts.completeOnce_some h
      simp only [Machine.completionLoop, h]
      exact (KeepsFlag.completeBatch hp m b s).trans (ih _)

theorem completionLoop_tracker (n : Nat) (s : State) :
    (completionLoop n s).lt = { s.lt with train := (completionLoop n s).lt.train } := by
  induction n generalizing s with
  | zero => rfl
  | succ n ih =>
    cases h : completeOnce s with
    | none => simp [completionLoop, h]
    | some t =>
      obtain ⟨m, b, -, -, -, rfl⟩ := Starts.completeOnce_some h
      simp only [completionLoop, h]
      rw [ih, completeBatch_tracker]

theorem Reacted.completionCheck (s : State) : Reacted s (completionCheck s) := by
  refine ⟨?_, Starts.prefix_completionCheck s, fun _ hp => KeepsFlag.completionLoop hp _ s⟩
  obtain ⟨lt, ts, el, hd, h⟩ : ∃ lt ts el hd, Machine.completionCheck s = { s with lt := lt, ts := ts, el := el, handed := hd } :=
    ⟨_, _, _, _, eq_of_noTrack (completionCheck_noTrack s)⟩
  have hlt := completionLoop_tracker s.lt.train.length s
  rw [← Machine.completionCheck, h] at hlt
  rw [h]
  exact congrArg (fun l => ({ s with lt := l, ts := ts, el := el, handed := hd } : State)) hlt

theorem Reacted.dueAction (first : Precedence) (a : Action) (s : State) : Reacted (dueEffect a s) (dueAction first a s) := by
  unfold Machine.dueAction
  dsimp only
  split
  · refine .trans ?_ (.hand ..)
    split
    · exact .compare _
    · exact .refl _
  · exact .completionCheck _

theorem Reacted.settlePlan (first : Precedence) (before s : State) : Reacted s (settlePlan first before s) := by
  unfold Machine.settlePlan
  split
  · exact .refl s
  · split
    · exact .refl s
    · exact .compare s

end

/-! ### The effect of an action (R117, R118) -/

section
variable {a : Action} {s : State}

/-- The state in which an action that falls due is applied. -/
def leftList (a : Action) (s : State) : State := s.setTrain (markLeft a s.lt.train)

theorem applyAction_unchanged (h : changesPlan a s = false) : applyAction a s = s := by simp [applyAction, h]

theorem applyAction_frame (a : Action) (s : State) : ∃ plan train more, applyAction a s
    = { s with cp := { s.cp with plan := plan }, lt := { s.lt with train := train }, handed := s.handed ++ more } := by
  obtain ⟨p, more, hp⟩ := applyPlan_frame (formLineup s a.lineup) (planKindOf a.kind) (planOwner a s) s
  unfold applyAction
  split
  · dsimp only
    split
    · exact ⟨p, _, more, by rw [hp]; rfl⟩
    · exact ⟨p, s.lt.train, more, hp⟩
  · exact ⟨s.cp.plan, s.lt.train, [], by simp⟩

theorem applyAction_plan (h : changesPlan a s = true) : (applyAction a s).cp
    = (applyPlan (formLineup s a.lineup) (planKindOf a.kind) (planOwner a s) s).cp := by
  unfold applyAction
  rw [if_pos h]
  dsimp only
  split <;> rfl

theorem releaseProtection_plan (a : Action) (s : State) : (releaseProtection a s).cp.plan = s.cp.plan := by
  unfold releaseProtection
  split <;> rfl

theorem dueEffect_plan (a : Action) (s : State) : (dueEffect a s).cp.plan = (applyAction a (leftList a s)).cp.plan :=
  releaseProtection_plan ..

theorem dueEffect_plan_changed {rs : List RouteNo} (h : changesPlan a (leftList a s) = true)
    (hrs : formLineup (leftList a s) a.lineup = rs) (hsome : rs ≠ []) :
    (dueEffect a s).cp.plan = some ⟨rs, planOwner a (leftList a s), planKindOf a.kind⟩ := by
  rw [dueEffect_plan, applyAction_plan h, hrs, applyPlan_some hsome]
  rfl

theorem releaseProtection_handed (a : Action) (s : State) : (releaseProtection a s).handed = s.handed := by
  unfold releaseProtection
  split <;> rfl

theorem dueEffect_handed (a : Action) (s : State) : (dueEffect a s).handed = (applyAction a (leftList a s)).handed
    ++ [.eventPosted .actionDue (if a.subject = 0 then manifoldId (applyAction a (leftList a s)).lt.train else a.subject)
        a.number] :=
  releaseProtection_handed ..

end

/-! ### Every due action leaves the list (R117) -/

section
variable {first : Precedence} {a : Action} {s : State}

theorem dueAction_actions (first : Precedence) (a : Action) (s : State) : (dueAction first a s).cp.actions = s.cp.actions := by
  rw [(Reacted.dueAction first a s).cp, Starts.dueEffect_actions]

theorem applyAction_curS (a : Action) (s : State) : (applyAction a s).cp.curS = s.cp.curS := by
  obtain ⟨p, train, more, h⟩ := applyAction_frame a s
  rw [h]

theorem dueAction_curS (first : Precedence) (a : Action) (s : State) : (dueAction first a s).cp.curS = s.cp.curS := by
  have hrelease : ∀ t, (releaseProtection a t).cp.curS = t.cp.curS := fun t => by
    unfold releaseProtection
    split <;> rfl
  rw [(Reacted.dueAction first a s).cp]
  exact (hrelease _).trans (applyAction_curS a (leftList a s))

theorem prefix_applyAction (a : Action) (s : State) : s.handed <+: (applyAction a s).handed := by
  obtain ⟨p, train, more, h⟩ := applyAction_frame a s
  rw [h]
  exact List.prefix_append ..

theorem prefix_dueEffect (a : Action) (s : State) : s.handed <+: (dueEffect a s).handed := by
  rw [dueEffect_handed]
  exact (prefix_applyAction a (leftList a s)).trans (List.prefix_append ..)

theorem prefix_dueAction (first : Precedence) (a : Action) (s : State) : s.handed <+: (dueAction first a s).handed :=
  (prefix_dueEffect a s).trans (Reacted.dueAction first a s).handed

theorem actionDue_mem_dueAction (first : Precedence) (a : Action) (s : State) :
    .eventPosted .actionDue (if a.subject = 0 then manifoldId (applyAction a (leftList a s)).lt.train else a.subject) a.number
      ∈ (dueAction first a s).handed := by
  refine (Reacted.dueAction first a s).handed.subset ?_
  rw [dueEffect_handed]
  exact List.mem_append_right _ (by simp)

theorem dueLoop_due {n : Nat} {x : Action} {rest : List Action} (h : s.cp.actions = x :: rest) (hdue : x.trigger ≤ (s.cp.curS : Int)) :
    dueLoop first (n + 1) s = dueLoop first n (dueAction first x (s.setActions rest)) := by
  simp only [dueLoop, h, if_pos hdue]

theorem dueLoop_stop (n : Nat) (h : ∀ x, s.cp.actions.head? = some x → (s.cp.curS : Int) < x.trigger) : dueLoop first n s = s := by
  cases n with
  | zero => rfl
  | succ n =>
    cases hactions : s.cp.actions with
    | nil => simp only [dueLoop, hactions]
    | cons x rest => simp only [dueLoop, hactions, if_neg (Int.not_le.mpr (h x (by simp [hactions])))]

/-- R117: the loop over an ordered list takes out every action whose trigger S has reached, and posts it. -/
theorem dueLoop_ordered {n : Nat} (hn : s.cp.actions.length ≤ n) (hsorted : s.cp.actions.Pairwise (fun a b => a.trigger ≤ b.trigger)) :
    (dueLoop first n s).cp.actions = s.cp.actions.filter (fun a => decide ((s.cp.curS : Int) < a.trigger))
      ∧ (dueLoop first n s).cp.curS = s.cp.curS ∧ s.handed <+: (dueLoop first n s).handed
      ∧ ∀ a ∈ s.cp.actions, a.trigger ≤ (s.cp.curS : Int) → a.subject ≠ 0 →
        .eventPosted .actionDue a.subject a.number ∈ (dueLoop first n s).handed := by
  induction n generalizing s with
  | zero =>
    have hnil : s.cp.actions = [] := List.length_eq_zero_iff.mp (by omega)
    simp [dueLoop, hnil]
  | succ n ih =>
    by_cases hstop : ∀ x, s.cp.actions.head? = some x → (s.cp.curS : Int) < x.trigger
    · have hlater : ∀ a ∈ s.cp.actions, (s.cp.curS : Int) < a.trigger := fun a ha => by
        obtain ⟨x, rest, hactions⟩ := List.exists_cons_of_ne_nil (List.ne_nil_of_mem ha)
        have hx := hstop x (by rw [hactions]; rfl)
        rw [hactions] at ha hsorted
        rcases List.mem_cons.mp ha with rfl | hin
        · exact hx
        · exact hx.trans_le ((List.pairwise_cons.mp hsorted).1 a hin)
      rw [dueLoop_stop _ hstop]
      refine ⟨(List.filter_eq_self.mpr (by simpa using hlater)).symm, rfl, List.prefix_rfl, fun a ha hle => ?_⟩
      exact absurd (hlater a ha) (Int.not_lt.mpr hle)
    · simp only [not_forall, Int.not_lt] at hstop
      obtain ⟨x, hx, hdue⟩ := hstop
      obtain ⟨rest, hactions⟩ : ∃ rest, s.cp.actions = x :: rest := List.head?_eq_some_iff.mp hx
      have hrest : (dueAction first x (s.setActions rest)).cp.actions = rest := dueAction_actions ..
      have hcurS : (dueAction first x (s.setActions rest)).cp.curS = s.cp.curS := dueAction_curS ..
      rw [hactions] at hn hsorted
      obtain ⟨ihactions, ihcurS, ihprefix, ihposted⟩ := ih (s := dueAction first x (s.setActions rest))
        (by rw [hrest]; simpa using hn) (by rw [hrest]; exact (List.pairwise_cons.mp hsorted).2)
      have hprefix : s.handed <+: (dueAction first x (s.setActions rest)).handed := prefix_dueAction first x (s.setActions rest)
      rw [dueLoop_due hactions hdue]
      refine ⟨?_, ihcurS.trans hcurS, hprefix.trans ihprefix, fun a ha hle hsub => ?_⟩
      · rw [ihactions, hrest, hcurS, hactions, List.filter_cons_of_neg (by simpa using hdue)]
      · rw [hactions] at ha
        rcases List.mem_cons.mp ha with rfl | hin
        · have hmem := actionDue_mem_dueAction first a (s.setActions rest)
          rw [if_neg hsub] at hmem
          exact ihprefix.subset hmem
        · exact ihposted a (by rw [hrest]; exact hin) (by rw [hcurS]; exact hle) hsub

end

end Sys2Proof.Proofs.Planner
end

section
/-! Actions that fall due (O56). -/
namespace Sys2Proof.Proofs.Planner

open Sys2Proof Sys2Proof.Machine
open Sys2Proof.Proofs.Answers
open Sys2Proof.Proofs.Routes
open Sys2Proof.Proofs.Train

/-! ### A new S (R117) -/

section
variable {newS : Nat} {first : Precedence} {a : Action} {rest : List Action} {s : State}

/-- The state in which the Cut Planner looks at its list at a new S. -/
def atNewS (newS : Nat) (first : Precedence) (s : State) : State :=
  { s.take (.cpSAdvance newS first) with cp := { s.cp with curS := newS } }

theorem cpSAdvance_running (hrun : s.running = true) : exec (.cpSAdvance newS first) s
    = .next (settlePlan first (atNewS newS first s) (dueLoop first s.cp.actions.length (atNewS newS first s))) :=
  event_running hrun

/-- The state in which the one due action at the front of the list falls due. -/
def frontTaken (newS : Nat) (first : Precedence) (rest : List Action) (s : State) : State :=
  (atNewS newS first s).setActions rest

/-- R117: of the list only its front is due: what the step leaves is its effect, but for the reactions of other blocks. -/
theorem frontDue (hrun : s.running = true) (ha : s.cp.actions = a :: rest) (hdue : a.trigger ≤ newS)
    (hlater : ∀ b ∈ rest, (newS : Int) < b.trigger) :
    ∃ t, exec (.cpSAdvance newS first) s = .next t ∧ Reacted (dueAction first a (frontTaken newS first rest s)) t
      ∧ Reacted (dueEffect a (frontTaken newS first rest s)) t := by
  have hloop : dueLoop first s.cp.actions.length (atNewS newS first s) = dueAction first a (frontTaken newS first rest s) := by
    rw [ha, List.length_cons, dueLoop_due (s := atNewS newS first s) ha hdue]
    refine dueLoop_stop _ fun x hx => ?_
    rw [dueAction_actions] at hx
    rw [dueAction_curS]
    exact hlater x (List.mem_of_mem_head? hx)
  refine ⟨_, (cpSAdvance_running hrun).trans (by rw [hloop]), .settlePlan .., ?_⟩
  exact (Reacted.dueAction first a _).trans (.settlePlan ..)

/-- An entry whose interface's first action has left the list. -/
def leftEntry (e : Entry) : Entry := { e with firstLeft := true }

/-- The line-up an ENTER forms as it falls due: the body line-up of its batch. -/
theorem formLineup_enter {u : State} {e : Entry} {rs : List RouteNo} (hk : a.kind = .enter) (he : findEntry a.subject u.lt.train = some e)
    (hb : Safety.BodyRoutes u.tables e (governing u.tables u.lt.train e) rs) : formLineup (leftList a u) (.bodyOf a.subject) = rs := by
  have hleft : markLeft a u.lt.train = modEntry a.subject leftEntry u.lt.train := if_pos (.inr hk)
  have hfind := findEntry_modEntry (id := a.subject) (t := u.lt.train) (f := leftEntry) fun _ => rfl
  change ((findEntry a.subject (markLeft a u.lt.train)).map (bodyLineup u.tables (markLeft a u.lt.train))).getD [] = rs
  rw [hleft, hfind, he, Option.map_some, Option.map_some, Option.getD_some, ← (bodyLineup_of_bodyRoutes hb).1,
    ← changed_self (f := leftEntry) (findEntry_id he), modEntry_eq_map]
  exact bodyLineup_map (changed_id (f := leftEntry) fun _ => rfl) (changed_field (f := leftEntry) (p := (·.leading)) fun _ => rfl)
    (changed_field (f := leftEntry) (p := (·.disposition)) fun _ => rfl)
    (changed_field (f := leftEntry) (p := (·.product)) fun _ => rfl)
    (changed_field (f := leftEntry) (p := (·.stripMark)) fun _ => rfl) e

theorem formLineup_transmix {u : State} {r : RouteNo} (h : firstTransmix u.tables = some r) :
    formLineup u .transmix = [r] := transmixSet_eq h

end

/-! ### Protection and return as they fall due (R118, R121) -/

section
variable {newS : Nat} {first : Precedence} {a : Action} {rest : List Action} {s : State}

theorem markBatch_map (id : Nat) (f : TicketFlags → TicketFlags) (t : List Entry) : ∃ g : Entry → Entry, markBatch id f t = t.map g
    ∧ (∀ e, (g e).id = e.id) ∧ (∀ e, (g e).complete = e.complete) ∧ ∀ e, (g e).leading = e.leading := by
  have hfield : ∀ {α : Type} (p : Entry → α), (∀ e d, p { e with delivery := d } = p e) →
      ∀ e, p (if e.id == id then (if e.complete then e else { e with delivery := { e.delivery with flags := f e.delivery.flags } })
        else e) = p e := fun p hp e => by split <;> [split; skip] <;> simp [hp]
  exact ⟨_, rfl, hfield (·.id) fun _ _ => rfl, hfield (·.complete) fun _ _ => rfl, hfield (·.leading) fun _ _ => rfl⟩

theorem manifoldId_markManifold (f : TicketFlags → TicketFlags) (t : List Entry) : manifoldId (markManifold f t) = manifoldId t := by
  unfold markManifold
  split
  next m hm =>
    obtain ⟨g, hg, hid, hcomplete, -⟩ := markBatch_map m.id f t
    rw [hg, manifoldId, manifoldOf_map hcomplete, manifoldId, hm]
    simp [hid]
  next => rfl

theorem applyAction_manifoldId (a : Action) (u : State) : manifoldId (applyAction a u).lt.train = manifoldId u.lt.train := by
  obtain ⟨p, more, hp⟩ := applyPlan_frame (formLineup u a.lineup) (planKindOf a.kind) (planOwner a u) u
  unfold applyAction
  split
  · dsimp only
    split
    · rw [hp]
      exact manifoldId_markManifold ..
    · rw [hp]
  · rfl

/-- R121: what the release of protections leaves of the two counts. -/
def Released (a : Action) (before after : CutPlanner) : Prop :=
  match a.kind, a.channel with
  | .return_, some x => after.protectCount = before.protectCount.set x (before.protectCount.get x - (1 + before.orphans.get x))
      ∧ after.orphans = before.orphans.set x 0
  | _, _ => after.protectCount = before.protectCount ∧ after.orphans = before.orphans

theorem released_releaseProtection (a : Action) (u : State) : Released a u.cp (releaseProtection a u).cp := by
  unfold Released releaseProtection
  split
  next x hk hc => simp [hk, hc]
  next h =>
    split
    next x hk hc => exact absurd hc (h x hk)
    next => exact ⟨rfl, rfl⟩

theorem Released.congr {b c d : CutPlanner} (h : Released a c d) (hcount : c.protectCount = b.protectCount)
    (horphans : c.orphans = b.orphans) : Released a b d := by
  unfold Released at h ⊢
  rwa [hcount, horphans] at h

theorem released_dueEffect (a : Action) (u : State) : Released a u.cp (dueEffect a u).cp := by
  obtain ⟨p, train, more, happly⟩ := applyAction_frame a (leftList a u)
  have hcount : (applyAction a (leftList a u)).cp.protectCount = u.cp.protectCount := congrArg (·.cp.protectCount) happly
  have horphans : (applyAction a (leftList a u)).cp.orphans = u.cp.orphans := congrArg (·.cp.orphans) happly
  exact (released_releaseProtection a _).congr hcount horphans

/-- What O56 says of an action of an excursion that falls due, with its owner and the plan line-up it leaves. -/
def FallsDue (a : Action) (newS : Nat) (first : Precedence) (s : State) (owner : Nat) (plan : Option Plan) : Prop :=
  ∃ t, exec (.cpSAdvance newS first) s = .next t ∧ t.cp.plan = plan
    ∧ .eventPosted .actionDue owner a.number ∈ t.handed
    ∧ Released a s.cp t.cp

theorem fallsDue (hrun : s.running = true) (ha : s.cp.actions = a :: rest) (hdue : a.trigger ≤ newS)
    (hlater : ∀ b ∈ rest, (newS : Int) < b.trigger) (h0 : a.subject = 0) {plan : Option Plan}
    (hplan : (dueEffect a (frontTaken newS first rest s)).cp.plan = plan) :
    FallsDue a newS first s (manifoldId (leftList a (frontTaken newS first rest s)).lt.train) plan := by
  obtain ⟨t, hexec, hdued, heffect⟩ := frontDue (first := first) hrun ha hdue hlater
  have hmem := actionDue_mem_dueAction first a (frontTaken newS first rest s)
  rw [if_pos h0, applyAction_manifoldId] at hmem
  refine ⟨t, hexec, by rw [heffect.cp, hplan], hdued.handed.subset hmem, ?_⟩
  rw [heffect.cp]
  exact released_dueEffect a (frontTaken newS first rest s)

theorem leftList_protection {u : State} (hkind : a.kind = .protect ∨ a.kind = .return_) : leftList a u = u := by
  have hsame : markLeft a u.lt.train = u.lt.train := if_neg (by rcases hkind with h | h <;> simp [h])
  rw [leftList, hsame]
  rfl

theorem planOwner_protection {u : State} (hkind : a.kind = .protect ∨ a.kind = .return_) : planOwner a u = manifoldId u.lt.train := by
  rcases hkind with h | h <;> simp [planOwner, h]

theorem manifoldId_eq {t : List Entry} {m : Entry} (h : manifoldOf t = some m) : manifoldId t = m.id := by simp [manifoldId, h]

theorem manifoldId_none {t : List Entry} (h : manifoldOf t = none) : manifoldId t = 0 := by simp [manifoldId, h]

/-- Without a manifold batch a PROTECT or RETURN changes no plan (R118). -/
theorem changesPlan_noManifold {u : State} (hkind : a.kind = .protect ∨ a.kind = .return_) (h : manifoldOf u.lt.train = none) :
    changesPlan a u = false := by
  rcases hkind with hk | hk <;> simp [changesPlan, hk, h]

/-- The effect of a PROTECT that takes the plan line-up flags the manifold batch. -/
theorem protected_dueEffect {u : State} {m e : Entry} (hu : (u.lt.train.map (·.id)).Nodup) (hm : manifoldOf u.lt.train = some m)
    (hk : a.kind = .protect) (hchange : changesPlan a u = true) (hsome : formLineup u a.lineup ≠ [])
    (he : e ∈ (dueEffect a u).lt.train) (hid : e.id = m.id) : e.delivery.flags.protected_ = true := by
  have happly : (applyAction a u).lt.train = markManifold (fun f => { f with protected_ := true }) u.lt.train := by
    rw [applyAction, if_pos hchange]
    dsimp only
    rw [if_pos ⟨hk, hsome⟩, applyPlan_some hsome]
    rfl
  have htrain : (dueEffect a u).lt.train = flagAction a (applyAction a (leftList a u)).lt.train := by
    have hrelease : ∀ v, (releaseProtection a v).lt = v.lt := fun v => by
      unfold releaseProtection
      split <;> rfl
    exact congrArg (·.train) (hrelease _)
  rw [htrain, leftList_protection (.inl hk), happly] at he
  obtain ⟨x, hx, hxid, hkeep⟩ := KeepsFlag.flagAction (p := (·.protected_)) a (fun _ => id) _ e he
  refine hkeep ?_
  simp only [markManifold, hm, markBatch, modEntry, List.mem_map] at hx
  obtain ⟨y, hy, rfl⟩ := hx
  have hymid : y.id = m.id := by
    rw [← hid, ← hxid]
    split <;> [split; skip] <;> rfl
  obtain rfl : y = m := Option.some.inj ((findEntry_of_mem hu hy).symm.trans (hymid ▸ findEntry_manifold hu hm))
  simp [manifoldOf_open hm]

end

/-! ### The front action, by its kind -/

section
variable {newS : Nat} {first : Precedence} {a : Action} {rest : List Action} {s : State} {rs : List RouteNo}

/-- The front action is due and gives the plan line-up its routes. -/
theorem frontDue_plan (hrun : s.running = true) (ha : s.cp.actions = a :: rest) (hdue : a.trigger ≤ newS)
    (hlater : ∀ b ∈ rest, (newS : Int) < b.trigger) (hchange : changesPlan a (leftList a (frontTaken newS first rest s)) = true)
    (hrs : formLineup (leftList a (frontTaken newS first rest s)) a.lineup = rs) (hsome : rs ≠ []) :
    ∃ t, exec (.cpSAdvance newS first) s = .next t
      ∧ t.cp.plan = some ⟨rs, planOwner a (leftList a (frontTaken newS first rest s)), planKindOf a.kind⟩ := by
  obtain ⟨t, hexec, -, heffect⟩ := frontDue (first := first) hrun ha hdue hlater
  exact ⟨t, hexec, by rw [heffect.cp, dueEffect_plan_changed hchange hrs hsome]⟩

/-- A DIVERT with no TRANSMIX route falls due: the safe route, with PLAN_INVALID (R117, step 3). -/
theorem frontDue_invalid (hrun : s.running = true) (ha : s.cp.actions = a :: rest) (hdue : a.trigger ≤ newS)
    (hlater : ∀ b ∈ rest, (newS : Int) < b.trigger) (hk : a.kind = .divert) (hl : a.lineup = .transmix)
    (hnone : firstTransmix s.tables = none) : ∃ t, exec (.cpSAdvance newS first) s = .next t
      ∧ .eventPosted .planInvalid a.subject 0 ∈ t.handed
      ∧ t.cp.plan = some ⟨safeSet s.tables, a.subject, .safe⟩ := by
  obtain ⟨t, hexec, -, heffect⟩ := frontDue (first := first) hrun ha hdue hlater
  have hform : formLineup (leftList a (frontTaken newS first rest s)) a.lineup = [] := by
    have hnone' : firstTransmix (leftList a (frontTaken newS first rest s)).tables = none := hnone
    rw [hl, formLineup, transmixSet, hnone']
    rfl
  have hchange : changesPlan a (leftList a (frontTaken newS first rest s)) = true := by simp [changesPlan, hk]
  have happly : applyAction a (leftList a (frontTaken newS first rest s)) = ((leftList a (frontTaken newS first rest s)).setPlan
      (some ⟨safeSet s.tables, a.subject, .safe⟩)).post .planInvalid a.subject 0 := by
    simp only [applyAction, hchange, hform, hk, planOwner, if_true]
    rfl
  refine ⟨t, hexec, heffect.handed.subset ?_, ?_⟩
  · rw [dueEffect_handed, happly]
    simp [State.post, State.hand]
  · rw [heffect.cp, dueEffect_plan, happly]
    rfl

theorem fallsDue_unchanged (hrun : s.running = true) (ha : s.cp.actions = a :: rest) (hdue : a.trigger ≤ newS)
    (hlater : ∀ b ∈ rest, (newS : Int) < b.trigger) (h0 : a.subject = 0) (hkind : a.kind = .protect ∨ a.kind = .return_)
    (hkeep : changesPlan a (frontTaken newS first rest s) = false) :
    FallsDue a newS first s (manifoldId s.lt.train) s.cp.plan := by
  have hleft := leftList_protection (u := frontTaken newS first rest s) hkind
  have h := fallsDue (first := first) hrun ha hdue hlater h0 rfl
  rw [dueEffect_plan, hleft, applyAction_unchanged hkeep] at h
  exact h

theorem fallsDue_changed (hrun : s.running = true) (ha : s.cp.actions = a :: rest) (hdue : a.trigger ≤ newS)
    (hlater : ∀ b ∈ rest, (newS : Int) < b.trigger) (h0 : a.subject = 0) (hkind : a.kind = .protect ∨ a.kind = .return_)
    (hchange : changesPlan a (frontTaken newS first rest s) = true)
    (hrs : formLineup (frontTaken newS first rest s) a.lineup = rs) (hsome : rs ≠ []) :
    FallsDue a newS first s (manifoldId s.lt.train) (some ⟨rs, manifoldId s.lt.train, planKindOf a.kind⟩) := by
  have hleft := leftList_protection (u := frontTaken newS first rest s) hkind
  have h := fallsDue (first := first) hrun ha hdue hlater h0
    (dueEffect_plan_changed (by rw [hleft]; exact hchange) (by rw [hleft]; exact hrs) hsome)
  rw [hleft, planOwner_protection hkind] at h
  exact h

/-- R118: a PROTECT changes a plan line-up of none, BODY or SAFE. -/
theorem changesPlan_protect {u : State} {m : Entry} (hk : a.kind = .protect) (hm : manifoldOf u.lt.train = some m) :
    changesPlan a u = true ↔ ∀ p, u.cp.plan = some p → p.kind = .body ∨ p.kind = .safe := by
  simp only [changesPlan, hk, hm]
  cases u.cp.plan <;> simp

/-- The protections a RETURN releases of those that stand (R121). -/
def releasedBy (a : Action) (b : CutPlanner) : Nat :=
  match a.channel with
  | none => 0
  | some c => min (b.protectCount.get c) (1 + b.orphans.get c)

/-- R118, R121: a RETURN changes one of PROTECT, with no protection outstanding but those it releases. -/
theorem changesPlan_return {u : State} {m : Entry} (hk : a.kind = .return_) (hm : manifoldOf u.lt.train = some m) :
    changesPlan a u = true ↔ (∃ p, u.cp.plan = some p ∧ p.kind = .protect)
      ∧ u.cp.protectCount.advance + u.cp.protectCount.manifold = releasedBy a u.cp := by
  simp only [changesPlan, hk, hm]
  cases u.cp.plan with
  | none => simp
  | some p =>
    simp only [Option.isSome_some, Bool.true_and, Bool.and_eq_true, beq_iff_eq, Option.some.injEq, exists_eq_left']
    exact Iff.rfl

theorem formLineup_bodyOfManifold {u : State} {m : Entry} (hm : manifoldOf u.lt.train = some m)
    (hb : Safety.BodyRoutes u.tables m (governing u.tables u.lt.train m) rs) : formLineup u .bodyOfManifold = rs := by
  simp [formLineup, hm, (bodyLineup_of_bodyRoutes hb).1]

end

/-! ### An early disagreement (R119) -/

section
variable {first : Precedence} {id : Nat} {e : Entry} {a : Action} {pre post : List Action} {s : State}

theorem belongs_subject (h : belongs id a = true) : a.subject = id := by
  simp only [belongs, Bool.and_eq_true, beq_iff_eq] at h
  exact h.1

theorem advanceFirst_due (hrun : s.running = true) (he : findEntry id s.lt.train = some e) (hid : id ≠ 0) (hleft : e.firstLeft = false)
    (hactions : s.cp.actions = pre ++ a :: post) (hb : belongs id a = true) (hpre : ∀ b ∈ pre, belongs id b = false) :
    ∃ t, exec (.earlyDisagreeAdvance id first) s = .next t ∧ t.cp.actions = pre ++ post
      ∧ .eventPosted .actionDue id a.number ∈ t.handed := by
  have hfind : s.cp.actions.find? (belongs id) = some a := by
    rw [hactions, List.find?_append, List.find?_eq_none.mpr (by simpa using hpre)]
    simp [hb]
  have herase : s.cp.actions.eraseP (belongs id) = pre ++ post := by
    rw [hactions, List.eraseP_append_right _ (by simpa using hpre), List.eraseP_cons_of_pos hb]
  obtain ⟨u, hu⟩ : ∃ u, s.take (.earlyDisagreeAdvance id first) = u := ⟨_, rfl⟩
  have hcp : u.cp = s.cp := by rw [← hu]; rfl
  have hexec : exec (.earlyDisagreeAdvance id first) s = .next (settlePlan first u (dueAction first
      { a with trigger := s.cp.curS, flags := { a.flags with advanced := true } } (u.setActions (pre ++ post)))) := by
    have htrain : u.lt.train = s.lt.train := by rw [← hu]; rfl
    simp only [exec, execEarlyDisagreeAdvance, event_running hrun, hu, advanceFirst, htrain, he, hcp, hfind, herase, Option.map_some,
      Option.getD_some, hleft, Bool.false_eq_true, if_false]
  refine ⟨_, hexec, ?_, (Reacted.settlePlan ..).handed.subset ?_⟩
  · rw [(Reacted.settlePlan ..).cp, dueAction_actions]
    rfl
  · have hmem := actionDue_mem_dueAction first { a with trigger := s.cp.curS, flags := { a.flags with advanced := true } }
      (u.setActions (pre ++ post))
    have hsub : a.subject = id := belongs_subject hb
    rw [if_neg (by simpa [hsub] using hid)] at hmem
    rw [← hsub]
    exact hmem

theorem advanceFirst_none (hrun : s.running = true) (he : findEntry id s.lt.train = some e)
    (h : e.firstLeft = true ∨ ∀ a ∈ s.cp.actions, belongs id a = false) :
    exec (.earlyDisagreeAdvance id first) s = .next (s.take (.earlyDisagreeAdvance id first)) := by
  refine (event_running hrun).trans (congrArg _ ?_)
  have he' : findEntry id (s.take (.earlyDisagreeAdvance id first)).lt.train = some e := he
  rw [advanceFirst, he']
  rcases h with hleft | hnone
  · simp [hleft]
  · have hfind : s.cp.actions.find? (belongs id) = none :=
      List.find?_eq_none.mpr (by simpa using hnone)
    simp [hfind]

end

/-- Settles O56. -/
theorem actionsFallDue : Obligations.ActionsFallDue := by
  refine fun newS first s hrun => ⟨fun hsorted => ?_, fun a rest ha hdue hlater => ⟨fun hk hl => ⟨fun r hr => ?_, fun hnone => ?_⟩,
    fun e rs hk hl he hb => ?_, fun h0 => ⟨fun hkind hnone => ?_, fun m hm => ⟨fun hk hl => ⟨fun r hr hp => ⟨?_, fun hu t f ht hf => ?_⟩,
      fun p hp hpk => ?_⟩, fun hk hl => ⟨fun p rs hp hpk hcount hb => ?_, fun hkeep => ?_⟩⟩⟩⟩,
    fun id e he hid => ⟨fun a pre post hleft hactions hb hpre => ?_, fun hnone => ?_⟩⟩
  · obtain ⟨hactions, hcurS, -, hposted⟩ := dueLoop_ordered (first := first) (s := atNewS newS first s) (Nat.le_refl _) hsorted
    have hsettled := Reacted.settlePlan first (atNewS newS first s)
      (dueLoop first s.cp.actions.length (atNewS newS first s))
    refine ⟨_, cpSAdvance_running hrun, ?_, ?_, fun a ha hle hsub => hsettled.handed.subset (hposted a ha hle hsub), fun hall => ?_⟩
    · rw [hsettled.cp]
      exact hcurS
    · rw [hsettled.cp]
      exact hactions
    · rw [dueLoop_stop (s := atNewS newS first s) _ fun x hx => hall x (List.mem_of_mem_head? hx), settlePlan_same rfl]
      rfl
  · obtain ⟨t, hexec, hplan⟩ := frontDue_plan (first := first) (rs := [r]) hrun ha hdue hlater (by simp [changesPlan, hk])
      (by rw [hl]; exact formLineup_transmix hr) (by simp)
    rw [planOwner, hk] at hplan
    exact ⟨t, hexec, hplan⟩
  · exact frontDue_invalid hrun ha hdue hlater hk hl hnone
  · obtain ⟨t, hexec, hplan⟩ := frontDue_plan (first := first) (rs := rs) hrun ha hdue hlater (by simp [changesPlan, hk])
      (by rw [hl]; exact formLineup_enter hk he hb) (bodyLineup_of_bodyRoutes hb).2
    rw [planOwner, hk] at hplan
    exact ⟨t, hexec, hplan⟩
  · have hdone := fallsDue_unchanged (first := first) hrun ha hdue hlater h0 hkind (changesPlan_noManifold hkind hnone)
    rw [manifoldId_none hnone] at hdone
    exact hdone
  · have hdone := fallsDue_changed (first := first) hrun ha hdue hlater h0 (.inl hk)
      ((changesPlan_protect (u := frontTaken newS first rest s) hk hm).mpr hp) (rs := [r]) (by rw [hl]; exact formLineup_transmix hr) (by simp)
    rw [manifoldId_eq hm, hk] at hdone
    exact hdone
  · obtain ⟨t', hexec, -, heffect⟩ := frontDue (first := first) hrun ha hdue hlater
    obtain rfl : t = t' := Host.Outcome.next.inj (ht.symm.trans hexec)
    obtain ⟨e, he, hid, hkeep⟩ := heffect.train (·.protected_) (fun _ _ => rfl) f (List.mem_of_find?_eq_some hf)
    have hmid : e.id = m.id := hid.trans (findEntry_id hf)
    have hchange := (changesPlan_protect (u := frontTaken newS first rest s) hk hm).mpr hp
    refine hkeep (protected_dueEffect (u := frontTaken newS first rest s) (uniqueIds_train hu) hm hk hchange ?_ he hmid)
    have hform : formLineup (frontTaken newS first rest s) .transmix = [r] := formLineup_transmix hr
    rw [hl, hform]
    simp
  · have hkeep : changesPlan a (frontTaken newS first rest s) = false := by
      rw [← Bool.not_eq_true, changesPlan_protect (u := frontTaken newS first rest s) hk hm]
      intro hall
      rcases hall p hp with h | h <;> rcases hpk with h' | h' <;> simp [h] at h'
    have hdone := fallsDue_unchanged (first := first) hrun ha hdue hlater h0 (.inl hk) hkeep
    rw [manifoldId_eq hm] at hdone
    exact hdone
  · have hchange := (changesPlan_return (u := frontTaken newS first rest s) hk hm).mpr ⟨⟨p, hp, hpk⟩, hcount⟩
    have hdone := fallsDue_changed (first := first) hrun ha hdue hlater h0 (.inr hk) hchange (rs := rs)
      (by rw [hl]; exact formLineup_bodyOfManifold hm hb) (bodyLineup_of_bodyRoutes hb).2
    rw [manifoldId_eq hm, hk] at hdone
    exact hdone
  · have hkept : changesPlan a (frontTaken newS first rest s) = false := by
      rw [← Bool.not_eq_true, changesPlan_return (u := frontTaken newS first rest s) hk hm]
      rintro ⟨⟨p, hp, hpk⟩, hcount⟩
      exact hkeep.elim (fun h => h p hp hpk) fun h => h hcount
    have hdone := fallsDue_unchanged (first := first) hrun ha hdue hlater h0 (.inr hk) hkept
    rw [manifoldId_eq hm] at hdone
    exact hdone
  · obtain ⟨t, hexec, hcp, hmem⟩ := advanceFirst_due (first := first) (s := s) hrun he hid hleft hactions hb hpre
    exact ⟨t, hexec, hcp, hmem⟩
  · exact advanceFirst_none hrun he hnone

end Sys2Proof.Proofs.Planner
end

section
/-! Excursions are protected (O57). -/
namespace Sys2Proof.Proofs.Planner

open Sys2Proof Sys2Proof.Machine
open Sys2Proof.Proofs.Answers
open Sys2Proof.Proofs.Routes
open Sys2Proof.Proofs.Train

section
variable {k : State → State} {ch : Channel} {v : Nat} {d : Decision} {first : Precedence} {s : State} {r : RouteNo}

theorem planning_on (h : s.sm.mode ≠ .unconfigured) : planning k s = k s := if_neg h

theorem formLineup_transmix_none {u : State} (h : firstTransmix u.tables = none) : formLineup u .transmix = [] := by
  simp [formLineup, transmixSet, h]

/-- [25]: the start of an excursion whose record is open is not gone. -/
theorem excursionGone_open (h : (s.sd.get ch).excursion.map (fun x => (x.start, x.isOpen)) = some (v, true)) :
    excursionGone ch v s = false := by
  obtain ⟨x, hx, hpair⟩ := Option.map_eq_some_iff.mp h
  obtain ⟨hstart, hopen⟩ := Prod.mk.inj hpair
  simp [excursionGone, hx, hstart, hopen]

/-- The PROTECT of an excursion (R120). -/
theorem excursionAction_protect (hr : firstTransmix s.tables = some r) : excursionAction .protect ch v s
    = ⟨s.cp.nextNum, .protect, 0, excursionTrigger ch v [r] s, .transmix, [r], .none, some ch⟩ := by
  have hform : formLineup s .transmix = [r] := formLineup_transmix hr
  simp [excursionAction, hform]

theorem PerChannel.set_get {α : Type} (p : PerChannel α) (c : Channel) : p.set c (p.get c) = p := by cases c <;> rfl

theorem markProtected_fresh {a : Action} (h : s.cp.protectedMark.get ch = none) : markProtected ch a false s
    = { s with cp := { s.cp with
        protectCount := s.cp.protectCount.set ch (s.cp.protectCount.get ch + 1)
        protectedMark := s.cp.protectedMark.set ch (some ⟨a.number, a.trigger⟩) } } := by
  simp only [markProtected, h, Option.isSome_none, Bool.or_self, Bool.false_eq_true, if_false, Nat.add_zero, PerChannel.set_get]

theorem excursionStart_running (hrun : s.running = true) (hmode : s.sm.mode ≠ .unconfigured)
    (hgone : excursionGone ch v s = false) :
    exec (.excursionStartHanded ch v first) s = .next (excursionStart ch v false first (s.take (.excursionStartHanded ch v first))) := by
  simp only [exec, execExcursionStartHanded, event_running hrun, hgone]
  exact congrArg _ (planning_on (s := s.take _) hmode)

/-- R120: a PROTECT that is stored. -/
theorem excursionStart_stored (hr : firstTransmix s.tables = some r) (hmark : s.cp.protectedMark.get ch = none)
    (hlater : (s.cp.curS : Int) < excursionTrigger ch v [r] s) (hroom : s.cp.actions.length < 16) :
    excursionStart ch v false first s = { s with cp := { s.cp with
      actions := insertAction ⟨s.cp.nextNum, .protect, 0, excursionTrigger ch v [r] s, .transmix, [r], .none, some ch⟩ s.cp.actions
      nextNum := nextNumber s.cp.nextNum
      protectCount := s.cp.protectCount.set ch (s.cp.protectCount.get ch + 1)
      protectedMark := s.cp.protectedMark.set ch (some ⟨s.cp.nextNum, excursionTrigger ch v [r] s⟩) } } := by
  have hplaced := placeAction_stored (first := first) (b := ch == .manifold) (s := takeNumber s)
    (a := ⟨s.cp.nextNum, .protect, 0, excursionTrigger ch v [r] s, .transmix, [r], .none, some ch⟩) hlater hroom
  simp only [excursionStart, hr, Option.isSome_some, if_true, excursionAction_protect hr, lostToFull_room hroom,
    Bool.false_eq_true, if_false, hplaced]
  rw [markProtected_fresh (by exact hmark)]
  exact settlePlan_same (by rfl)

/-- R120: a PROTECT on MANIFOLD is due at once. -/
theorem excursionStart_due (hr : firstTransmix s.tables = some r) : excursionStart .manifold v false first s
    = settlePlan first s (markProtected .manifold ⟨s.cp.nextNum, .protect, 0, s.cp.curS, .transmix, [r], .none, some .manifold⟩ false
        (dueAction first ⟨s.cp.nextNum, .protect, 0, s.cp.curS, .transmix, [r], .none, some .manifold⟩ (takeNumber s))) := by
  have hlost : lostToFull (s.cp.curS : Int) s = false := by simp [lostToFull]
  have htrigger : excursionTrigger .manifold v [r] s = s.cp.curS := rfl
  have hplaced := placeAction_due (first := first) (b := true) (s := takeNumber s)
    (a := ⟨s.cp.nextNum, .protect, 0, s.cp.curS, .transmix, [r], .none, some .manifold⟩) (Int.le_refl _)
  rw [if_pos rfl] at hplaced
  simp only [excursionStart, hr, Option.isSome_some, if_true, excursionAction_protect hr, htrigger, hlost, Bool.false_eq_true,
    if_false, beq_self_eq_true, hplaced]

theorem dueEffect_cp {a : Action} (hk : a.kind ≠ .return_) : (dueEffect a s).cp
    = { s.cp with plan := (dueEffect a s).cp.plan } := by
  obtain ⟨p, train, more, happly⟩ := applyAction_frame a (leftList a s)
  have hcp : (applyAction a (leftList a s)).cp = { s.cp with plan := p } := congrArg (·.cp) happly
  have hrelease : ∀ u, releaseProtection a u = u := fun u => by
    unfold releaseProtection
    split
    · contradiction
    · rfl
  have heffect : (dueEffect a s).cp = (applyAction a (leftList a s)).cp := by
    rw [dueEffect, hrelease]
    rfl
  rw [heffect, hcp]

theorem excursionEnd_running (hrun : s.running = true) (hmode : s.sm.mode ≠ .unconfigured) :
    exec (.excursionEndHanded ch v d first) s
      = .next (excursionEnd ch v first (s.take (.excursionEndHanded ch v d first))) := by
  simp only [exec, execExcursionEndHanded, event_running hrun]
  exact congrArg _ (planning_on (s := s.take _) hmode)

/-- R121: a RETURN that is stored. -/
theorem excursionEnd_stored (hmark : (s.cp.protectedMark.get ch).isSome)
    (hlater : (s.cp.curS : Int) < excursionTrigger ch v (formLineup s .bodyOfManifold) s) (hroom : s.cp.actions.length < 16) :
    excursionEnd ch v first s = { s with cp := { s.cp with
      actions := insertAction ⟨s.cp.nextNum, .return_, 0, excursionTrigger ch v (formLineup s .bodyOfManifold) s, .bodyOfManifold,
        formLineup s .bodyOfManifold, .none, some ch⟩ s.cp.actions
      nextNum := nextNumber s.cp.nextNum
      protectedMark := s.cp.protectedMark.set ch none } } := by
  have haction : excursionAction .return_ ch v s = ⟨s.cp.nextNum, .return_, 0,
      excursionTrigger ch v (formLineup s .bodyOfManifold) s, .bodyOfManifold, formLineup s .bodyOfManifold, .none, some ch⟩ := rfl
  have hplaced := placeAction_stored (first := first) (b := ch == .manifold)
    (s := takeNumber { s with cp := { s.cp with protectedMark := s.cp.protectedMark.set ch none } })
    (a := excursionAction .return_ ch v s) hlater hroom
  simp only [excursionEnd, hmark, if_true, lostToFull_room hroom, Bool.false_eq_true, if_false, hplaced]
  rw [haction]
  exact settlePlan_same (by rfl)

/-- R117, R120: what a PROTECT on MANIFOLD, due at once, leaves of the Cut Planner. -/
theorem protected_at_once {m : Entry} (hr : firstTransmix s.tables = some r) (hm : manifoldOf s.lt.train = some m)
    (hp : ∀ p, s.cp.plan = some p → p.kind = .body ∨ p.kind = .safe) (hmark : s.cp.protectedMark.get .manifold = none) :
    let a : Action := ⟨s.cp.nextNum, .protect, 0, s.cp.curS, .transmix, [r], .none, some .manifold⟩
    let t := settlePlan first s (markProtected .manifold a false (dueAction first a (takeNumber s)))
    t.cp.plan = some ⟨[r], m.id, .protect⟩ ∧ t.cp.actions = s.cp.actions
      ∧ .eventPosted .actionDue m.id s.cp.nextNum ∈ t.handed
      ∧ t.cp.protectCount = ⟨s.cp.protectCount.advance, s.cp.protectCount.manifold + 1⟩
      ∧ t.cp.protectedMark.manifold = some ⟨s.cp.nextNum, s.cp.curS⟩ := by
  intro a t
  have hdue := Reacted.dueAction first a (takeNumber s)
  have hsettle := Reacted.settlePlan first s (markProtected .manifold a false (dueAction first a (takeNumber s)))
  have hleft : leftList a (takeNumber s) = takeNumber s := leftList_protection (.inl rfl)
  have hchange : changesPlan a (takeNumber s) = true := (changesPlan_protect (u := takeNumber s) rfl hm).mpr hp
  have hplan := dueEffect_plan_changed (a := a) (s := takeNumber s) (rs := [r]) (by rw [hleft]; exact hchange)
    (by rw [hleft]; exact formLineup_transmix hr) (by simp)
  have hcp := dueEffect_cp (a := a) (s := takeNumber s) (by simp [a])
  have hmem := actionDue_mem_dueAction first a (takeNumber s)
  rw [if_pos rfl, applyAction_manifoldId, hleft] at hmem
  rw [hleft, planOwner_protection (.inl rfl)] at hplan
  have howner : manifoldId (takeNumber s).lt.train = m.id := manifoldId_eq hm
  rw [howner] at hplan hmem
  rw [hplan] at hcp
  have hmark' : (dueAction first a (takeNumber s)).cp.protectedMark.get .manifold = none := by
    rw [hdue.cp, hcp]
    exact hmark
  have ht : t.cp = _ := hsettle.cp
  rw [markProtected_fresh hmark', hdue.cp, hcp] at ht
  rw [ht]
  refine ⟨rfl, rfl, hsettle.handed.subset ?_, rfl, rfl⟩
  rw [markProtected_fresh hmark']
  exact hmem

end

/-- Settles O57. -/
theorem excursionsAreProtected : Obligations.ExcursionsAreProtected := by
  refine fun v d first s hrun hmode => ⟨fun r hr => ⟨fun hopen hmark hlater hroom => ?_, fun m hm hp hopen hmark => ?_⟩, fun hnone ch => ?_,
    fun hmark hlater hroom => ?_, fun ch hmark => ?_⟩
  · have hexec := excursionStart_running (ch := .advance) (first := first) hrun hmode (excursionGone_open (ch := .advance) hopen)
    rw [excursionStart_stored (s := s.take _) (ch := .advance) hr hmark hlater hroom] at hexec
    exact ⟨_, hexec, inserted_insertAction .., rfl⟩
  · have hexec := excursionStart_running (ch := .manifold) (first := first) hrun hmode (excursionGone_open (ch := .manifold) hopen)
    rw [excursionStart_due (s := s.take _) hr] at hexec
    exact ⟨_, hexec, protected_at_once (s := s.take _) hr hm hp hmark⟩
  · simp only [exec, execExcursionStartHanded, event_running hrun]
    refine congrArg _ ((planning_on (s := s.take _) hmode).trans ?_)
    simp [excursionStart, hnone]
  · have hexec := excursionEnd_running (ch := .advance) (v := v) (d := d) (first := first) hrun hmode
    rw [excursionEnd_stored (s := s.take _) (ch := .advance) hmark hlater hroom] at hexec
    exact ⟨_, hexec, inserted_insertAction .., rfl⟩
  · rw [excursionEnd_running hrun hmode]
    refine congrArg _ (if_neg ?_)
    simp [hmark]

end Sys2Proof.Proofs.Planner
end

section
/-! Crossings and points become actions (O55). -/
namespace Sys2Proof.Proofs.Planner

open Sys2Proof Sys2Proof.Machine
open Sys2Proof.Proofs.Answers
open Sys2Proof.Proofs.Routes
open Sys2Proof.Proofs.Train

/-! ### An interface handed to the Cut Planner -/

/-- An interface with its snapshot, in a train of single IDs, behind the entry `a`. -/
structure Handed (id : Nat) (e a : Entry) (sn : Snapshot) (s : State) : Prop where
  unique : (s.lt.train.map (·.id)).Nodup
  entry : findEntry id s.lt.train = some e
  snapshot : e.leading.bind (·.snapshot) = some sn
  ahead : aheadOf id s.lt.train = some a

section
variable {id : Nat} {e a : Entry} {sn : Snapshot} {act : Action} {first : Precedence} {b : Bool} {s : State}

theorem Handed.interface (h : Handed id e a sn s) : (interfaceOf id s.lt.train).bind (·.snapshot) = some sn := by
  rw [interfaceOf, h.entry]
  exact h.snapshot

theorem aheadOf_mem {t : List Entry} (h : aheadOf id t = some a) : a ∈ t := by
  induction t with
  | nil => cases h
  | cons x rest ih =>
    cases rest with
    | nil => cases h
    | cons y rest =>
      simp only [aheadOf] at h
      split at h
      · exact Option.some.inj h ▸ List.mem_cons_self ..
      · exact List.mem_cons_of_mem _ (ih h)

theorem Handed.findAhead (h : Handed id e a sn s) : findEntry a.id s.lt.train = some a :=
  findEntry_of_mem h.unique (aheadOf_mem h.ahead)

theorem Handed.governing (h : Handed id e a sn s) : governing s.tables s.lt.train e = sn.dispBehind := by
  obtain ⟨i, hi, hsn⟩ := Option.bind_eq_some_iff.mp h.snapshot
  simp [Machine.governing, hi, hsn]

/-! ### The clean volume (R123) -/

theorem cleanVolume_eq {k : Nat} {x y : Entry} (hx : findEntry k s.lt.train = some x) (hy : behindOf k s.lt.train = some y) :
    cleanVolume k s = if x.inherited || x.measured then none
      else x.enterTrigger.bind (fun u => y.firstTrigger.map (fun v => v - u)) := by
  simp only [cleanVolume, hx, hy]
  cases x.enterTrigger <;> cases y.firstTrigger <;> rfl

theorem cleanVolume_inherited {k : Nat} {x : Entry} (hx : findEntry k s.lt.train = some x) (h : x.inherited = true) :
    cleanVolume k s = none := by
  cases hy : behindOf k s.lt.train with
  | none => simp only [cleanVolume, hx, hy]
  | some y => simp [cleanVolume_eq hx hy, h]

theorem cleanVolume_unmeasured {k : Nat} (h : ∀ b, behindOf k s.lt.train = some b → b.firstTrigger = none) :
    cleanVolume k s = none := by
  unfold cleanVolume
  split
  · rename_i x y hx hy
    rw [h y hy]
    split
    · rfl
    · cases x.enterTrigger <;> rfl
  · rfl

/-! ### The triggers kept (R119, R123) -/

/-- An entry with the triggers kept of an action of its interface. -/
def triggered (act : Action) (e : Entry) : Entry :=
  { e with
    firstTrigger := if e.firstTrigger.isNone then some act.trigger else e.firstTrigger
    enterTrigger := if act.kind = .enter then some act.trigger else e.enterTrigger }

theorem keepTriggers_train (act : Action) (s : State) :
    keepTriggers act s = s.setTrain (modEntry act.subject (triggered act) s.lt.train) := rfl

theorem triggered_divert (h : act.kind = .divert) (e : Entry) :
    triggered act e = { e with firstTrigger := some (e.firstTrigger.getD act.trigger) } := by
  cases hf : e.firstTrigger <;> simp [triggered, hf, h]

theorem triggered_enter (h : act.kind = .enter) (e : Entry) :
    triggered act e = { e with firstTrigger := some (e.firstTrigger.getD act.trigger), enterTrigger := some act.trigger } := by
  cases hf : e.firstTrigger <;> simp [triggered, hf, h]

theorem find_keepTriggers (x : Nat) (act : Action) (s : State) :
    findEntry x (keepTriggers act s).lt.train = (findEntry x s.lt.train).map (changed act.subject (triggered act)) :=
  findEntry_map (changed_id (f := triggered act) fun _ => rfl)

theorem behindOf_keepTriggers (x : Nat) (act : Action) (s : State) :
    behindOf x (keepTriggers act s).lt.train = (behindOf x s.lt.train).map (changed act.subject (triggered act)) :=
  behindOf_map (changed_id (f := triggered act) fun _ => rfl)

/-- R123: behind an inherited batch, or with its interface's first action scheduled before, an action measures nothing ahead. -/
theorem measureAhead_kept (h : Handed act.subject e a sn s) (hkept : e.firstTrigger ≠ none ∨ a.inherited = true) :
    measureAhead act s = (keepTriggers act s, false) := by
  have hfirst : isFirst act.subject s = e.firstTrigger.isNone := by simp [isFirst, h.entry]
  by_cases hnone : e.firstTrigger = none
  · have ha : a.inherited = true := hkept.resolve_left (by simp [hnone])
    have hclean : cleanVolume a.id (keepTriggers act s) = none := by
      refine cleanVolume_inherited (x := changed act.subject (triggered act) a) ?_ ?_
      · rw [find_keepTriggers, h.findAhead]
        rfl
      · rw [changed_field (f := triggered act) (p := (·.inherited)) fun _ => rfl]
        exact ha
    simp [measureAhead, hfirst, hnone, h.ahead, measureTrailing, hclean]
  · simp [measureAhead, hfirst, hnone]

end

/-! ### The action of a level (R112 to R114) -/

section
variable {id : Nat} {e a : Entry} {sn : Snapshot} {first : Precedence} {form : HandedAs} {l : Level} {at_ : Nat} {s : State}
  {r : RouteNo} {rs : List RouteNo}

/-- The flags an action has from the form of its level. -/
def formFlags (form : HandedAs) : ActionFlags := { ActionFlags.none with forced := form == .forced, volumetric := form == .volumetric }

theorem formAction_divert (hr : firstTransmix s.tables = some r) : formAction .divert id sn form at_ s
    = ⟨s.cp.nextNum, .divert, id, levelTrigger s sn form at_ (compensation s [r]), .transmix, [r], formFlags form, none⟩ := by
  have hform : formLineup s .transmix = [r] := formLineup_transmix hr
  simp only [formAction, if_true, hform]
  rfl

theorem formAction_enter (hrs : formLineup s (.bodyOf id) = rs) : formAction .enter id sn form at_ s
    = ⟨s.cp.nextNum, .enter, id, levelTrigger s sn form at_ (compensation s rs), .bodyOf id, rs, formFlags form, none⟩ := by
  simp only [formAction, reduceCtorEq, if_false, hrs]
  rfl

theorem invalidDisposition_none {d : Disposition} (h : Safety.BodyRoutes s.tables e d rs) : invalidDisposition s.tables e.product d = none := by
  cases d with
  | pass =>
    obtain ⟨x, hx, -⟩ := h
    simp [invalidDisposition, hx]
  | take r => simp [invalidDisposition, h.1]
  | strip r v =>
    obtain ⟨hr, x, hx, -⟩ := h
    simp [invalidDisposition, hr, hx]
  | transmixAll => rfl

theorem checkDisposition_valid (h : Handed id e a sn s) (hb : Safety.BodyRoutes s.tables e sn.dispBehind rs) :
    checkDisposition id s = s := by
  simp [checkDisposition, h.entry, h.governing, invalidDisposition_none hb]

theorem formLineup_body (h : Handed id e a sn s) (hb : Safety.BodyRoutes s.tables e sn.dispBehind rs) :
    formLineup s (.bodyOf id) = rs := by
  rw [← h.governing] at hb
  simp [formLineup, h.entry, (bodyLineup_of_bodyRoutes hb).1]

theorem scheduleLevel_none (h : Handed id e a sn s) (hnone : calledFor sn.rule l = none) :
    scheduleLevel first id form l at_ s = s := by
  simp [scheduleLevel, h.interface, hnone]

theorem scheduleLevel_divert (h : Handed id e a sn s) (hcall : calledFor sn.rule l = some .divert) (hp : e.protectStands = false)
    (hr : firstTransmix s.tables = some r) : scheduleLevel first id form l at_ s = scheduleAction first
      ⟨s.cp.nextNum, .divert, id, levelTrigger s sn form at_ (compensation s [r]), .transmix, [r], formFlags form, none⟩
      (form == .forced) (takeNumber s) := by
  simp [scheduleLevel, h.interface, hcall, h.entry, hp, formAction_divert hr]

theorem scheduleLevel_enter (h : Handed id e a sn s) (hcall : calledFor sn.rule l = some .enter)
    (hb : Safety.BodyRoutes s.tables e sn.dispBehind rs) : scheduleLevel first id form l at_ s = scheduleAction first
      ⟨s.cp.nextNum, .enter, id, levelTrigger s sn form at_ (compensation s rs), .bodyOf id, rs, formFlags form, none⟩
      (form == .forced) (takeNumber s) := by
  simp [scheduleLevel, h.interface, hcall, checkDisposition_valid h hb, formAction_enter (formLineup_body h hb)]

end

/-! ### An action scheduled and stored -/

/-- The state with an action of an interface stored and its triggers kept. -/
def storedState (act : Action) (s : State) : State :=
  { s with
    cp := { s.cp with actions := insertAction act s.cp.actions, nextNum := nextNumber s.cp.nextNum }
    lt := { s.lt with train := modEntry act.subject (triggered act) s.lt.train } }

section
variable {id : Nat} {e a : Entry} {sn : Snapshot} {act : Action} {first : Precedence} {b : Bool} {s m : State}

theorem scheduleAction_divert (hk : act.kind = .divert) (hm : measureAhead act s = (m, false)) :
    scheduleAction first act b s = placeAction first act b m := by
  simp [scheduleAction, hm, hk]

theorem scheduleAction_enter (hk : act.kind = .enter) (hm : measureAhead act s = (m, false)) :
    scheduleAction first act b s = placeAction first (measureEnter act.subject act m).2 b (measureEnter act.subject act m).1 := by
  simp [scheduleAction, hm, hk]

theorem measureEnter_none {k : Nat} (h : cleanVolume k s = none) : measureEnter k act s = (s, act) := by
  simp [measureEnter, h]

theorem placed_stored (hlater : (s.cp.curS : Int) < act.trigger) (hroom : s.cp.actions.length < 16) :
    placeAction first act b (keepTriggers act (takeNumber s)) = storedState act s :=
  placeAction_stored (s := keepTriggers act (takeNumber s)) hlater hroom

theorem Handed.takeNumber (h : Handed id e a sn s) : Handed id e a sn (takeNumber s) := ⟨h.unique, h.entry, h.snapshot, h.ahead⟩

theorem Handed.take (h : Handed id e a sn s) (i : Instr) : Handed id e a sn (s.take i) := ⟨h.unique, h.entry, h.snapshot, h.ahead⟩

theorem map_id_modEntry {f : Entry → Entry} (hf : ∀ e, (f e).id = e.id) (x : Nat) (t : List Entry) :
    (modEntry x f t).map (·.id) = t.map (·.id) := by
  rw [modEntry_eq_map, List.map_map]
  exact List.map_congr_left fun e _ => changed_id hf e

theorem Handed.storedState (h : Handed id e a sn s) (hid : act.subject = id) :
    Handed id (triggered act e) (changed id (triggered act) a) sn (storedState act s) := by
  subst hid
  refine ⟨?_, ?_, h.snapshot, ?_⟩
  · exact (map_id_modEntry (f := triggered act) (fun _ => rfl) ..).symm ▸ h.unique
  · exact (findEntry_modEntry (f := triggered act) fun _ => rfl).trans (by rw [h.entry]; rfl)
  · exact (aheadOf_map (changed_id (f := triggered act) fun _ => rfl)).trans (by rw [h.ahead]; rfl)

theorem unmeasured_keepTriggers (hun : ∀ b, behindOf act.subject s.lt.train = some b → b.firstTrigger = none)
    (hunique : ∀ b, behindOf act.subject s.lt.train = some b → b.id ≠ act.subject) :
    cleanVolume act.subject (keepTriggers act s) = none := by
  refine cleanVolume_unmeasured fun b hb => ?_
  rw [behindOf_keepTriggers, Option.map_eq_some_iff] at hb
  obtain ⟨x, hx, rfl⟩ := hb
  rw [changed_other (hunique x hx)]
  exact hun x hx

theorem behindOf_ne {x : Nat} {t : List Entry} {y : Entry} (hu : (t.map (·.id)).Nodup) (h : behindOf x t = some y) : y.id ≠ x := by
  induction t with
  | nil => cases h
  | cons z rest ih =>
    obtain ⟨hnot, hu'⟩ := List.nodup_cons.mp hu
    simp only [behindOf] at h
    split at h
    next hz =>
      have hzx : z.id = x := by simpa using hz
      exact fun hyx => hnot (List.mem_map.mpr ⟨y, List.mem_of_mem_head? h, hyx.trans hzx.symm⟩)
    next => exact ih hu' h

theorem modEntry_modEntry {x : Nat} {f g : Entry → Entry} (hf : ∀ e, (f e).id = e.id) (t : List Entry) :
    modEntry x g (modEntry x f t) = modEntry x (fun e => g (f e)) t := by
  rw [modEntry_eq_map, modEntry_eq_map, modEntry_eq_map, List.map_map]
  refine List.map_congr_left fun e _ => ?_
  by_cases h : e.id = x
  · rw [Function.comp, changed_self h, changed_self h, changed_self ((hf e).trans h)]
  · rw [Function.comp, changed_other h, changed_other h, changed_other h]

end

/-! ### A level scheduled behind an inherited batch, or once more -/

/-- The DIVERT of an interface, not yet placed. -/
def divertAt (id : Nat) (tr : Int) (r : RouteNo) (form : HandedAs) (s : State) : Action :=
  ⟨s.cp.nextNum, .divert, id, tr, .transmix, [r], formFlags form, none⟩

/-- The ENTER of a batch, not yet placed. -/
def enterAt (id : Nat) (tr : Int) (rs : List RouteNo) (form : HandedAs) (s : State) : Action :=
  ⟨s.cp.nextNum, .enter, id, tr, .bodyOf id, rs, formFlags form, none⟩

section
variable {id : Nat} {e a : Entry} {sn : Snapshot} {first : Precedence} {form : HandedAs} {l : Level} {at_ : Nat} {s u : State}
  {r : RouteNo} {rs : List RouteNo} {tr : Int}

theorem levelTrigger_crossing {ch : Channel} {c : Nat} (hp : sn.primary = some ch) : levelTrigger s sn .crossing at_ c
    = (at_ : Int) + (if ch = .advance then s.tables.params.leadVolume else 0) - c := by
  cases ch <;> simp [levelTrigger, hp]

theorem divert_placed (h : Handed id e a sn s) (hkept : e.firstTrigger ≠ none ∨ a.inherited = true)
    (hcall : calledFor sn.rule l = some .divert) (hp : e.protectStands = false) (hr : firstTransmix s.tables = some r)
    (htr : levelTrigger s sn form at_ (compensation s [r]) = tr) : scheduleLevel first id form l at_ s
      = placeAction first (divertAt id tr r form s) (form == .forced) (keepTriggers (divertAt id tr r form s) (takeNumber s)) := by
  rw [scheduleLevel_divert h hcall hp hr, htr]
  exact scheduleAction_divert rfl (measureAhead_kept (act := divertAt id tr r form s) h.takeNumber hkept)

theorem enter_placed (h : Handed id e a sn s) (hkept : e.firstTrigger ≠ none ∨ a.inherited = true)
    (hcall : calledFor sn.rule l = some .enter) (hb : Safety.BodyRoutes s.tables e sn.dispBehind rs)
    (hun : ∀ b, behindOf id s.lt.train = some b → b.firstTrigger = none)
    (htr : levelTrigger s sn form at_ (compensation s rs) = tr) : scheduleLevel first id form l at_ s
      = placeAction first (enterAt id tr rs form s) (form == .forced) (keepTriggers (enterAt id tr rs form s) (takeNumber s)) := by
  rw [scheduleLevel_enter h hcall hb, htr]
  refine (scheduleAction_enter rfl (measureAhead_kept (act := enterAt id tr rs form s) h.takeNumber hkept)).trans ?_
  rw [measureEnter_none (unmeasured_keepTriggers (act := enterAt id tr rs form s) (s := takeNumber s) hun
    fun b hb => behindOf_ne h.unique hb)]

theorem divert_stored (h : Handed id e a sn s) (hkept : e.firstTrigger ≠ none ∨ a.inherited = true)
    (hcall : calledFor sn.rule l = some .divert) (hp : e.protectStands = false) (hr : firstTransmix s.tables = some r)
    (htr : levelTrigger s sn form at_ (compensation s [r]) = tr) (hlater : (s.cp.curS : Int) < tr) (hroom : s.cp.actions.length < 16) :
    scheduleLevel first id form l at_ s = storedState (divertAt id tr r form s) s :=
  (divert_placed h hkept hcall hp hr htr).trans (placed_stored (by exact hlater) hroom)

theorem enter_stored (h : Handed id e a sn s) (hkept : e.firstTrigger ≠ none ∨ a.inherited = true)
    (hcall : calledFor sn.rule l = some .enter) (hb : Safety.BodyRoutes s.tables e sn.dispBehind rs)
    (hun : ∀ b, behindOf id s.lt.train = some b → b.firstTrigger = none)
    (htr : levelTrigger s sn form at_ (compensation s rs) = tr) (hlater : (s.cp.curS : Int) < tr) (hroom : s.cp.actions.length < 16) :
    scheduleLevel first id form l at_ s = storedState (enterAt id tr rs form s) s :=
  (enter_placed h hkept hcall hb hun htr).trans (placed_stored (by exact hlater) hroom)

theorem storedState_divert : storedState (divertAt id tr r form s) s = { s with
    cp := { s.cp with actions := insertAction (divertAt id tr r form s) s.cp.actions, nextNum := nextNumber s.cp.nextNum }
    lt := { s.lt with train := modEntry id (fun e => { e with firstTrigger := some (e.firstTrigger.getD tr) }) s.lt.train } } := by
  have hf : triggered (divertAt id tr r form s) = fun e => { e with firstTrigger := some (e.firstTrigger.getD tr) } :=
    funext (triggered_divert rfl)
  rw [storedState, hf]
  rfl

theorem storedState_enter : storedState (enterAt id tr rs form u) s = { s with
    cp := { s.cp with actions := insertAction (enterAt id tr rs form u) s.cp.actions, nextNum := nextNumber s.cp.nextNum }
    lt := { s.lt with train := modEntry id (fun e =>
      { e with firstTrigger := some (e.firstTrigger.getD tr), enterTrigger := some tr }) s.lt.train } } := by
  have hf : triggered (enterAt id tr rs form u)
      = fun e => { e with firstTrigger := some (e.firstTrigger.getD tr), enterTrigger := some tr } := funext (triggered_enter rfl)
  rw [storedState, hf]
  rfl

theorem bodyRoutes_triggered {act : Action} {tb : Tables} {d : Disposition} (h : Safety.BodyRoutes tb e d rs) :
    Safety.BodyRoutes tb (triggered act e) d rs := by
  cases d <;> exact h

end

end Sys2Proof.Proofs.Planner
end

section
/-! Crossings and points behind an inherited batch (O55). -/
namespace Sys2Proof.Proofs.Planner

open Sys2Proof Sys2Proof.Machine
open Sys2Proof.Proofs.Answers
open Sys2Proof.Proofs.Routes
open Sys2Proof.Proofs.Train

/-! ### What the Cut Planner is handed -/

section
variable {ch : Channel} {id v : Nat} {l : Level} {f : Bool} {first : Precedence} {e a : Entry} {sn : Snapshot} {s : State}
  {points : List CutPoint}

theorem crossing_running (hrun : s.running = true) (hmode : s.sm.mode ≠ .unconfigured) (h : Handed id e a sn s)
    (hp : sn.primary = some ch) : exec (.crossingToCutPlanner ch id l v f first) s
      = .next (settlePlan first (s.take (.crossingToCutPlanner ch id l v f first)) (scheduleLevel first id
          (if f then .forced else .crossing) l v (s.take (.crossingToCutPlanner ch id l v f first)))) := by
  refine (event_running hrun).trans (congrArg _ ((planning_on (s := s.take _) hmode).trans ?_))
  simp only [crossingToPlanner, (h.take _).interface, hp, if_true]

theorem crossing_other (hrun : s.running = true) (hmode : s.sm.mode ≠ .unconfigured) (h : Handed id e a sn s)
    (hp : sn.primary = some ch) : exec (.crossingToCutPlanner (otherChannel ch) id l v f first) s
      = .next (s.take (.crossingToCutPlanner (otherChannel ch) id l v f first)) := by
  refine (event_running hrun).trans (congrArg _ ((planning_on (s := s.take _) hmode).trans ?_))
  have hne : sn.primary ≠ some (otherChannel ch) := by cases ch <;> simp [hp, otherChannel]
  simp only [crossingToPlanner, (h.take _).interface, hne, if_false]

theorem points_running (hrun : s.running = true) (hmode : s.sm.mode ≠ .unconfigured) :
    exec (.volumetricPointsToCutPlanner id points first) s
      = .next (settlePlan first (s.take (.volumetricPointsToCutPlanner id points first))
          (pointsToPlanner id first points (s.take (.volumetricPointsToCutPlanner id points first)))) :=
  (event_running hrun).trans (congrArg _ (planning_on (s := s.take _) hmode))

end

/-! ### A DIVERT due at once (R115, R117) -/

section
variable {act : Action} {first : Precedence} {u w : State} {r : RouteNo}

/-- What a DIVERT due at once leaves. -/
theorem divert_due (hk : act.kind = .divert) (hl : act.lineup = .transmix) (hid : act.subject ≠ 0)
    (hr : firstTransmix w.tables = some r) :
    let t := settlePlan first u (dueAction first act w)
    t.cp.plan = some ⟨[r], act.subject, .transmix⟩ ∧ t.cp.actions = w.cp.actions
      ∧ .eventPosted .actionDue act.subject act.number ∈ t.handed
      ∧ (first = .routeController → .actionLeftList act.subject ∈ t.handed) := by
  intro t
  have hsettle := Reacted.settlePlan first u (dueAction first act w)
  have hmem := actionDue_mem_dueAction first act w
  rw [if_neg hid] at hmem
  have hplan := dueEffect_plan_changed (a := act) (s := w) (rs := [r]) (by simp [changesPlan, hk])
    (by rw [hl]; exact formLineup_transmix hr) (by simp)
  have howner : planOwner act (leftList act w) = act.subject := by simp [planOwner, hk]
  rw [howner, hk] at hplan
  refine ⟨?_, ?_, hsettle.handed.subset hmem, ?_⟩
  · rw [hsettle.cp, (Reacted.dueAction first act w).cp]
    exact hplan
  · rw [hsettle.cp, dueAction_actions]
  · rintro rfl
    exact hsettle.handed.subset (List.mem_append_right _ (by simp))

/-- A due DIVERT changes of the train what its leaving and its flags change. -/
theorem dueEffect_train_divert (hk : act.kind = .divert) :
    (dueEffect act w).lt.train = flagAction act (modEntry act.subject leftEntry w.lt.train) := by
  have hrelease : ∀ x, (releaseProtection act x).lt = x.lt := fun x => by
    unfold releaseProtection
    split <;> rfl
  have hleft : (leftList act w).lt.train = modEntry act.subject leftEntry w.lt.train := if_pos (.inl hk)
  obtain ⟨p, more, happly⟩ := applyPlan_frame (formLineup (leftList act w) act.lineup) (planKindOf act.kind)
    (planOwner act (leftList act w)) (leftList act w)
  have htrain : (applyAction act (leftList act w)).lt.train = (leftList act w).lt.train := by
    simp only [applyAction, changesPlan, hk, reduceCtorEq, false_and, if_true, if_false] at happly ⊢
    rw [happly]
  rw [← hleft, ← htrain]
  exact congrArg (·.train) (hrelease _)

/-- R117, step 6: the batch of a forced action that is not COMPLETE is flagged. -/
theorem forced_flagAction {t : List Entry} (hid : act.subject ≠ 0) (hf : act.flags.forced = true)
    (hopen : ∀ e ∈ t, e.id = act.subject → e.complete = false) {b : Entry} (hb : b ∈ flagAction act t) (hbid : b.id = act.subject) :
    b.delivery.flags.forced = true := by
  have hflags : ∀ x : TicketFlags, x.forced = true → (actionTicketFlags act x).forced = true := fun x hx => by
    simp [actionTicketFlags, hx]
  have hmark : ∀ x ∈ markBatch act.subject (actionTicketFlags act) t, x.id = act.subject → x.delivery.flags.forced = true := by
    intro x hx hxid
    obtain ⟨y, hy, rfl⟩ := List.mem_map.mp hx
    have hyid : y.id = act.subject := by
      by_contra hne
      simp [hne] at hxid
    simp [hyid, hopen y hy hyid, actionTicketFlags, hf]
  simp only [flagAction, if_neg hid] at hb
  split at hb
  · obtain ⟨x, hx, hxid, hkeep⟩ := KeepsFlag.markBatch (p := (·.forced)) _ hflags _ b hb
    exact hkeep (hmark x hx (hxid.trans hbid))
  · exact hmark b hb hbid

theorem Handed.only {id : Nat} {e a x : Entry} {sn : Snapshot} {s : State} (h : Handed id e a sn s) (hx : x ∈ s.lt.train)
    (hid : x.id = id) : x = e := by
  subst hid
  exact Option.some.inj ((findEntry_of_mem h.unique hx).symm.trans h.entry)

/-- The batch of a forced DIVERT, due at once, stays flagged while it is in the train. -/
theorem divert_forced {e a : Entry} {sn : Snapshot} (h : Handed act.subject e a sn w) (hk : act.kind = .divert)
    (hid : act.subject ≠ 0) (hf : act.flags.forced = true) (hopen : e.complete = false) {b : Entry}
    (hb : findEntry act.subject (settlePlan first u (dueAction first act (keepTriggers act w))).lt.train = some b) :
    b.delivery.flags.forced = true := by
  have hreacted := (Reacted.dueAction first act (keepTriggers act w)).trans (.settlePlan first u _)
  obtain ⟨x, hx, hxid, hkeep⟩ := hreacted.train (·.forced) (fun _ _ => rfl) b (List.mem_of_find?_eq_some hb)
  refine hkeep ?_
  rw [dueEffect_train_divert hk] at hx
  refine forced_flagAction hid hf (fun y hy hyid => ?_) hx (hxid.trans (findEntry_id hb))
  have hcomplete : ∀ y ∈ w.lt.train, y.id = act.subject → y.complete = false := fun y hy hyid => by rw [h.only hy hyid, hopen]
  rw [keepTriggers_train, State.setTrain_lt, modEntry_modEntry (f := triggered act) fun _ => rfl] at hy
  obtain ⟨z, hz, rfl⟩ := List.mem_map.mp hy
  by_cases hzid : z.id = act.subject
  · simp only [hzid, beq_self_eq_true, if_true]
    exact hcomplete z hz hzid
  · simp [hzid] at hyid

end

/-! ### The clauses behind an inherited batch -/

section
variable {ch : Channel} {id v : Nat} {first : Precedence} {e a : Entry} {sn : Snapshot} {s u : State} {r : RouteNo}
  {rs : List RouteNo}

/-- The trigger of a crossing (R114). -/
def crossingTrigger (ch : Channel) (v : Nat) (rs : List RouteNo) (s : State) : Int :=
  (v : Int) + (if ch = .advance then s.tables.params.leadVolume else 0) - compensation s rs

theorem crossing_divert (hrun : s.running = true) (hmode : s.sm.mode ≠ .unconfigured) (h : Handed id e a sn s)
    (hprimary : sn.primary = some ch) (hkept : e.firstTrigger ≠ none ∨ a.inherited = true) (hstands : e.protectStands = false)
    (hrule : sn.rule = .transmix) (hr : firstTransmix s.tables = some r) :
    let c := Instr.crossingToCutPlanner ch id .h v false first
    let act := divertAt id (crossingTrigger ch v [r] s) r .crossing s
    exec c s = .next (settlePlan first (s.take c) (placeAction first act false (keepTriggers act (takeNumber (s.take c))))) := by
  have hplaced := divert_placed (s := s.take (.crossingToCutPlanner ch id .h v false first)) (first := first) (l := .h)
    (form := .crossing) (at_ := v) (h.take _) hkept (by rw [hrule]; rfl) hstands hr (levelTrigger_crossing hprimary)
  exact (crossing_running hrun hmode h hprimary).trans (congrArg (fun x => Host.Outcome.next (settlePlan first _ x)) hplaced)

theorem forced_divert (hrun : s.running = true) (hmode : s.sm.mode ≠ .unconfigured) (h : Handed id e a sn s)
    (hprimary : sn.primary = some ch) (hkept : e.firstTrigger ≠ none ∨ a.inherited = true) (hstands : e.protectStands = false)
    (hrule : sn.rule = .transmix) (hr : firstTransmix s.tables = some r) :
    let c := Instr.crossingToCutPlanner ch id .h v true first
    let act := divertAt id s.cp.curS r .forced s
    exec c s = .next (settlePlan first (s.take c) (dueAction first act (keepTriggers act (takeNumber (s.take c))))) := by
  have hplaced := divert_placed (s := s.take (.crossingToCutPlanner ch id .h v true first)) (first := first) (l := .h)
    (form := .forced) (at_ := v) (h.take _) hkept (by rw [hrule]; rfl) hstands hr rfl
  rw [placeAction_due (Int.le_refl _)] at hplaced
  exact (crossing_running hrun hmode h hprimary).trans (congrArg (fun x => Host.Outcome.next (settlePlan first _ x)) hplaced)

theorem crossing_enter (hrun : s.running = true) (hmode : s.sm.mode ≠ .unconfigured) (h : Handed id e a sn s)
    (hprimary : sn.primary = some ch) (hkept : e.firstTrigger ≠ none ∨ a.inherited = true)
    (hrule : sn.rule = .transmix) (hb : Safety.BodyRoutes s.tables e sn.dispBehind rs)
    (hun : ∀ b, behindOf id s.lt.train = some b → b.firstTrigger = none)
    (hlater : (s.cp.curS : Int) < crossingTrigger ch v rs s) (hroom : s.cp.actions.length < 16) :
    let c := Instr.crossingToCutPlanner ch id .t v false first
    exec c s = .next (storedState (enterAt id (crossingTrigger ch v rs s) rs .crossing s) (s.take c)) := by
  have hplaced := enter_stored (s := s.take (.crossingToCutPlanner ch id .t v false first)) (first := first) (l := .t)
    (form := .crossing) (at_ := v) (h.take _) hkept (by rw [hrule]; rfl) hb hun (levelTrigger_crossing hprimary) hlater hroom
  refine (crossing_running hrun hmode h hprimary).trans (congrArg Host.Outcome.next ?_)
  exact (congrArg (settlePlan first _) hplaced).trans (settlePlan_same (by rfl))

/-- R113: a level at which a rule without transmix has its ENTER. -/
theorem points_one_enter {p1 p2 p3 at_ : Nat} (h : Handed id e a sn u) (hkept : e.firstTrigger ≠ none ∨ a.inherited = true)
    (hrule : (sn.rule = .toBehind ∧ at_ = p1) ∨ (sn.rule = .split ∧ at_ = p2) ∨ (sn.rule = .toAhead ∧ at_ = p3))
    (hb : Safety.BodyRoutes u.tables e sn.dispBehind rs) (hun : ∀ b, behindOf id u.lt.train = some b → b.firstTrigger = none)
    (hlater : (u.cp.curS : Int) < (at_ : Int) + u.tables.params.leadVolume - compensation u rs) (hroom : u.cp.actions.length < 16) :
    pointsToPlanner id first [⟨.h, p1⟩, ⟨.mid, p2⟩, ⟨.t, p3⟩] u
      = storedState (enterAt id ((at_ : Int) + u.tables.params.leadVolume - compensation u rs) rs .volumetric u) u := by
  have hstored : ∀ l, calledFor sn.rule l = some .enter → scheduleLevel first id .volumetric l at_ u
      = storedState (enterAt id ((at_ : Int) + u.tables.params.leadVolume - compensation u rs) rs .volumetric u) u :=
    fun l hl => enter_stored h hkept hl hb hun rfl hlater hroom
  have hafter := h.storedState (act := enterAt id ((at_ : Int) + u.tables.params.leadVolume - compensation u rs) rs .volumetric u) rfl
  rcases hrule with ⟨hrule, rfl⟩ | ⟨hrule, rfl⟩ | ⟨hrule, rfl⟩ <;> rw [hrule] at hstored <;> simp only [pointsToPlanner]
  · rw [hstored .h rfl, scheduleLevel_none hafter (by rw [hrule]; rfl), scheduleLevel_none hafter (by rw [hrule]; rfl)]
  · rw [scheduleLevel_none h (by rw [hrule]; rfl), hstored .mid rfl, scheduleLevel_none hafter (by rw [hrule]; rfl)]
  · rw [scheduleLevel_none h (by rw [hrule]; rfl), scheduleLevel_none h (by rw [hrule]; rfl), hstored .t rfl]

/-- The points of a TRANSMIX rule: the DIVERT is stored, and what comes next is the ENTER. -/
theorem points_divert {p1 p2 p3 : Nat} (h : Handed id e a sn u) (hkept : e.firstTrigger ≠ none ∨ a.inherited = true)
    (hstands : e.protectStands = false) (hrule : sn.rule = .transmix) (hr : firstTransmix u.tables = some r)
    (hlater : (u.cp.curS : Int) < (p1 : Int) + u.tables.params.leadVolume - compensation u [r]) (hroom : u.cp.actions.length < 16) :
    let act := divertAt id ((p1 : Int) + u.tables.params.leadVolume - compensation u [r]) r .volumetric u
    pointsToPlanner id first [⟨.h, p1⟩, ⟨.mid, p2⟩, ⟨.t, p3⟩] u = scheduleLevel first id .volumetric .t p3 (storedState act u) := by
  intro act
  have hafter := h.storedState (act := act) rfl
  have hstored : scheduleLevel first id .volumetric .h p1 u = storedState act u :=
    divert_stored h hkept (by rw [hrule]; rfl) hstands hr rfl hlater hroom
  simp only [pointsToPlanner]
  rw [hstored, scheduleLevel_none hafter (by rw [hrule]; rfl)]

theorem unmeasured_storedState {act : Action} (hu : (u.lt.train.map (·.id)).Nodup) (hid : act.subject = id)
    (hun : ∀ b, behindOf id u.lt.train = some b → b.firstTrigger = none) :
    ∀ b, behindOf id (storedState act u).lt.train = some b → b.firstTrigger = none := by
  subst hid
  intro b hb
  obtain ⟨x, hx, rfl⟩ := Option.map_eq_some_iff.mp ((behindOf_keepTriggers act.subject act u).symm.trans hb)
  rw [changed_other (behindOf_ne hu hx)]
  exact hun x hx

end

end Sys2Proof.Proofs.Planner
end

section
/-! Short batches merged (O55). -/
namespace Sys2Proof.Proofs.Planner

open Sys2Proof Sys2Proof.Machine
open Sys2Proof.Proofs.Answers
open Sys2Proof.Proofs.Train

/-! ### Neighbours and changes of entries -/

section
variable {id k : Nat} {e a b : Entry} {sn : Snapshot} {s : State} {t : List Entry} {f g : Entry → Entry}

theorem aheadOf_tail (h : aheadOf id t = some a) : id ∈ (t.map (·.id)).tail := by
  induction t with
  | nil => cases h
  | cons x rest ih =>
    cases rest with
    | nil => cases h
    | cons y rest =>
      simp only [aheadOf] at h
      split at h
      next hy => simp [beq_iff_eq.mp hy]
      next => exact List.mem_of_mem_tail (ih h)

theorem behindOf_of_aheadOf (hu : (t.map (·.id)).Nodup) (ha : aheadOf id t = some a) : behindOf a.id t = findEntry id t := by
  induction t with
  | nil => cases ha
  | cons x rest ih =>
    obtain ⟨hnot, hu'⟩ := List.nodup_cons.mp hu
    have hxid : x.id ≠ id := fun h => hnot (h.symm ▸ aheadOf_tail ha : x.id ∈ rest.map (·.id))
    have hfind : findEntry id (x :: rest) = findEntry id rest := List.find?_cons_of_neg (by simpa using hxid)
    cases rest with
    | nil => cases ha
    | cons y rest =>
      rw [hfind]
      simp only [aheadOf] at ha
      split at ha
      next hy =>
        obtain rfl := Option.some.inj ha
        simp [behindOf, findEntry, beq_iff_eq.mp hy]
      next =>
        have hxa : x.id ≠ a.id := fun h => hnot (List.mem_map.mpr ⟨a, aheadOf_mem ha, h.symm⟩)
        rw [behindOf, if_neg (by simpa using hxa), ih hu' ha]

theorem Handed.ahead_ne (h : Handed id e a sn s) : a.id ≠ id := by
  have hbehind := behindOf_of_aheadOf h.unique h.ahead
  rw [h.entry] at hbehind
  have hne := behindOf_ne h.unique hbehind
  rw [findEntry_id h.entry] at hne
  exact hne.symm

theorem Handed.behindAhead (h : Handed id e a sn s) : behindOf a.id s.lt.train = some e :=
  (behindOf_of_aheadOf h.unique h.ahead).trans h.entry

theorem modEntry_comm (hne : id ≠ k) (hf : ∀ e, (f e).id = e.id) (hg : ∀ e, (g e).id = e.id) (t : List Entry) :
    modEntry id f (modEntry k g t) = modEntry k g (modEntry id f t) := by
  simp only [modEntry_eq_map, List.map_map]
  refine List.map_congr_left fun x _ => ?_
  simp only [Function.comp]
  by_cases hx : x.id = id
  · have hxk : x.id ≠ k := hx ▸ hne
    rw [changed_other hxk, changed_self hx, changed_other (by rw [hf]; exact hxk)]
  · rw [changed_other (f := f) hx, changed_other (by rw [changed_id hg]; exact hx)]

/-- The batch with an ID is not COMPLETE. -/
def OpenBatch (k : Nat) (t : List Entry) : Prop := ∀ e ∈ t, e.id = k → e.complete = false

theorem OpenBatch.modEntry (h : OpenBatch k t) (hf : ∀ e, (f e).id = e.id) (hc : ∀ e, (f e).complete = e.complete) :
    OpenBatch k (modEntry id f t) := by
  intro e he hid
  obtain ⟨x, hx, rfl⟩ := List.mem_map.mp he
  rw [← changed] at hid ⊢
  rw [changed_id hf] at hid
  rw [changed_field (p := (·.complete)) hc]
  exact h x hx hid

/-- A ticket flag of a batch that is not COMPLETE. -/
theorem markBatch_open {m : TicketFlags → TicketFlags} (h : OpenBatch k t) :
    markBatch k m t = modEntry k (fun e => { e with delivery := { e.delivery with flags := m e.delivery.flags } }) t := by
  refine List.map_congr_left fun e he => ?_
  by_cases hid : e.id = k
  · simp [hid, h e he hid]
  · simp [hid]

/-- An entry whose clean volume has been measured, with the MERGED flag of a merge. -/
def measuredAs (merged : Bool) (e : Entry) : Entry :=
  { e with
    measured := true
    delivery := { e.delivery with flags := { e.delivery.flags with merged := e.delivery.flags.merged || merged } } }

theorem measuredAs_false (e : Entry) : measuredAs false e = { e with measured := true } := by simp [measuredAs]

theorem setMeasured_train (k : Nat) (s : State) : setMeasured k s = s.setTrain (modEntry k (measuredAs false) s.lt.train) := by
  rw [funext measuredAs_false]
  rfl

/-- R123: measured and flagged MERGED. -/
theorem merged_train (h : OpenBatch k t) :
    markBatch k (fun f => { f with merged := true }) (modEntry k (measuredAs false) t) = modEntry k (measuredAs true) t := by
  rw [markBatch_open, modEntry_modEntry (f := measuredAs false) fun _ => rfl]
  · congr 1
    funext e
    simp [measuredAs]
  · exact h.modEntry (fun _ => rfl) fun _ => rfl

theorem only_of_find (hu : (t.map (·.id)).Nodup) (h : findEntry k t = some e) : ∀ x ∈ t, x.id = k → x = e := by
  rintro x hx rfl
  exact Option.some.inj ((findEntry_of_mem hu hx).symm.trans h)

end

/-! ### The batch ahead measured (R123) -/

section
variable {id : Nat} {e a : Entry} {sn : Snapshot} {act : Action} {s : State} {x : Int}

/-- R123: the clean volume of the batch ahead, at the first action of its trailing interface. -/
theorem cleanVolume_ahead (h : Handed act.subject e a sn s) (hinherited : a.inherited = false) (hmeasured : a.measured = false)
    (hx : a.enterTrigger = some x) (hfirst : e.firstTrigger = none) :
    cleanVolume a.id (keepTriggers act s) = some (act.trigger - x) := by
  have ha : findEntry a.id (keepTriggers act s).lt.train = some a := by
    rw [find_keepTriggers, h.findAhead, Option.map_some, changed_other h.ahead_ne]
  have he : behindOf a.id (keepTriggers act s).lt.train = some (triggered act e) := by
    rw [behindOf_keepTriggers, h.behindAhead, Option.map_some, changed_self (findEntry_id h.entry)]
  simp [cleanVolume_eq ha he, hinherited, hmeasured, hx, triggered, hfirst]

theorem measureAhead_first (h : Handed act.subject e a sn s) (hfirst : e.firstTrigger = none) :
    measureAhead act s = measureTrailing a.id act.subject (keepTriggers act s) := by
  simp [measureAhead, isFirst, h.entry, hfirst, h.ahead]

theorem removeZoneDivert_none {b : Nat} (h : ∀ y ∈ s.cp.actions, zoneDivert b y = false) : removeZoneDivert b s = s := by
  have hany : s.cp.actions.any (zoneDivert b) = false := by simpa [List.any_eq_false] using h
  rw [removeZoneDivert, hany]
  exact if_neg (by simp)

/-- R123: a converted ENTER is no DIVERT of another interface. -/
theorem zoneDivert_convertEnter {tb : Tables} {k b : Nat} {y : Action} (h : ¬(y.kind = .divert ∧ y.subject = b)) :
    zoneDivert b (convertEnter tb k y) = false := by
  unfold convertEnter
  split
  · simp [zoneDivert]
  · simpa [zoneDivert] using fun hk hs => absurd ⟨hk, hs⟩ h

theorem enterHeld_iff {k : Nat} : enterHeld k s = true ↔ ∃ y ∈ s.cp.actions, y.kind = .enter ∧ y.subject = k := by
  simp [enterHeld]

theorem mergeable_iff {clean : Int} : mergeable clean s = true ↔ clean < s.tables.params.minClean := by simp [mergeable]

end

/-! ### The DIVERT that measures the batch ahead -/

section
variable {ch : Channel} {v : Nat} {first : Precedence} {e a : Entry} {sn : Snapshot} {s u : State} {r : RouteNo} {x tr : Int}

/-- The train once the first action of an interface has measured the batch ahead. -/
def aheadMeasured (a e : Entry) (tr : Int) (merged : Bool) (t : List Entry) : List Entry :=
  modEntry a.id (measuredAs merged) (modEntry e.id (fun b => { b with firstTrigger := some tr }) t)

theorem keepTriggers_first {act : Action} (h : Handed act.subject e a sn s) (hk : act.kind = .divert) (hfirst : e.firstTrigger = none) :
    keepTriggers act s = s.setTrain (modEntry e.id (fun b => { b with firstTrigger := some act.trigger }) s.lt.train) := by
  have hid := findEntry_id h.entry
  refine congrArg s.setTrain ?_
  rw [← hid]
  refine Booking.modEntry_unique (fun y hy hyid => only_of_find h.unique h.entry y hy (hyid.trans hid)) ?_
  simp [hk, hfirst]

/-- What the scheduling of an interface's first DIVERT starts from: the batch ahead entered, and not measured yet. -/
structure Measures (e a : Entry) (x : Int) : Prop where
  inherited : a.inherited = false
  measured : a.measured = false
  complete : a.complete = false
  enter : a.enterTrigger = some x
  first : e.firstTrigger = none

theorem scheduleAction_measured {act : Action} (h : Handed act.subject e a sn s) (hm : Measures e a x) (hk : act.kind = .divert)
    (hclean : (s.tables.params.minClean : Int) ≤ act.trigger - x) :
    scheduleAction first act false s
      = placeAction first act false (s.setTrain (aheadMeasured a e act.trigger false s.lt.train)) := by
  have hvolume := cleanVolume_ahead h hm.inherited hm.measured hm.enter hm.first
  have hnot : mergeable (act.trigger - x) (keepTriggers act s) = false := by
    rw [← Bool.not_eq_true, mergeable_iff]
    exact Int.not_lt.mpr hclean
  refine scheduleAction_divert hk ?_
  simp only [measureAhead_first h hm.first, measureTrailing, hvolume, hnot, Bool.false_eq_true, if_false]
  rw [keepTriggers_first h hk hm.first, setMeasured_train]
  rfl

theorem scheduleAction_short {act : Action} (h : Handed act.subject e a sn s) (hm : Measures e a x) (hk : act.kind = .divert)
    (hclean : act.trigger - x < s.tables.params.minClean) (hnone : ∀ y ∈ s.cp.actions, ¬(y.kind = .enter ∧ y.subject = a.id)) :
    scheduleAction first act false s = placeAction first act false
      ((s.setTrain (aheadMeasured a e act.trigger false s.lt.train)).post .shortBatch a.id (act.trigger - x)) := by
  have hvolume := cleanVolume_ahead h hm.inherited hm.measured hm.enter hm.first
  have hshort : mergeable (act.trigger - x) (keepTriggers act s) = true := mergeable_iff.mpr hclean
  have hgone : enterHeld a.id (keepTriggers act s) = false := by
    rw [← Bool.not_eq_true, enterHeld_iff]
    exact fun ⟨y, hy, hyk⟩ => hnone y hy hyk
  refine scheduleAction_divert hk ?_
  simp only [measureAhead_first h hm.first, measureTrailing, hvolume, hshort, hgone, Bool.and_false, Bool.false_eq_true, if_false,
    if_true]
  rw [keepTriggers_first h hk hm.first, setMeasured_train]
  rfl

theorem scheduleAction_merges {act : Action} (h : Handed act.subject e a sn s) (hm : Measures e a x) (hk : act.kind = .divert)
    (hclean : act.trigger - x < s.tables.params.minClean) (hr : (firstTransmix s.tables).isSome)
    (henter : ∃ y ∈ s.cp.actions, y.kind = .enter ∧ y.subject = a.id)
    (hno : ∀ y ∈ s.cp.actions, ¬(y.kind = .divert ∧ y.subject = act.subject)) :
    scheduleAction first act false s = ((s.setActions (s.cp.actions.map (convertEnter s.tables a.id))).setTrain
      (aheadMeasured a e act.trigger true s.lt.train)).post .shortBatchMerged a.id (act.trigger - x) := by
  have hvolume := cleanVolume_ahead h hm.inherited hm.measured hm.enter hm.first
  have hshort : mergeable (act.trigger - x) (keepTriggers act s) = true := mergeable_iff.mpr hclean
  have hheld : enterHeld a.id (keepTriggers act s) = true := enterHeld_iff.mpr henter
  have hr' : (firstTransmix (keepTriggers act s).tables).isSome = true := hr
  have hmeasure : measureAhead act s = (reportMerged a.id (act.trigger - x) (removeZoneDivert act.subject
      ((setMeasured a.id (keepTriggers act s)).setActions (s.cp.actions.map (convertEnter s.tables a.id)))), true) := by
    simp only [measureAhead_first h hm.first, measureTrailing, hvolume, hshort, hheld, hr', Bool.and_self, if_true]
    rfl
  have hopen : OpenBatch a.id (modEntry e.id (fun b => { b with firstTrigger := some act.trigger }) s.lt.train) :=
    OpenBatch.modEntry (fun y hy hyid => only_of_find h.unique h.findAhead y hy hyid ▸ hm.complete) (fun _ => rfl) fun _ => rfl
  rw [removeZoneDivert_none, keepTriggers_first h hk hm.first, setMeasured_train] at hmeasure
  · simp only [scheduleAction, hmeasure, hk, if_true, reportMerged]
    simp only [State.setTrain_lt, State.setActions_lt, merged_train hopen]
    rfl
  · intro y hy
    obtain ⟨z, hz, rfl⟩ := List.mem_map.mp hy
    exact zoneDivert_convertEnter (hno z hz)

end

end Sys2Proof.Proofs.Planner
end

section
/-! Crossings and points become actions (O55). -/
namespace Sys2Proof.Proofs.Planner

open Sys2Proof Sys2Proof.Machine
open Sys2Proof.Proofs.Answers
open Sys2Proof.Proofs.Train

/-! ### The first DIVERT of an interface -/

section
variable {ch : Channel} {v : Nat} {first : Precedence} {e a : Entry} {sn : Snapshot} {s u : State} {r : RouteNo} {x : Int}

/-- The train of `ShortBatchMerges`. -/
theorem aheadMeasured_eq (tr : Int) (merged : Bool) (t : List Entry) : aheadMeasured a e tr merged t
    = modEntry a.id (fun k => { k with
        measured := true
        delivery := { k.delivery with flags := { k.delivery.flags with merged := k.delivery.flags.merged || merged } } })
      (modEntry e.id (fun b => { b with firstTrigger := some tr }) t) := rfl

theorem crossing_first (hrun : s.running = true) (hmode : s.sm.mode ≠ .unconfigured) (h : Handed e.id e a sn s)
    (hprimary : sn.primary = some ch) (hstands : e.protectStands = false) (hrule : sn.rule = .transmix)
    (hr : firstTransmix s.tables = some r) :
    let c := Instr.crossingToCutPlanner ch e.id .h v false first
    exec c s = .next (settlePlan first (s.take c) (scheduleAction first (divertAt e.id (crossingTrigger ch v [r] s) r .crossing s)
      false (takeNumber (s.take c)))) := by
  refine (crossing_running hrun hmode h hprimary).trans (congrArg (fun x => Host.Outcome.next (settlePlan first _ x)) ?_)
  have hlevel := scheduleLevel_divert (s := s.take (.crossingToCutPlanner ch e.id .h v false first)) (first := first)
    (form := .crossing) (l := .h) (at_ := v) (h.take _) (by rw [hrule]; rfl) hstands hr
  rw [levelTrigger_crossing hprimary] at hlevel
  exact hlevel

theorem converted_eq (hr : firstTransmix s.tables = some r) : convertEnter s.tables a.id = fun y =>
    if y.kind = .enter ∧ y.subject = a.id then
      { y with kind := .divert, lineup := .transmix, routes := [r], flags := { y.flags with merged := true } } else y := by
  funext y
  rw [convertEnter, transmixSet_eq hr]

theorem shortBatchMerges (hrun : s.running = true) (hmode : s.sm.mode ≠ .unconfigured) (h : Handed e.id e a sn s)
    (hprimary : sn.primary = some ch) (hstands : e.protectStands = false) : Safety.ShortBatchMerges ch v first e a sn s := by
  intro x r hinherited hmeasured hcomplete henter hfirst hrule hr c tr clean enter train stored
  have hexec : exec c s = .next (settlePlan first (s.take c) (scheduleAction first (divertAt e.id tr r .crossing s) false
      (takeNumber (s.take c)))) := crossing_first hrun hmode h hprimary hstands hrule hr
  have hm : Measures e a x := ⟨hinherited, hmeasured, hcomplete, henter, hfirst⟩
  have hu : Handed e.id e a sn (takeNumber (s.take c)) := (h.take c).takeNumber
  refine ⟨fun hclean => ⟨fun hheld hno => ?_, fun hnone hlater hroom => ?_⟩, fun hclean hlater hroom => ?_⟩
  · rw [scheduleAction_merges (s := takeNumber (s.take c)) (act := divertAt e.id tr r .crossing s) hu hm rfl hclean (Option.isSome_of_eq_some hr) hheld hno, settlePlan_same (by rfl)]
      at hexec
    refine hexec.trans (congrArg Host.Outcome.next ?_)
    have hconverted : (takeNumber (s.take c)).tables = s.tables := rfl
    rw [hconverted, converted_eq hr]
    rfl
  · rw [scheduleAction_short (s := takeNumber (s.take c)) (act := divertAt e.id tr r .crossing s) hu hm rfl hclean hnone,
      placeAction_stored, settlePlan_same (by rfl)] at hexec
    · exact ⟨_, hexec, inserted_insertAction .., rfl⟩
    · exact hlater
    · exact hroom
  · rw [scheduleAction_measured (s := takeNumber (s.take c)) (act := divertAt e.id tr r .crossing s) hu hm rfl hclean,
      placeAction_stored, settlePlan_same (by rfl)] at hexec
    · refine ⟨_, hexec, inserted_insertAction .., ?_⟩
      rw [List.append_nil]
      rfl
    · exact hlater
    · exact hroom

end

/-! ### The ENTER that measures its own batch -/

section
variable {ch : Channel} {v : Nat} {first : Precedence} {e a b : Entry} {sn : Snapshot} {act : Action} {s : State} {r : RouteNo}
  {rs : List RouteNo} {y : Int}

/-- An entry whose interface's first action may have left the list. -/
def leftAs (left : Bool) (e : Entry) : Entry := { e with firstLeft := e.firstLeft || left }

theorem leftAs_false : leftAs false = id := by
  funext e
  simp [leftAs]

theorem modEntry_id (k : Nat) (t : List Entry) : modEntry k id t = t := by simp [modEntry]

/-- R123, step 2, whether or not a DIVERT of the trailing interface stands in the list. -/
theorem removeZoneDivert_eq (k : Nat) (s : State) : removeZoneDivert k s = { s with
    cp := { s.cp with actions := s.cp.actions.filter (fun z => !zoneDivert k z) }
    lt := { s.lt with train := modEntry k (leftAs (s.cp.actions.any (zoneDivert k))) s.lt.train }
    handed := s.handed ++ if s.cp.actions.any (zoneDivert k) then [.actionLeftList k] else [] } := by
  cases hany : s.cp.actions.any (zoneDivert k) with
  | true =>
    have hleft : leftAs true = fun e => { e with firstLeft := true } := by
      funext e
      simp [leftAs]
    rw [removeZoneDivert, if_pos hany, hleft]
    rfl
  | false =>
    have hnone : ∀ z ∈ s.cp.actions, zoneDivert k z = false := by simpa [List.any_eq_false] using hany
    have hfilter : s.cp.actions.filter (fun z => !zoneDivert k z) = s.cp.actions :=
      List.filter_eq_self.mpr fun z hz => by simp [hnone z hz]
    rw [removeZoneDivert_none hnone, hfilter, leftAs_false, modEntry_id]
    simp

/-- What the scheduling of an ENTER starts from: its batch not measured, and an action of the interface behind it scheduled. -/
structure MeasuresOwn (e a b : Entry) (y : Int) (s : State) : Prop where
  inherited : e.inherited = false
  measured : e.measured = false
  complete : e.complete = false
  behind : behindOf e.id s.lt.train = some b
  trailing : b.firstTrigger = some y
  kept : e.firstTrigger ≠ none ∨ a.inherited = true

theorem cleanVolume_own (h : Handed act.subject e a sn s) (hm : MeasuresOwn e a b y s) (hk : act.kind = .enter) :
    cleanVolume act.subject (keepTriggers act s) = some (y - act.trigger) := by
  have hid := findEntry_id h.entry
  have he : findEntry act.subject (keepTriggers act s).lt.train = some (triggered act e) := by
    rw [find_keepTriggers, h.entry, Option.map_some, changed_self hid]
  have hbehind : behindOf act.subject (keepTriggers act s).lt.train = some b := by
    have hb := hm.behind
    rw [hid] at hb
    rw [behindOf_keepTriggers, hb, Option.map_some, changed_other (behindOf_ne h.unique hb)]
  simp [cleanVolume_eq he hbehind, triggered, hm.inherited, hm.measured, hm.trailing, hk]

/-- The train once an ENTER has measured its own batch. -/
def ownMeasured (e b : Entry) (tr : Int) (merged left : Bool) (t : List Entry) : List Entry :=
  modEntry b.id (leftAs left) (modEntry e.id (fun k => { measuredAs merged k with
    firstTrigger := some (k.firstTrigger.getD tr), enterTrigger := some tr }) t)

theorem measured_triggered (hid : act.subject = e.id) (hk : act.kind = .enter) (merged : Bool) (t : List Entry) :
    modEntry e.id (measuredAs merged) (modEntry act.subject (triggered act) t)
      = ownMeasured e b act.trigger merged false t := by
  rw [ownMeasured, leftAs_false, modEntry_id, hid, modEntry_modEntry (f := triggered act) fun _ => rfl]
  congr 1
  funext k
  rw [triggered_enter hk]
  rfl

theorem scheduleAction_own (h : Handed act.subject e a sn s) (hm : MeasuresOwn e a b y s) (hk : act.kind = .enter)
    (hclean : (s.tables.params.minClean : Int) ≤ y - act.trigger) : scheduleAction first act false s
      = placeAction first act false (s.setTrain (ownMeasured e b act.trigger false false s.lt.train)) := by
  have hid := findEntry_id h.entry
  have hnot : mergeable (y - act.trigger) (keepTriggers act s) = false := by
    rw [← Bool.not_eq_true, mergeable_iff]
    exact Int.not_lt.mpr hclean
  have htrain := measured_triggered (b := b) hid.symm hk false s.lt.train
  rw [hid] at htrain
  rw [scheduleAction_enter hk (measureAhead_kept h hm.kept)]
  simp only [measureEnter, cleanVolume_own h hm hk, hnot, Bool.false_eq_true, if_false]
  rw [setMeasured_train]
  simp only [keepTriggers_train, State.setTrain_lt, htrain]
  rfl

theorem scheduleAction_ownMerges (h : Handed act.subject e a sn s) (hm : MeasuresOwn e a b y s) (hk : act.kind = .enter)
    (hclean : y - act.trigger < s.tables.params.minClean) (hr : (firstTransmix s.tables).isSome) (hroom : s.cp.actions.length < 16) :
    scheduleAction first act false s = placeAction first (convertEnter s.tables act.subject act) false
      { s with
        cp := { s.cp with actions := s.cp.actions.filter (fun z => !zoneDivert b.id z) }
        lt := { s.lt with train := ownMeasured e b act.trigger true (s.cp.actions.any (zoneDivert b.id)) s.lt.train }
        handed := s.handed ++ (if s.cp.actions.any (zoneDivert b.id) then [.actionLeftList b.id] else [])
          ++ [.eventPosted .shortBatchMerged act.subject (y - act.trigger)] } := by
  have hid := findEntry_id h.entry
  have hshort : mergeable (y - act.trigger) (keepTriggers act s) = true := mergeable_iff.mpr hclean
  have hplace : lostToFull act.trigger (keepTriggers act s) = false := lostToFull_room hroom
  have hr' : (firstTransmix (keepTriggers act s).tables).isSome = true := hr
  have hne : b.id ≠ act.subject := behindOf_ne h.unique (hid ▸ hm.behind)
  have hbehind : behindOf act.subject (setMeasured act.subject (keepTriggers act s)).lt.train
      = some (changed act.subject (measuredAs false) b) := by
    rw [setMeasured_train]
    have hb := hm.behind
    rw [hid] at hb
    exact (behindOf_modEntry (f := measuredAs false) fun _ => rfl).trans (by
      rw [behindOf_keepTriggers, hb, Option.map_some, changed_other hne, Option.map_some])
  have hopen : OpenBatch act.subject (modEntry act.subject (triggered act) s.lt.train) :=
    OpenBatch.modEntry (fun z hz hzid => h.only hz hzid ▸ hm.complete) (fun _ => rfl) fun _ => rfl
  have htrain := measured_triggered (b := b) hid.symm hk true s.lt.train
  rw [hid] at htrain
  have hmerged : ∀ left, markBatch act.subject (fun f => { f with merged := true }) (modEntry b.id (leftAs left)
      (modEntry act.subject (measuredAs false) (modEntry act.subject (triggered act) s.lt.train)))
        = ownMeasured e b act.trigger true left s.lt.train := fun left => by
    rw [modEntry_comm (f := leftAs left) (g := measuredAs false) hne (fun _ => rfl) fun _ => rfl,
      merged_train (hopen.modEntry (f := leftAs left) (fun _ => rfl) fun _ => rfl),
      modEntry_comm (f := measuredAs true) (g := leftAs left) hne.symm (fun _ => rfl) fun _ => rfl, htrain, ownMeasured, leftAs_false, modEntry_id, ownMeasured]
  rw [scheduleAction_enter hk (measureAhead_kept h hm.kept)]
  simp only [measureEnter, cleanVolume_own h hm hk, hshort, hr', hplace, Bool.not_false, Bool.and_self, if_true, hbehind,
    changed_other hne, reportMerged, removeZoneDivert_eq]
  rw [setMeasured_train]
  simp only [keepTriggers_train, State.setTrain_lt, hmerged]
  rfl

theorem crossing_own (hrun : s.running = true) (hmode : s.sm.mode ≠ .unconfigured) (h : Handed e.id e a sn s)
    (hprimary : sn.primary = some ch) (hrule : sn.rule = .transmix) (hb : Safety.BodyRoutes s.tables e sn.dispBehind rs) :
    let c := Instr.crossingToCutPlanner ch e.id .t v false first
    exec c s = .next (settlePlan first (s.take c) (scheduleAction first (enterAt e.id (crossingTrigger ch v rs s) rs .crossing s)
      false (takeNumber (s.take c)))) := by
  refine (crossing_running hrun hmode h hprimary).trans (congrArg (fun x => Host.Outcome.next (settlePlan first _ x)) ?_)
  have hlevel := scheduleLevel_enter (s := s.take (.crossingToCutPlanner ch e.id .t v false first)) (first := first)
    (form := .crossing) (l := .t) (at_ := v) (h.take _) (by rw [hrule]; rfl) hb
  rw [levelTrigger_crossing hprimary] at hlevel
  exact hlevel

/-- R123: the ENTER of a merged batch as it is placed. -/
theorem convertEnter_enterAt {id : Nat} {tr : Int} {form : HandedAs} (hr : firstTransmix s.tables = some r) :
    convertEnter s.tables id (enterAt id tr rs form s)
      = ⟨s.cp.nextNum, .divert, id, tr, .transmix, [r], { formFlags form with merged := true }, none⟩ := by
  simp [convertEnter, enterAt, transmixSet_eq hr]

theorem enterMerges (hrun : s.running = true) (hmode : s.sm.mode ≠ .unconfigured) (h : Handed e.id e a sn s)
    (hprimary : sn.primary = some ch) : Safety.EnterMerges ch v first e a sn s := by
  intro b y r rs hinherited hmeasured hcomplete hbehind htrailing hkept hrule hr hb c tr clean goes train hlater hroom
  have hexec : exec c s = .next (settlePlan first (s.take c) (scheduleAction first (enterAt e.id tr rs .crossing s) false
      (takeNumber (s.take c)))) := crossing_own hrun hmode h hprimary hrule hb
  have hm : MeasuresOwn e a b y (takeNumber (s.take c)) := ⟨hinherited, hmeasured, hcomplete, hbehind, htrailing, hkept⟩
  have hu : Handed e.id e a sn (takeNumber (s.take c)) := (h.take c).takeNumber
  have hgoes : ∀ z, zoneDivert b.id z = true ↔ goes z := fun z => by simp [zoneDivert, goes, and_assoc]
  refine ⟨fun hclean => ?_, fun hclean => ?_⟩
  · have hconverted : convertEnter (takeNumber (s.take c)).tables (enterAt e.id tr rs .crossing s).subject
        (enterAt e.id tr rs .crossing s) = _ :=
      convertEnter_enterAt (s := s) hr
    have hfilter : s.cp.actions.filter (fun z => ¬goes z) = s.cp.actions.filter (fun z => !zoneDivert b.id z) :=
      List.filter_congr fun z _ => by rw [Bool.eq_iff_iff]; simp [← hgoes]
    have hany : s.cp.actions.any (fun z => goes z) = s.cp.actions.any (zoneDivert b.id) :=
      congrArg _ (funext fun z => by rw [Bool.eq_iff_iff]; simp [← hgoes])
    have hleft : (∃ z ∈ s.cp.actions, goes z) ↔ s.cp.actions.any (zoneDivert b.id) = true := by simp [hgoes]
    rw [scheduleAction_ownMerges (s := takeNumber (s.take c)) (act := enterAt e.id tr rs .crossing s) hu hm rfl hclean
      (Option.isSome_of_eq_some hr) hroom, hconverted, placeAction_stored, settlePlan_same (by rfl)] at hexec
    · refine ⟨_, hexec, hfilter ▸ inserted_insertAction .., ?_⟩
      rw [hany, if_congr hleft rfl rfl]
      rfl
    · exact hlater
    · exact (List.length_filter_le ..).trans_lt hroom
  · rw [scheduleAction_own (s := takeNumber (s.take c)) (act := enterAt e.id tr rs .crossing s) hu hm rfl hclean,
      placeAction_stored, settlePlan_same (by rfl)] at hexec
    · exact ⟨_, hexec, inserted_insertAction .., rfl⟩
    · exact hlater
    · exact hroom

end

/-- Settles O55. -/
theorem crossingsAndPointsBecomeActions : Obligations.CrossingsAndPointsBecomeActions := by
  intro ch id v first e a i sn s hrun hmode hu hid he hi hsn hprimary ha hstands
  obtain rfl := findEntry_id he
  have h : Handed e.id e a sn s := ⟨uniqueIds_train hu, he, by rw [hi]; exact hsn, ha⟩
  refine ⟨shortBatchMerges hrun hmode h hprimary hstands, enterMerges hrun hmode h hprimary, fun hinherited => ?_⟩
  intro scheduled unmeasured
  refine ⟨fun r hrule hr => ?_, fun r hrule hr => ?_, fun rs hrule hb hun hlater hroom => ?_, fun hrule => ?_, fun l f => ?_,
    fun rs p1 p2 p3 at_ hb hun hrule hlater hroom => ?_, fun r rs p1 p2 p3 hrule hr hb hun => ?_⟩
  · intro c tr
    have hexec : exec c s = .next (settlePlan first (s.take c) (placeAction first (divertAt e.id tr r .crossing s) false
        (keepTriggers (divertAt e.id tr r .crossing s) (takeNumber (s.take c))))) :=
      crossing_divert hrun hmode h hprimary (.inr hinherited) hstands hrule hr
    refine ⟨fun hlater hroom => ?_, fun hdue => ?_, fun hlater hfull => ?_⟩
    · rw [placed_stored (by exact hlater) (by exact hroom), settlePlan_same (by rfl)] at hexec
      exact ⟨_, hexec, inserted_insertAction .., storedState_divert⟩
    · rw [placeAction_due (by exact hdue)] at hexec
      exact ⟨_, hexec, divert_due rfl rfl hid hr⟩
    · rw [placeAction_lost (by exact hlater) (by exact hfull), settlePlan_same (by rfl)] at hexec
      exact ⟨_, hexec, rfl, rfl, List.append_assoc ..⟩
  · have hexec := forced_divert (v := v) (first := first) hrun hmode h hprimary (.inr hinherited) hstands hrule hr
    obtain ⟨hplan, hactions, hdue, -⟩ := divert_due (first := first) (act := divertAt e.id s.cp.curS r .forced s)
      (u := s.take (.crossingToCutPlanner ch e.id .h v true first)) (w := keepTriggers (divertAt e.id s.cp.curS r .forced s)
        (takeNumber (s.take (.crossingToCutPlanner ch e.id .h v true first)))) rfl rfl hid hr
    exact ⟨_, hexec, hplan, hactions, hdue, fun hopen b hb =>
      divert_forced (act := divertAt e.id s.cp.curS r .forced s) (h.take _).takeNumber rfl hid rfl hopen hb⟩
  · exact ⟨_, crossing_enter hrun hmode h hprimary (.inr hinherited) hrule hb hun hlater hroom, inserted_insertAction ..,
      storedState_enter⟩
  · rw [crossing_running hrun hmode h hprimary, scheduleLevel_none (h.take _) (by rw [hrule]; rfl), settlePlan_same (by rfl)]
  · exact crossing_other hrun hmode h hprimary
  · have hexec := points_running (id := e.id) (points := [⟨.h, p1⟩, ⟨.mid, p2⟩, ⟨.t, p3⟩]) (first := first) hrun hmode
    rw [points_one_enter (h.take _) (.inr hinherited) hrule hb hun hlater hroom, settlePlan_same (by rfl)] at hexec
    exact ⟨_, hexec, inserted_insertAction .., storedState_enter⟩
  · intro c flags tr hlater hroom
    have hexec : exec c s = .next (settlePlan first (s.take c)
        (scheduleLevel first e.id .volumetric .t p3 (storedState (divertAt e.id tr r .volumetric s) (s.take c)))) :=
      (points_running hrun hmode).trans (congrArg (fun x => Host.Outcome.next (settlePlan first (s.take c) x))
        (points_divert (h.take c) (.inr hinherited) hstands hrule hr hlater (Nat.lt_succ_of_lt hroom)))
    have hafter := (h.take c).storedState (act := divertAt e.id tr r .volumetric s) rfl
    have hlength : (storedState (divertAt e.id tr r .volumetric s) (s.take c)).cp.actions.length < 16 := by
      have hlen := (EveryStep.insertAction_perm (divertAt e.id tr r .volumetric s) s.cp.actions).length_eq
      exact (hlen.trans (List.length_cons ..)).trans_lt (Nat.succ_lt_succ hroom)
    refine ⟨_, _, hexec, inserted_insertAction .., ?_⟩
    intro s1 te hlater'
    have hstored : scheduleLevel first e.id .volumetric .t p3 (storedState (divertAt e.id tr r .volumetric s) (s.take c))
        = storedState (enterAt e.id te rs .volumetric (takeNumber s)) (storedState (divertAt e.id tr r .volumetric s) (s.take c)) :=
      enter_stored hafter (.inl (by simp [triggered_divert (act := divertAt e.id tr r .volumetric s) rfl])) (by rw [hrule]; rfl)
        (bodyRoutes_triggered hb) (unmeasured_storedState (u := s.take c) h.unique rfl hun) rfl hlater' hlength
    have htrain : modEntry e.id (fun k => { k with firstTrigger := some (k.firstTrigger.getD te), enterTrigger := some te })
        (modEntry e.id (triggered (divertAt e.id tr r .volumetric s)) s.lt.train)
          = modEntry e.id (fun k => { k with firstTrigger := some (k.firstTrigger.getD tr), enterTrigger := some te }) s.lt.train := by
      rw [modEntry_modEntry (f := triggered _) fun _ => rfl]
      congr 1
      funext k
      rw [triggered_divert rfl]
      rfl
    rw [hstored, settlePlan_same (by rfl)]
    refine ⟨inserted_insertAction .., ?_⟩
    rw [storedState_enter, ← htrain]
    rfl

end Sys2Proof.Proofs.Planner
end

section
/-! What completions and considerations leave of an interface that is not FAR (O38, O49, O52 to O54). -/
namespace Sys2Proof.Proofs.Windows

open Sys2Proof Sys2Proof.Machine
open Sys2Proof.Proofs.Planner
open Sys2Proof.Proofs.Train

/-! ### The relation -/

/-- An interface as other interfaces' considerations and a completion leave it: cleared perhaps, and judged perhaps. -/
def Settled (i j : Interface) : Prop :=
  j = { i with track := j.track, mfResult := j.mfResult } ∧ (j.track = i.track ∨ j.track = .cleared)

/-- An entry as other interfaces' considerations and a completion leave it. -/
structure EntrySettled (x e : Entry) : Prop where
  id : e.id = x.id
  stands : e.protectStands = x.protectStands
  leading : ∃ g : Interface → Interface, (∀ i, Settled i (g i)) ∧ e.leading = x.leading.map g

/-- The last entry of a train is that of a batch. -/
def LastIn (id : Nat) (t : List Entry) : Prop := t.getLast?.map (·.id) = some id

/-- What is left of a batch's entry, of the window and of the other blocks. -/
structure Beside (id : Nat) (s t : State) : Prop where
  frame : t = { s with
    lt := { s.lt with train := t.lt.train, window := t.lt.window, confirm := t.lt.confirm }
    ts := t.ts
    el := t.el
    handed := t.handed }
  handed : s.handed <+: t.handed
  entry : ∀ e ∈ t.lt.train, e.id = id → ∃ x ∈ s.lt.train, EntrySettled x e
  last : LastIn id s.lt.train → LastIn id t.lt.train
  window : t.lt.window.map (·.batch) = some id → t.lt.window = s.lt.window

section
variable {id k : Nat} {i j : Interface} {e x y : Entry} {s t u : State} {xs ys : List Entry}

theorem Settled.refl (i : Interface) : Settled i i := ⟨rfl, .inl rfl⟩

theorem Settled.trans {i j k : Interface} (h : Settled i j) (h' : Settled j k) : Settled i k := by
  obtain ⟨tj, mj, rfl⟩ : ∃ tj mj, j = { i with track := tj, mfResult := mj } := ⟨_, _, h.1⟩
  refine ⟨h'.1, h'.2.elim (fun hk => ?_) .inr⟩
  rw [hk]
  exact h.2

theorem EntrySettled.trans (h : EntrySettled x e) (h' : EntrySettled e y) : EntrySettled x y := by
  obtain ⟨f, hf, hleading⟩ := h.leading
  obtain ⟨g, hg, hleading'⟩ := h'.leading
  exact ⟨h'.id.trans h.id, h'.stands.trans h.stands, g ∘ f, fun i => (hf i).trans (hg _), by rw [hleading', hleading, Option.map_map]⟩

/-- A change of an entry that leaves its interface alone, or settles it. -/
theorem EntrySettled.of_map (g : Interface → Interface) (hid : e.id = x.id) (hstands : e.protectStands = x.protectStands)
    (hleading : e.leading = x.leading.map g) (hg : ∀ i, Settled i (g i)) : EntrySettled x e := ⟨hid, hstands, g, hg, hleading⟩

theorem EntrySettled.of_marks (hid : e.id = x.id) (hstands : e.protectStands = x.protectStands) (hleading : e.leading = x.leading) :
    EntrySettled x e := .of_map (fun i => i) hid hstands (by simp [hleading]) .refl

theorem EntrySettled.refl (x : Entry) : EntrySettled x x := .of_marks rfl rfl rfl

theorem Beside.refl (id : Nat) (s : State) : Beside id s s :=
  ⟨rfl, List.prefix_rfl, fun e he _ => ⟨e, he, .refl e⟩, fun h => h, fun _ => rfl⟩

theorem Beside.trans (h : Beside id s t) (k : Beside id t u) : Beside id s u := by
  obtain ⟨xs, w, c, ts, el, hd, rfl⟩ : ∃ xs w c ts el hd, t = { s with
    lt := { s.lt with train := xs, window := w, confirm := c }, ts := ts, el := el, handed := hd } := ⟨_, _, _, _, _, _, h.frame⟩
  refine ⟨k.frame, h.handed.trans k.handed, fun e he hid => ?_, k.last ∘ h.last, fun hw => ?_⟩
  · obtain ⟨x, hx, hxe⟩ := k.entry e he hid
    obtain ⟨y, hy, hyx⟩ := h.entry x hx (hxe.id ▸ hid)
    exact ⟨y, hy, hyx.trans hxe⟩
  · have hsame := k.window hw
    rw [hsame]
    exact h.window (hsame ▸ hw)

theorem Beside.hand (id : Nat) (s : State) (i : Instr) : Beside id s (s.hand i) :=
  ⟨rfl, List.prefix_append .., fun e he _ => ⟨e, he, .refl e⟩, fun h => h, fun _ => rfl⟩

theorem Beside.post (id : Nat) (s : State) (k : EventKind) (n : Nat) (d : Int) : Beside id s (s.post k n d) := .hand ..

theorem Beside.setConfirm (id : Nat) (s : State) (c : Option ConfirmRecord) : Beside id s (s.setConfirm c) :=
  ⟨rfl, List.prefix_rfl, fun e he _ => ⟨e, he, .refl e⟩, fun h => h, fun _ => rfl⟩

theorem Beside.setWindow {w : WindowRecord} (s : State) (h : w.batch ≠ id) : Beside id s (s.setWindow (some w)) :=
  ⟨rfl, List.prefix_rfl, fun e he _ => ⟨e, he, .refl e⟩, fun h => h, fun hw => absurd (Option.some.inj hw) h⟩

theorem lastIn_map {f : Entry → Entry} (hf : ∀ e, (f e).id = e.id) (h : LastIn id xs) : LastIn id (xs.map f) := by
  rw [LastIn, List.getLast?_map, Option.map_map, ← h]
  exact congrArg (fun g => xs.getLast?.map g) (funext hf)

/-- A change of one entry that settles it, or another's. -/
theorem Beside.modEntry {f : Entry → Entry} (hf : ∀ e, (f e).id = e.id) (h : ∀ e, k = id → EntrySettled e (f e)) (s : State) :
    Beside id s (s.setTrain (modEntry k f s.lt.train)) := by
  refine ⟨rfl, List.prefix_rfl, fun e he hid => ?_, lastIn_map (changed_id hf), fun _ => rfl⟩
  obtain ⟨x, hx, rfl⟩ := List.mem_map.mp he
  rw [← changed] at hid ⊢
  rw [changed_id hf] at hid
  refine ⟨x, hx, ?_⟩
  by_cases hk : x.id = k
  · rw [changed_self hk]
    exact h x (hk.symm.trans hid)
  · rw [changed_other hk]
    exact .refl x

/-- The interface of another batch changes. -/
theorem Beside.modOther {f : Interface → Interface} (h : k ≠ id) (s : State) :
    Beside id s (s.setTrain (modInterface k f s.lt.train)) :=
  .modEntry (f := fun e => { e with leading := e.leading.map f }) (fun _ => rfl) (fun _ hk => absurd hk h) s

theorem Beside.modInterface {f : Interface → Interface} (h : ∀ i, Settled i (f i)) (s : State) :
    Beside id s (s.setTrain (modInterface k f s.lt.train)) :=
  .modEntry (f := fun e => { e with leading := e.leading.map f }) (fun _ => rfl) (fun _ _ => .of_map f rfl rfl rfl h) s

theorem Beside.markBatch (id k : Nat) (f : TicketFlags → TicketFlags) (s : State) :
    Beside id s (s.setTrain (markBatch k f s.lt.train)) := by
  refine .modEntry (fun e => ?_) (fun e _ => ?_) s
  · split <;> rfl
  · split
    · exact .refl e
    · exact .of_marks rfl rfl rfl

end

/-! ### Completions (R20 to R23) -/

section
variable {id : Nat} {m b e : Entry} {s t : State} {xs : List Entry}

theorem getLast?_erase_front (hb : behindOf m.id xs = some b) : (xs.eraseP (fun x => x.id == m.id)).getLast? = xs.getLast? := by
  induction xs with
  | nil => cases hb
  | cons a rest ih =>
    rw [behindOf] at hb
    split at hb
    next ha =>
      rw [List.eraseP_cons_of_pos (by exact ha)]
      cases rest with
      | nil => cases hb
      | cons c rest => rfl
    next ha =>
      rw [List.eraseP_cons_of_neg (by exact ha)]
      have hrest := ih hb
      cases rest with
      | nil => cases hb
      | cons c rest =>
        rw [List.getLast?_cons_cons, ← hrest]
        cases herase : (c :: rest).eraseP (fun x => x.id == m.id) with
        | nil =>
          rw [herase] at hrest
          cases hrest
        | cons d more => rw [List.getLast?_cons_cons]

theorem Beside.judgeIfChanged (id : Nat) (b : Bool) (s : State) : Beside id s (judgeIfChanged b s) := by
  obtain ⟨b', h, -⟩ := EveryStep.judgeIfChanged_eq b s
  rw [h]
  exact ⟨rfl, List.prefix_rfl, fun e he _ => ⟨e, he, .refl e⟩, fun h => h, fun _ => rfl⟩

/-- R23: an entry with one behind it leaves the train. -/
theorem Beside.issueTicket (e : Entry) (hb : behindOf e.id s.lt.train = some b) : Beside id s (issueTicket e s) := by
  refine .trans ?_ ((Beside.judgeIfChanged ..).trans (.post ..))
  refine ⟨rfl, List.prefix_rfl, fun x hx _ => ⟨x, List.mem_of_mem_eraseP hx, .refl x⟩, fun h => ?_, fun _ => rfl⟩
  rw [LastIn] at h ⊢
  exact (congrArg (Option.map _) (getLast?_erase_front hb)).trans h

theorem completedTrain_beside (id : Nat) (s : State) (m b : Entry) : Beside id s (s.setTrain (completedTrain s m b)) := by
  refine ((Beside.modInterface (f := fun i => { i with track := .cleared }) (fun i => ⟨rfl, .inr rfl⟩) s).trans
    (.modEntry (by exact fun _ => rfl) (by exact fun _ _ => .of_marks rfl rfl rfl) _)).trans
    (.modEntry (by exact fun _ => rfl) (by exact fun _ _ => .of_marks rfl rfl rfl) _)

theorem behindOf_completedTrain (hb : behindOf m.id s.lt.train = some b) : ∃ x, behindOf m.id (completedTrain s m b) = some x := by
  have hids := EveryStep.behindOf_id_of_map m.id (EveryStep.placed_ids (EveryStep.trainKept_completed s m b).placed)
  rw [hb] at hids
  obtain ⟨x, hx, -⟩ := Option.map_eq_some_iff.mp hids
  exact ⟨x, hx⟩

theorem Beside.completeBatch (id : Nat) (hb : behindOf m.id s.lt.train = some b) : Beside id s (completeBatch m b s) := by
  have hdone := (completedTrain_beside id s m b).trans (.post id _ .batchComplete m.id (indexOf m.id s.lt.train))
  unfold Machine.completeBatch
  dsimp only
  split
  · split
    next e he =>
      obtain ⟨x, hx⟩ := behindOf_completedTrain hb
      rw [← findEntry_id he] at hx
      exact hdone.trans (.issueTicket e hx)
    next => exact hdone
  · exact (hdone.trans (.modEntry (by exact fun _ => rfl) (by exact fun _ _ => .of_marks rfl rfl rfl) _)).trans (.post ..)

theorem Beside.completionCheck (id : Nat) (s : State) : Beside id s (completionCheck s) := by
  have hloop : ∀ n u, Beside id u (completionLoop n u) := fun n => by
    induction n with
    | zero => exact .refl id
    | succ n ih =>
      intro u
      cases h : completeOnce u with
      | none =>
        simp only [completionLoop, h]
        exact .refl id u
      | some t =>
        obtain ⟨m, b, -, hb, -, rfl⟩ := Starts.completeOnce_some h
        simp only [completionLoop, h]
        exact (Beside.completeBatch id hb).trans (ih _)
  exact hloop ..

end

/-! ### Considerations (R86 to R99) -/

/-- The interface of a batch is not FAR. -/
def NotFar (id : Nat) (t : List Entry) : Prop := ∀ e ∈ t, e.id = id → ∀ i, e.leading = some i → i.track ≠ .far

section
variable {id : Nat} {a e : Entry} {i : Interface} {s t : State} {xs : List Entry}

theorem NotFar.beside (h : NotFar id s.lt.train) (hs : Beside id s t) : NotFar id t.lt.train := by
  intro e he hid j hj
  obtain ⟨x, hx, hxe⟩ := hs.entry e he hid
  obtain ⟨g, hg, hleading⟩ := hxe.leading
  rw [hleading, Option.map_eq_some_iff] at hj
  obtain ⟨i, hi, rfl⟩ := hj
  rcases (hg i).2 with htrack | htrack <;> rw [htrack]
  · exact h x hx (hxe.id ▸ hid) i hi
  · simp

theorem candidate_mem (h : candidate xs = some (a, e, i)) : a ∈ xs ∧ e ∈ xs ∧ e.leading = some i ∧ i.track = .far := by
  induction xs with
  | nil => cases h
  | cons x rest ih =>
    cases rest with
    | nil => cases h
    | cons y rest =>
      have hlater : candidate (y :: rest) = some (a, e, i) → a ∈ x :: y :: rest ∧ e ∈ x :: y :: rest ∧ e.leading = some i ∧ i.track = .far :=
        fun h => by
          obtain ⟨ha, he, hi⟩ := ih h
          exact ⟨List.mem_cons_of_mem _ ha, List.mem_cons_of_mem _ he, hi⟩
      rw [candidate] at h
      split at h
      next j hj =>
        split at h
        next hfar =>
          obtain ⟨rfl, rfl, rfl⟩ := Option.some.inj h
          exact ⟨List.mem_cons_self .., by simp, hj, hfar⟩
        next => exact hlater h
      next => exact hlater h

/-- The first FAR interface is another one. -/
theorem candidate_ne (hn : NotFar id xs) (h : candidate xs = some (a, e, i)) : e.id ≠ id := by
  obtain ⟨-, he, hi, hfar⟩ := candidate_mem h
  exact fun hid => hn e he hid i hi hfar

theorem Beside.supplyDefault (id : Nat) (e : Entry) (d : Int) (s : State) : Beside id s (supplyDefault e d s) := by
  unfold Machine.supplyDefault
  split
  · exact .refl id s
  · exact (Beside.markBatch id e.id _ s).trans (.post ..)

theorem Beside.takeSnapshot (a : Entry) (sn : Snapshot) (h : e.id ≠ id) (s : State) : Beside id s (takeSnapshot a e sn s) :=
  ((Beside.modOther h s).trans (.supplyDefault ..)).trans (.supplyDefault ..)

theorem Beside.releaseFrom (id k : Nat) (c : Channel) (s : State) : Beside id s (releaseFrom k c s) := by
  unfold Machine.releaseFrom
  split
  · exact .hand ..
  · exact .refl id s

theorem Beside.handPoints (id k : Nat) (s : State) : Beside id s (handPoints k s) := by
  unfold Machine.handPoints
  split
  · exact .refl id s
  · split
    · exact .refl id s
    · exact .hand ..

/-- R95: an interface placed VOLUMETRIC, its event posted and its points handed, before the completion check. -/
def placedVolumetric (id : Nat) (k : EventKind) (detail : Int) (s : State) : State :=
  handPoints id ((releaseFrom id .manifold (releaseFrom id .advance (s.setTrain (modInterface id (fun i =>
    { i with track := .volumetric, method := some .volumetric }) s.lt.train)))).post k id detail)

theorem placeVolumetric_eq (id : Nat) (k : EventKind) (detail : Int) (s : State) :
    placeVolumetric id k detail s = completionCheck (placedVolumetric id k detail s) := rfl

theorem Beside.placeVolumetric (k : EventKind) (d : Int) (h : e.id ≠ id) (s : State) : Beside id s (placeVolumetric e.id k d s) :=
  (((((Beside.modOther h s).trans (.releaseFrom ..)).trans (.releaseFrom ..)).trans (.post ..)).trans (.handPoints ..)).trans
    (.completionCheck ..)

theorem Beside.openWindow (c : Channel) (sn : Snapshot) (centre : Int) (h : e.id ≠ id) (s : State) :
    Beside id s (openWindow e c sn centre s) :=
  (((Beside.modOther h s).trans (.setWindow _ h)).trans (.post ..)).trans (.hand ..)

theorem Beside.considerCandidate (a : Entry) (i : Interface) (h : e.id ≠ id) (s : State) : Beside id s (considerCandidate a e i s).1 := by
  have hplace := fun k d sn => (Beside.takeSnapshot a sn h s).trans (.placeVolumetric k d h _)
  unfold Machine.considerCandidate
  dsimp only
  split
  · exact .refl id s
  · split
    · exact hplace ..
    · split
      · exact hplace ..
      · split
        · exact hplace ..
        · exact (Beside.takeSnapshot a _ h s).trans (.openWindow _ _ _ h _)

theorem Beside.considerWindow (hn : NotFar id s.lt.train) : Beside id s (considerWindow s) := by
  have hloop : ∀ n u, NotFar id u.lt.train → Beside id u (considerLoop n u) := fun n => by
    induction n with
    | zero => exact fun u _ => .refl id u
    | succ n ih =>
      intro u hu
      unfold considerLoop
      split
      · exact .refl id u
      · split
        · exact .refl id u
        · rename_i a e i hc
          have hstep := Beside.considerCandidate a i (candidate_ne hu hc) u
          dsimp only
          split
          · exact hstep.trans (ih _ (hu.beside hstep))
          · exact hstep
  exact hloop _ _ hn

theorem settled_judged (r : Option ConfirmResult) (i : Interface) : Settled i { i with mfResult := r } := ⟨rfl, .inl rfl⟩

theorem Beside.noConfirm (id k : Nat) (d : Int) (s : State) : Beside id s (noConfirm k d s) :=
  (Beside.modInterface (settled_judged _) s).trans (.post ..)

theorem Beside.openConfirm (id k : Nat) (lo hi : Int) (sn : Snapshot) (s : State) : Beside id s (openConfirm k lo hi sn s) := by
  unfold Machine.openConfirm
  dsimp only
  split
  · exact .setConfirm ..
  · exact (Beside.setConfirm id s _).trans (.hand ..)

theorem Beside.considerConfirm (id : Nat) (s : State) : Beside id s (considerConfirm s) := by
  have hloop : ∀ n u, Beside id u (confirmLoop n u) := fun n => by
    induction n with
    | zero => exact .refl id
    | succ n ih =>
      intro u
      unfold confirmLoop
      split
      · exact .refl id u
      · split
        · exact .refl id u
        · dsimp only
          split
          · exact .refl id u
          · split
            · exact (Beside.noConfirm ..).trans (ih _)
            · split
              · exact .refl id u
              · exact .openConfirm ..
  exact hloop ..

end

/-! ### Reading the relation -/

section
variable {id : Nat} {e x : Entry} {i j : Interface} {s t : State} {xs : List Entry}

theorem findEntry_of_last (h : LastIn id xs) : ∃ e, findEntry id xs = some e := by
  obtain ⟨x, hx, hid⟩ := Option.map_eq_some_iff.mp h
  rw [← Option.isSome_iff_exists, findEntry, List.find?_isSome]
  exact ⟨x, List.mem_of_getLast? hx, by simpa using hid⟩

theorem lastIn_of_behindOf (hfind : findEntry id xs = some e) (h : behindOf id xs = none) : LastIn id xs := by
  induction xs with
  | nil => cases hfind
  | cons a rest ih =>
    rw [behindOf] at h
    split at h
    next ha =>
      rw [List.head?_eq_none_iff.mp h]
      exact congrArg some (beq_iff_eq.mp ha)
    next ha =>
      rw [findEntry, List.find?_cons_of_neg (by exact ha)] at hfind
      have hrest := ih hfind h
      cases rest with
      | nil => cases hfind
      | cons b rest => rw [LastIn, List.getLast?_cons_cons]; exact hrest

/-- What is left of the interface of a batch whose entry is the only one with its ID. -/
theorem Beside.interface (h : Beside id s t) (honly : ∀ y ∈ s.lt.train, y.id = id → y.leading = some i)
    (hj : interfaceOf id t.lt.train = some j) : Settled i j := by
  obtain ⟨e, he, hje⟩ := Option.bind_eq_some_iff.mp hj
  obtain ⟨x, hx, hxe⟩ := h.entry e (List.mem_of_find?_eq_some he) (findEntry_id he)
  obtain ⟨g, hg, hleading⟩ := hxe.leading
  rw [hleading, honly x hx (hxe.id ▸ findEntry_id he)] at hje
  exact Option.some.inj hje ▸ hg i

/-- The entry of the back batch stays in the train. -/
theorem Beside.findEntry_last (h : Beside id s t) (hlast : LastIn id s.lt.train) : ∃ x ∈ s.lt.train, ∃ e, findEntry id t.lt.train = some e
    ∧ x.id = id ∧ EntrySettled x e := by
  obtain ⟨e, he⟩ := findEntry_of_last (h.last hlast)
  obtain ⟨x, hx, hxe⟩ := h.entry e (List.mem_of_find?_eq_some he) (findEntry_id he)
  exact ⟨x, hx, e, he, hxe.id ▸ findEntry_id he, hxe⟩

/-- The interface of the back batch stays in the train. -/
theorem Beside.interface_last (h : Beside id s t) (hlast : LastIn id s.lt.train)
    (honly : ∀ y ∈ s.lt.train, y.id = id → y.leading = some i) : ∃ j, interfaceOf id t.lt.train = some j ∧ Settled i j := by
  obtain ⟨x, hx, e, he, hid, hxe⟩ := h.findEntry_last hlast
  obtain ⟨g, hg, hleading⟩ := hxe.leading
  rw [honly x hx hid] at hleading
  exact ⟨g i, by rw [interfaceOf, he]; exact hleading, hg i⟩

end

end Sys2Proof.Proofs.Windows
end

section
/-! Anchors and what the channels report of a window (O52, O53). -/
namespace Sys2Proof.Proofs.Windows

open Sys2Proof Sys2Proof.Machine
open Sys2Proof.Proofs.Answers
open Sys2Proof.Proofs.Planner
open Sys2Proof.Proofs.Train

/-! ### Interfaces and entries -/

section
variable {id k : Nat} {e : Entry} {i j : Interface} {s t : State} {xs ys : List Entry} {f : Entry → Entry} {g : Interface → Interface}

theorem interfaceOf_eq_some : interfaceOf id xs = some i ↔ ∃ e, findEntry id xs = some e ∧ e.leading = some i := Option.bind_eq_some_iff

theorem only_interface (hu : (xs.map (·.id)).Nodup) (hi : interfaceOf id xs = some i) : ∀ y ∈ xs, y.id = id → y.leading = some i := by
  rintro y hy rfl
  obtain ⟨e, he, hei⟩ := interfaceOf_eq_some.mp hi
  obtain rfl := Option.some.inj ((findEntry_of_mem hu hy).symm.trans he)
  exact hei

theorem only_modInterface (h : ∀ y ∈ xs, y.id = id → y.leading = some i) :
    ∀ y ∈ modInterface id g xs, y.id = id → y.leading = some (g i) := by
  intro y hy hid
  obtain ⟨x, hx, rfl⟩ := List.mem_map.mp hy
  by_cases hxid : x.id = id
  · simp [hxid, h x hx hxid]
  · simp [hxid] at hid

theorem interfaceOf_modInterface (hi : interfaceOf id xs = some i) : interfaceOf id (modInterface id g xs) = some (g i) := by
  obtain ⟨e, he, hei⟩ := interfaceOf_eq_some.mp hi
  refine interfaceOf_eq_some.mpr ⟨{ e with leading := e.leading.map g }, ?_, by rw [hei]; rfl⟩
  exact (findEntry_modEntry (f := fun e => { e with leading := e.leading.map g }) fun _ => rfl).trans (by rw [he]; rfl)

theorem lastIn_ids (h : ys.map (·.id) = xs.map (·.id)) (hlast : LastIn id xs) : LastIn id ys := by
  rw [LastIn, ← List.getLast?_map] at hlast ⊢
  rwa [h]

theorem ids_modEntry (hf : ∀ e, (f e).id = e.id) (k : Nat) (xs : List Entry) : (modEntry k f xs).map (·.id) = xs.map (·.id) :=
  map_id_modEntry hf k xs

theorem ids_modInterface (id : Nat) (g : Interface → Interface) (xs : List Entry) : (modInterface id g xs).map (·.id) = xs.map (·.id) :=
  map_id_modEntry (f := fun e => { e with leading := e.leading.map g }) (fun _ => rfl) id xs

theorem ids_rederive (xs : List Entry) : (rederive xs).map (·.id) = xs.map (·.id) :=
  (List.forall₂_eq_eq_eq ▸ List.forall₂_map_left_iff.mpr (List.forall₂_map_right_iff.mpr
    ((EveryStep.listed_rederive xs).imp fun _ _ h => h.id.symm)) : xs.map (·.id) = (rederive xs).map (·.id)).symm

theorem exists_of_forall₂ {α β : Type} {R : α → β → Prop} {as : List α} {bs : List β} (h : List.Forall₂ R as bs) {b : β} (hb : b ∈ bs) :
    ∃ a ∈ as, R a b := by
  induction h with
  | nil => cases hb
  | cons hab _ ih =>
    rcases List.mem_cons.mp hb with rfl | hb
    · exact ⟨_, List.mem_cons_self .., hab⟩
    · obtain ⟨a, ha, hR⟩ := ih hb
      exact ⟨a, List.mem_cons_of_mem _ ha, hR⟩

/-- R6: what is not FAR keeps its interface. -/
theorem only_rederive (h : ∀ y ∈ xs, y.id = id → y.leading = some i) (hi : i.track ≠ .far) :
    ∀ y ∈ rederive xs, y.id = id → y.leading = some i := by
  intro y hy hid
  obtain ⟨x, hx, hsame, -, hmoved⟩ := exists_of_forall₂ (onlyFarMoved_rederive xs) hy
  have hxid : x.id = id := by
    rw [hsame] at hid
    exact hid
  obtain ⟨p, hp, hpos⟩ := hmoved i (h x hx hxid)
  rw [hp, hpos hi]

end

/-! ### Anchors (R16, R17, R92) -/

section
variable {id : Nat} {v : Int} {p : Nat} {src : AnchorSource} {a : Entry} {i j : Interface} {s t : State}

/-- An interface that has taken an anchor. -/
def anchoredAt (p : Nat) (src : AnchorSource) (i : Interface) : Interface :=
  { i with residual := some ((p : Int) - i.pos), pos := p, track := .anchored, method := some (methodOf src) }

/-- The state once an interface has taken an anchor. -/
structure Anchored (id p : Nat) (src : AnchorSource) (i : Interface) (s t : State) : Prop where
  frame : t = { s with
    lt := { s.lt with train := t.lt.train, sLast := p, gap := 0, window := t.lt.window }
    handed := s.handed ++ [.eventPosted .interfaceAnchored id ((p : Int) - i.pos)] }
  window : ∀ w, t.lt.window = some w → w.batch ≠ id
  only : ∀ y ∈ t.lt.train, y.id = id → y.leading = some (anchoredAt p src i)
  ids : t.lt.train.map (·.id) = s.lt.train.map (·.id)

theorem applyAnchor_eq : applyAnchor id src p i s = { s with
    lt := { s.lt with train := (applyAnchor id src p i s).lt.train, sLast := p, gap := 0 }
    handed := s.handed ++ [.eventPosted .interfaceAnchored id ((p : Int) - i.pos)] } := rfl

theorem anchored_applyAnchor (hi : ∀ y ∈ s.lt.train, y.id = id → y.leading = some i) :
    (∀ y ∈ (applyAnchor id src p i s).lt.train, y.id = id → y.leading = some (anchoredAt p src i))
      ∧ (applyAnchor id src p i s).lt.train.map (·.id) = s.lt.train.map (·.id) := by
  refine ⟨only_rederive (only_modInterface (g := fun j => { j with
    residual := some ((p : Int) - i.pos), pos := p, track := .anchored, method := some (methodOf src) }) hi) (by simp [anchoredAt]), ?_⟩
  exact (ids_rederive _).trans (ids_modInterface ..)

theorem anchorInterface_anchored (hi : interfaceOf id s.lt.train = some i) (ha : aheadOf id s.lt.train = some a)
    (hanchorable : anchorable i = true) (honly : ∀ y ∈ s.lt.train, y.id = id → y.leading = some i) :
    Anchored id (anchoredPosition s.tables src v a.reference) src i s (anchorInterface id v src s) := by
  obtain ⟨honly', hids⟩ := anchored_applyAnchor (src := src) (p := anchoredPosition s.tables src v a.reference) honly
  have hwindow : (applyAnchor id src (anchoredPosition s.tables src v a.reference) i s).lt.window = s.lt.window := rfl
  simp only [anchorInterface, hi, ha, hanchorable, if_true]
  split
  next h => exact ⟨rfl, nofun, honly', hids⟩
  next h =>
    refine ⟨rfl, fun w hw hid => h ?_, honly', hids⟩
    rw [hw]
    exact congrArg some hid

theorem afterAnchor_beside (before : State) (h : NotFar id s.lt.train) : Beside id s (afterAnchor before s) := by
  have hcheck := Beside.completionCheck id s
  unfold afterAnchor
  split
  · exact hcheck.trans (.considerWindow (h.beside hcheck))
  · exact hcheck

theorem Anchored.notFar (h : Anchored id p src i s t) : NotFar id t.lt.train := by
  intro e he hid j hj
  rw [h.only e he hid] at hj
  obtain rfl := Option.some.inj hj
  simp [anchoredAt]

theorem Settled.anchoredAt (h : Settled (anchoredAt p src i) j) : j.pos = p ∧ j.residual = some ((p : Int) - i.pos)
    ∧ (j.track = .anchored ∨ j.track = .cleared) ∧ j.method = some (methodOf src) ∧ j.snapshot = i.snapshot := by
  obtain ⟨tr, mf, rfl⟩ : ∃ tr mf, j = { Windows.anchoredAt p src i with track := tr, mfResult := mf } := ⟨_, _, h.1⟩
  exact ⟨rfl, rfl, h.2, rfl, rfl⟩

theorem takeAnchor_taken (hi : interfaceOf id s.lt.train = some i) (h : anchorable i = true) :
    takeAnchor id v src s = afterAnchor s (anchorInterface id v src s) := by
  simp only [takeAnchor, hi, h, if_true]

theorem anchor_running {n : Nat} (hrun : s.running = true) :
    exec (.anchorHanded id n src) s = .next (takeAnchor id n src (s.take (.anchorHanded id n src))) := event_running hrun

/-- Settles O52. -/
theorem anchorPlacesTheInterface : Obligations.AnchorPlacesTheInterface := by
  intro id v src s hrun c
  refine ⟨?_, fun hnot => ?_⟩
  · intro a i hu ha hi htrack p
    have hi' : interfaceOf id (s.take c).lt.train = some i := hi
    have hanchorable : anchorable i = true := by simpa [anchorable] using htrack
    have hanchored : Anchored id p src i (s.take c) (anchorInterface id v src (s.take c)) :=
      anchorInterface_anchored hi' ha hanchorable (only_interface (uniqueIds_train hu) hi)
    have hbeside := afterAnchor_beside (s.take c) hanchored.notFar
    have hexec : exec c s = .next (afterAnchor (s.take c) (anchorInterface id v src (s.take c))) :=
      (anchor_running hrun).trans (congrArg _ (takeAnchor_taken hi' hanchorable))
    refine ⟨_, hexec, ?_, ?_, hbeside.handed.subset ?_, fun w hw hid => ?_, fun hlast => ?_⟩
    · rw [hbeside.frame, hanchored.frame]
    · rw [hbeside.frame, hanchored.frame]
    · rw [hanchored.frame]
      simp
    · have hsame := hbeside.window (by rw [hw]; exact congrArg some hid)
      exact hanchored.window w (hsame ▸ hw) hid
    · obtain ⟨e, he, -⟩ := interfaceOf_eq_some.mp hi
      obtain ⟨j, hj, hsettled⟩ := hbeside.interface_last (lastIn_ids hanchored.ids (lastIn_of_behindOf he hlast)) hanchored.only
      obtain ⟨hpos, hresidual, htrack, hmethod, -⟩ := hsettled.anchoredAt
      exact ⟨j, hj, hpos, hresidual, htrack, by rw [hmethod]; cases src <;> rfl⟩
  · refine (anchor_running hrun).trans (congrArg _ ?_)
    have hsame : interfaceOf id (s.take c).lt.train = interfaceOf id s.lt.train := rfl
    unfold takeAnchor
    split
    next i hi =>
      obtain ⟨hfar, hwindow⟩ := hnot i (hsame ▸ hi)
      exact if_neg (by simp [anchorable, hfar, hwindow])
    next => rfl

end

end Sys2Proof.Proofs.Windows
end

section
/-! What the channels report of a window's interface (O53). -/
namespace Sys2Proof.Proofs.Windows

open Sys2Proof Sys2Proof.Machine
open Sys2Proof.Proofs.Answers
open Sys2Proof.Proofs.Planner
open Sys2Proof.Proofs.Train

/-! ### An interface placed VOLUMETRIC (R18, R95) -/

section
variable {id : Nat} {k : EventKind} {d : Int} {i j : Interface} {sn : Snapshot} {s t : State}

/-- An interface that has been placed VOLUMETRIC. -/
def volumetricOf (i : Interface) : Interface := { i with track := .volumetric, method := some .volumetric }

/-- The state once an interface has been placed VOLUMETRIC. -/
structure Placed (id : Nat) (k : EventKind) (d : Int) (i : Interface) (sn : Snapshot) (s t : State) : Prop where
  frame : t = { s with lt := { s.lt with train := t.lt.train }, handed := t.handed }
  handed : s.handed <+: t.handed
  posted : .eventPosted k id d ∈ t.handed
  points : .volumetricPointsToCutPlanner id (Safety.Points s i.pos sn.mix) .routeController ∈ t.handed
  only : ∀ y ∈ t.lt.train, y.id = id → y.leading = some (volumetricOf i)
  others : ∀ y ∈ t.lt.train, y.id ≠ id → y ∈ s.lt.train
  ids : t.lt.train.map (·.id) = s.lt.train.map (·.id)

theorem releaseFrom_frame (id : Nat) (c : Channel) (s : State) : ∃ more, releaseFrom id c s = { s with handed := s.handed ++ more } := by
  unfold releaseFrom
  split
  · exact ⟨[.channelRelease c id], rfl⟩
  · exact ⟨[], by rw [List.append_nil]⟩

theorem placed_placedVolumetric (hi : interfaceOf id s.lt.train = some i) (hsn : i.snapshot = some sn)
    (honly : ∀ y ∈ s.lt.train, y.id = id → y.leading = some i) : Placed id k d i sn s (placedVolumetric id k d s) := by
  obtain ⟨m1, h1⟩ := releaseFrom_frame id .advance (s.setTrain (modInterface id volumetricOf s.lt.train))
  obtain ⟨m2, h2⟩ := releaseFrom_frame id .manifold
    { s.setTrain (modInterface id volumetricOf s.lt.train) with handed := s.handed ++ m1 }
  have hi' : interfaceOf id (modInterface id volumetricOf s.lt.train) = some (volumetricOf i) := interfaceOf_modInterface hi
  have hplaced : placedVolumetric id k d s = { s with
      lt := { s.lt with train := modInterface id volumetricOf s.lt.train }
      handed := s.handed ++ m1 ++ m2 ++ [.eventPosted k id d]
        ++ [.volumetricPointsToCutPlanner id (Safety.Points s i.pos sn.mix) .routeController] } := by
    have hreleased : releaseFrom id .manifold (releaseFrom id .advance (s.setTrain (modInterface id volumetricOf s.lt.train)))
        = { s.setTrain (modInterface id volumetricOf s.lt.train) with handed := s.handed ++ m1 ++ m2 } := by rw [h1]; exact h2
    have hpoints : ∀ u : State, u.lt.train = modInterface id volumetricOf s.lt.train → handPoints id u
        = u.hand (.volumetricPointsToCutPlanner id (volumetricPoints u.tables i.pos sn.mix) .routeController) := fun u hu => by
      simp only [handPoints, hu, hi', show (volumetricOf i).snapshot = some sn from hsn]
      rfl
    refine (congrArg (fun u => handPoints id (u.post k id d)) hreleased).trans ?_
    rw [hpoints _ rfl]
    rfl
  rw [hplaced]
  refine ⟨rfl, ?_, by simp, by simp, only_modInterface honly, fun y hy hid => ?_, ids_modInterface ..⟩
  rotate_left
  · obtain ⟨x, hx, rfl⟩ := List.mem_map.mp hy
    by_cases hxid : x.id = id
    · simp [hxid] at hid
    · simpa [hxid] using hx
  exact ⟨m1 ++ m2 ++ [.eventPosted k id d] ++ [.volumetricPointsToCutPlanner id (Safety.Points s i.pos sn.mix) .routeController],
    by simp⟩

theorem Placed.notFar (h : Placed id k d i sn s t) : NotFar id t.lt.train := by
  intro e he hid j hj
  rw [h.only e he hid] at hj
  obtain rfl := Option.some.inj hj
  simp [volumetricOf]

theorem Settled.volumetricOf (h : Settled (volumetricOf i) j) : (j.track = .volumetric ∨ j.track = .cleared)
    ∧ j = { i with track := j.track, method := some .volumetric, mfResult := j.mfResult } := ⟨h.2, h.1⟩

theorem closeVolumetric_beside (h : Placed id k d i sn (emptyWindow s) (placedVolumetric id k d (emptyWindow s))) :
    Beside id (placedVolumetric id k d (emptyWindow s)) (closeVolumetric id k d s) := by
  have hcheck := Beside.completionCheck id (placedVolumetric id k d (emptyWindow s))
  exact hcheck.trans (.considerWindow (h.notFar.beside hcheck))

/-- A window that closes without an anchor, as O53 says it. -/
theorem closeVolumetric_placed (hu : (s.lt.train.map (·.id)).Nodup) (hi : interfaceOf id s.lt.train = some i)
    (hsn : i.snapshot = some sn) :
    .eventPosted k id d ∈ (closeVolumetric id k d s).handed
      ∧ .volumetricPointsToCutPlanner id (Safety.Points s i.pos sn.mix) .routeController ∈ (closeVolumetric id k d s).handed
      ∧ (∀ w, (closeVolumetric id k d s).lt.window = some w → w.batch ≠ id)
      ∧ (behindOf id s.lt.train = none → (interfaceOf id (closeVolumetric id k d s).lt.train).isSome)
      ∧ (∀ j, interfaceOf id (closeVolumetric id k d s).lt.train = some j → Settled (volumetricOf i) j) := by
  have hplaced : Placed id k d i sn (emptyWindow s) (placedVolumetric id k d (emptyWindow s)) :=
    placed_placedVolumetric hi hsn (only_interface hu hi)
  have hbeside := closeVolumetric_beside hplaced
  refine ⟨hbeside.handed.subset hplaced.posted, hbeside.handed.subset hplaced.points, fun w hw hid => ?_, fun hlast => ?_,
    fun j hj => hbeside.interface hplaced.only hj⟩
  · have hsame := hbeside.window (by rw [hw]; exact congrArg some hid)
    rw [hw, hplaced.frame] at hsame
    cases hsame
  · obtain ⟨e, he, -⟩ := interfaceOf_eq_some.mp hi
    obtain ⟨j, hj, -⟩ := hbeside.interface_last (lastIn_ids hplaced.ids (lastIn_of_behindOf (xs := s.lt.train) he hlast)) hplaced.only
    rw [hj]
    rfl

end

/-! ### The reports -/

section
variable {ch : Channel} {id v : Nat} {l : Level} {i : Interface} {w : WindowRecord} {sn : Snapshot} {s : State}

/-- R92: a crossing entered in the interface record. -/
def crossed (ch : Channel) (l : Level) (v : Nat) (i : Interface) : Interface :=
  { i with
    crossings := if (i.snapshot.bind (·.primary)) = some ch ∧ i.crossings.get l = none then i.crossings.set l (some v)
      else i.crossings }

theorem takeCrossing_eq : takeCrossing ch id l v s = s.setTrain (modInterface id (crossed ch l v) s.lt.train) := by
  have hf : (fun i : Interface => if (i.snapshot.bind (·.primary)) = some ch ∧ (i.crossings.get l).isNone then
      { i with crossings := i.crossings.set l (some v) } else i) = crossed ch l v := by
    funext i
    simp only [crossed, Option.isNone_iff_eq_none]
    split <;> rfl
  rw [takeCrossing, hf]

theorem crossing_entered (hi : interfaceOf id s.lt.train = some i) : interfaceOf id (takeCrossing ch id l v s).lt.train
      = some (crossed ch l v i)
    ∧ (∀ b, b ≠ id → findEntry b (takeCrossing ch id l v s).lt.train = findEntry b s.lt.train)
    ∧ takeCrossing ch id l v s = { s with lt := { s.lt with train := (takeCrossing ch id l v s).lt.train } } := by
  rw [takeCrossing_eq]
  refine ⟨interfaceOf_modInterface hi, fun b hb => ?_, rfl⟩
  have hmap := findEntry_map (x := b) (t := s.lt.train) (changed_id (id := id)
    (f := fun e => { e with leading := e.leading.map (crossed ch l v) }) fun _ => rfl)
  refine hmap.trans ?_
  cases he : findEntry b s.lt.train with
  | none => rfl
  | some e => rw [Option.map_some, changed_other (findEntry_id he ▸ hb)]

theorem takeMiss_window (hw : s.lt.window = some w) (hid : w.batch = id) (hch : w.channel = ch) :
    takeMiss ch id s = closeVolumetric id .interfaceMissed 1 s := by
  simp only [takeMiss, hw, hid, hch, and_self, if_true]

theorem takeLowContrast_window (hw : s.lt.window = some w) (hid : w.batch = id) (hch : w.channel = ch) :
    takeLowContrast ch id .primary v s = closeVolumetric id .lowContrast v (recordLowContrast id v s) := by
  simp only [takeLowContrast, hw, hid, hch, and_self, if_true]

theorem lost_window (hw : s.lt.window = some w) (hid : w.batch = id) (hch : w.channel = ch) (hnot : w.expiryHanded = false)
    (hconfirm : ∀ k, s.lt.confirm = some k → k.batch ≠ id) :
    confirmLost ch id (windowLost ch id s) = s.setWindow (some { w with lost := true }) := by
  have hlost : windowLost ch id s = s.setWindow (some { w with lost := true }) := by
    simp [windowLost, hw, hid, hch, hnot]
  rw [hlost, confirmLost]
  have hsame : (s.setWindow (some { w with lost := true })).lt.confirm = s.lt.confirm := rfl
  split
  next c hc => exact if_neg fun h => hconfirm c (hsame ▸ hc) h.1
  next => rfl

theorem leftOff_window (hw : s.lt.window = some w) (hid : w.batch = id) (hch : w.channel = ch) (hlost : w.lost = true)
    (hwithin : (s.lt.curS : Int) ≤ w.upper) (hi : interfaceOf id s.lt.train = some i) (hsn : i.snapshot = some sn) :
    confirmLeftOff ch (windowLeftOff ch s) = (s.setWindow (some { w with lost := false })).hand
      (.channelInterfaceHanded ch ⟨id, .primary, sn.h, sn.t, sn.maxMix, sn.fd, sn.fa⟩) := by
  have hagain : windowLeftOff ch s = (s.setWindow (some { w with lost := false })).hand
      (.channelInterfaceHanded ch ⟨id, .primary, sn.h, sn.t, sn.maxMix, sn.fd, sn.fa⟩) := by
    simp only [windowLeftOff, hw, hch, hlost, hwithin, and_self, if_true, handAgain, hid, hi, Option.bind_some, hsn]
    rfl
  rw [hagain, confirmLeftOff]
  split
  next c hc =>
    refine if_neg ?_
    rintro ⟨rfl, -, -, hnone⟩
    simp [manifoldPrimary] at hnone
  next => rfl

end

section
variable {ch : Channel} {id v : Nat} {i : Interface} {sn : Snapshot} {s : State}

theorem lost_running (hrun : s.running = true) : exec (.channelLostReport ch id) s
    = .next (confirmLost ch id (windowLost ch id (s.take (.channelLostReport ch id)))) :=
  event_running (k := fun s => confirmLost ch id (windowLost ch id s)) hrun

theorem leftOff_running (hrun : s.running = true) : exec (.channelLeftOffReport ch) s
    = .next (confirmLeftOff ch (windowLeftOff ch (s.take (.channelLeftOffReport ch)))) :=
  event_running (k := fun s => confirmLeftOff ch (windowLeftOff ch s)) hrun

/-- R90: a snapshot with a channel's contrast recorded. -/
def withLowContrast (v : Nat) (sn : Snapshot) : Snapshot := { sn with contrast := some v, lowContrast := true }

theorem recordLowContrast_interface (hi : interfaceOf id s.lt.train = some i) (hsn : i.snapshot = some sn) :
    interfaceOf id (recordLowContrast id v s).lt.train = some { i with snapshot := some (withLowContrast v sn) } := by
  refine (interfaceOf_modInterface hi).trans ?_
  rw [hsn]
  rfl

end

/-- Settles O53. -/
theorem channelReportsReachTheWindow : Obligations.ChannelReportsReachTheWindow := by
  intro ch id v l i s hrun hu hi
  have hids := uniqueIds_train hu
  refine ⟨⟨_, event_running hrun, crossing_entered (s := s.take _) hi⟩, ?_⟩
  intro w sn hw hid hch hsn htrack placed
  refine ⟨?_, ?_, fun hnot hconfirm => ?_, fun hlost hwithin => ?_⟩
  · refine ⟨_, (event_running hrun).trans (congrArg _ (takeMiss_window (s := s.take _) hw hid hch)), ?_⟩
    obtain ⟨hposted, hpoints, hwindow, hsome, hj⟩ := closeVolumetric_placed (s := s.take (.missReturned ch id)) (k := .interfaceMissed)
      (d := 1) hids hi hsn
    refine ⟨hposted, hpoints, hwindow, hsome, fun j h => ?_⟩
    obtain ⟨htrack, heq⟩ := (hj j h).volumetricOf
    exact ⟨htrack, by rw [hsn] at heq; exact heq⟩
  · refine ⟨_, (event_running hrun).trans (congrArg _ (takeLowContrast_window (s := s.take _) hw hid hch)), ?_⟩
    have hi' := recordLowContrast_interface (v := v) (s := s.take (.lowContrastReport ch id .primary v)) hi hsn
    have hids' : ((recordLowContrast id v (s.take (.lowContrastReport ch id .primary v))).lt.train.map (·.id)).Nodup :=
      (ids_modInterface id _ s.lt.train).symm ▸ hids
    obtain ⟨hposted, hpoints, hwindow, hsome, hj⟩ := closeVolumetric_placed (k := .lowContrast) (d := v) hids' hi' rfl
    refine ⟨hposted, hpoints, hwindow, fun hlast => hsome ?_, fun j h => (hj j h).volumetricOf⟩
    have hbehind := EveryStep.behindOf_id_of_map id (ids_modInterface id (fun i => { i with
      snapshot := i.snapshot.map (withLowContrast v) }) s.lt.train)
    rw [hlast] at hbehind
    exact Option.map_eq_none_iff.mp hbehind
  · exact (lost_running hrun).trans (congrArg _ (lost_window (s := s.take _) hw hid hch hnot hconfirm))
  · exact (leftOff_running hrun).trans (congrArg _ (leftOff_window (s := s.take _) hw hid hch hlost hwithin hi hsn))

end Sys2Proof.Proofs.Windows
end

section
/-! Manifold confirmations (O54). -/
namespace Sys2Proof.Proofs.Windows

open Sys2Proof Sys2Proof.Machine
open Sys2Proof.Proofs.Answers
open Sys2Proof.Proofs.Planner
open Sys2Proof.Proofs.Train

/-! ### A judged interface while candidates are considered (R96) -/

section
variable {id k p : Nat} {i j : Interface} {sn : Snapshot} {s : State} {xs : List Entry} {g : Interface → Interface}

theorem confirmCandidate_mem (h : confirmCandidate xs = some (k, p, sn)) :
    ∃ e ∈ xs, e.id = k ∧ ∃ i, e.leading = some i ∧ eligible i = true ∧ i.pos = p ∧ i.snapshot = some sn := by
  induction xs with
  | nil => cases h
  | cons e rest ih =>
    have hlater (h : confirmCandidate rest = some (k, p, sn)) : ∃ x ∈ e :: rest, x.id = k
        ∧ ∃ i, x.leading = some i ∧ eligible i = true ∧ i.pos = p ∧ i.snapshot = some sn := by
      obtain ⟨x, hx, hrest⟩ := ih h
      exact ⟨x, List.mem_cons_of_mem e hx, hrest⟩
    rw [confirmCandidate] at h
    split at h
    next i hi =>
      split at h
      next heligible =>
        obtain ⟨sn', hsn', heq⟩ := Option.map_eq_some_iff.mp h
        obtain ⟨rfl, rfl, rfl⟩ := heq
        exact ⟨e, List.mem_cons_self .., rfl, i, hi, heligible, rfl, hsn'⟩
      next => exact hlater h
    next => exact hlater h

theorem eligible_unjudged (h : eligible i = true) : i.mfResult = none := by
  unfold eligible at h
  split at h
  · simp only [Bool.and_eq_true, Option.isNone_iff_eq_none] at h
    exact h.1.2
  · cases h

theorem confirmCandidate_ne (honly : ∀ y ∈ xs, y.id = id → y.leading = some i) (hjudged : i.mfResult ≠ none)
    (h : confirmCandidate xs = some (k, p, sn)) : k ≠ id := by
  rintro rfl
  obtain ⟨e, he, hid, j, hj, heligible, -⟩ := confirmCandidate_mem h
  rw [honly e he hid] at hj
  obtain rfl := Option.some.inj hj
  exact hjudged (eligible_unjudged heligible)

theorem interfaceOf_modOther (h : k ≠ id) : interfaceOf id (modInterface k g xs) = interfaceOf id xs := by
  have hmap := findEntry_map (x := id) (t := xs) (changed_id (id := k) (f := fun e => { e with leading := e.leading.map g }) fun _ => rfl)
  refine (congrArg (Option.bind · (·.leading)) hmap).trans ?_
  rw [interfaceOf]
  cases he : findEntry id xs with
  | none => rfl
  | some e => rw [Option.map_some, changed_other (by rw [findEntry_id he]; exact h.symm)]

/-- What a consideration of confirmation candidates leaves of an interface that has its result. -/
structure StaysJudged (id : Nat) (i : Interface) (s t : State) : Prop where
  interface : interfaceOf id t.lt.train = some i
  handed : s.handed <+: t.handed
  confirm : ∀ c, t.lt.confirm = some c → c.batch = id → s.lt.confirm = some c

theorem openConfirm_judged {lo hi : Int} (hi' : interfaceOf id s.lt.train = some i) (h : k ≠ id) :
    StaysJudged id i s (openConfirm k lo hi sn s) := by
  have hconfirm : ∀ c, (openConfirm k lo hi sn s).lt.confirm = some c → c.batch = id → s.lt.confirm = some c := fun c hc hid => by
    have hbatch : (openConfirm k lo hi sn s).lt.confirm.map (·.batch) = some k := by
      unfold openConfirm
      dsimp only
      split <;> rfl
    rw [hc] at hbatch
    exact absurd ((Option.some.inj hbatch).symm.trans hid) h
  have hbeside := Beside.openConfirm id k lo hi sn s
  refine ⟨?_, hbeside.handed, hconfirm⟩
  unfold openConfirm
  dsimp only
  split <;> exact hi'

theorem considerConfirm_judged (hu : (s.lt.train.map (·.id)).Nodup) (hi : interfaceOf id s.lt.train = some i) (hjudged : i.mfResult ≠ none) :
    StaysJudged id i s (considerConfirm s) := by
  have hloop : ∀ n u, (u.lt.train.map (·.id)).Nodup → interfaceOf id u.lt.train = some i → StaysJudged id i u (confirmLoop n u) := by
    intro n
    induction n with
    | zero => exact fun u _ hi => ⟨hi, List.prefix_rfl, fun _ hc _ => hc⟩
    | succ n ih =>
      intro u hu hi
      have hsame : StaysJudged id i u u := ⟨hi, List.prefix_rfl, fun _ hc _ => hc⟩
      unfold confirmLoop
      split
      · exact hsame
      · split
        · exact hsame
        · rename_i k pos sn hc
          have hne := confirmCandidate_ne (only_interface hu hi) hjudged hc
          dsimp only
          split
          · exact hsame
          · split
            · have hnext := ih (noConfirm k 2 u) ((ids_modInterface ..).symm ▸ hu) ((interfaceOf_modOther hne).trans hi)
              exact ⟨hnext.interface, (List.prefix_append ..).trans hnext.handed, hnext.confirm⟩
            · split
              · exact hsame
              · exact openConfirm_judged hi hne
  exact hloop _ _ hu hi

end

/-! ### The ends of a confirmation (R97 to R99) -/

section
variable {id d v : Nat} {i : Interface} {c : ConfirmRecord} {sn : Snapshot} {s : State} {detail : Int}

theorem endConfirm_judged (hu : (s.lt.train.map (·.id)).Nodup) (hi : interfaceOf id s.lt.train = some i) :
    .eventPosted .mfNoConfirm id detail ∈ (endConfirm id detail s).handed
      ∧ interfaceOf id (endConfirm id detail s).lt.train = some { i with mfResult := some .noConfirm } := by
  have hjudged := considerConfirm_judged (s := noConfirm id detail (s.setConfirm none)) ((ids_modInterface ..).symm ▸ hu)
    (interfaceOf_modInterface (g := fun i => { i with mfResult := some .noConfirm }) hi) (by simp)
  exact ⟨hjudged.handed.subset (by simp [noConfirm]), hjudged.interface⟩

theorem takeMiss_confirm (hc : s.lt.confirm = some c) (hid : c.batch = id) (hw : ∀ w, s.lt.window = some w → w.batch ≠ id) :
    takeMiss .manifold id s = endConfirm id 1 s := by
  unfold takeMiss
  split
  next w hw' => simp [hw w hw', hc, hid]
  next => simp [hc, hid]

theorem takeLowContrast_confirm (hc : s.lt.confirm = some c) (hid : c.batch = id) :
    takeLowContrast .manifold id .confirming v s = endConfirm id 4 s := by
  simp only [takeLowContrast, hc, hid, and_self, if_true]

theorem takeConfirmDeparture_eq (hc : s.lt.confirm = some c) (hid : c.batch = id) (hi : interfaceOf id s.lt.train = some i) :
    takeConfirmDeparture id d s = considerConfirm (judgeDeparture id d i.pos c.tolerance (s.setConfirm none)) := by
  simp only [takeConfirmDeparture, hc, hid, hi, if_true]

/-- R98: the result of a departure start that disagrees by `r`. -/
def judgement (r : Int) (tolerance : Nat) : ConfirmResult := if r.natAbs ≤ tolerance then .confirmed else .disagree

/-- An interface judged by a departure start. -/
def judgedBy (d : Nat) (r : Int) (tolerance : Nat) (i : Interface) : Interface :=
  { i with mfStart := some d, mfResult := some (judgement r tolerance) }

theorem judgeDeparture_eq {p tolerance : Nat} {r : Int} (hr : (d : Int) - ((p : Int) + s.tables.params.leadVolume) = r) :
    judgeDeparture id d p tolerance s = { s with
      lt := { s.lt with train := modInterface id (judgedBy d r tolerance) s.lt.train }
      handed := s.handed ++ [.eventPosted (if r.natAbs ≤ tolerance then .mfConfirmed else .mfDisagree) id r]
        ++ if r < -(tolerance : Int) then [.earlyDisagreeAdvance id .routeController] else [] } := by
  simp only [judgeDeparture, hr, decide_eq_true_eq]
  split
  · rfl
  · rw [List.append_nil]
    rfl

/-- R98: the departure start of the confirming interface, judged. -/
theorem departure_judged (hu : (s.lt.train.map (·.id)).Nodup) (hc : s.lt.confirm = some c) (hid : c.batch = id)
    (hi : interfaceOf id s.lt.train = some i) :
    let r : Int := (d : Int) - (i.pos + s.tables.params.leadVolume : Nat)
    let t := takeConfirmDeparture id d s
    interfaceOf id t.lt.train = some (judgedBy d r c.tolerance i)
      ∧ .eventPosted (if r.natAbs ≤ c.tolerance then .mfConfirmed else .mfDisagree) id r ∈ t.handed
      ∧ (r < -(c.tolerance : Int) → .earlyDisagreeAdvance id .routeController ∈ t.handed)
      ∧ ∀ c', t.lt.confirm = some c' → c'.batch ≠ id := by
  intro r t
  have hr : (d : Int) - ((i.pos : Int) + (s.setConfirm none).tables.params.leadVolume) = r := by simp [r]
  have ht : t = _ := takeConfirmDeparture_eq hc hid hi
  rw [judgeDeparture_eq hr] at ht
  have hjudged := considerConfirm_judged (id := id) (s := judgeDeparture id d i.pos c.tolerance (s.setConfirm none))
    (i := judgedBy d r c.tolerance i)
    (by rw [judgeDeparture_eq hr]; exact (ids_modInterface ..).symm ▸ hu)
    (by rw [judgeDeparture_eq hr]
        exact interfaceOf_modInterface hi)
    (by simp [judgedBy])
  rw [judgeDeparture_eq hr, ← ht] at hjudged
  refine ⟨hjudged.interface, hjudged.handed.subset (by simp), fun hearly => hjudged.handed.subset ?_, fun c' hc' hid' => ?_⟩
  · rw [if_pos hearly]
    simp
  · have hnone := hjudged.confirm c' hc' hid'
    cases hnone

/-- R96: the candidate within its edges is handed to the MANIFOLD channel; ahead of them nothing happens. -/
theorem considerConfirm_opens {p : Nat} (hc : confirmCandidate s.lt.train = some (id, p, sn)) (hnone : s.lt.confirm = none)
    (hmode : (s.sd.get .manifold).mode ≠ .off) (hprimary : manifoldPrimary s = false) :
    let centre : Int := (p : Int) + s.tables.params.leadVolume
    let reach : Int := s.tables.params.confirmTolerance + sn.mix / 2
    (centre - reach ≤ s.lt.curS → (s.lt.curS : Int) ≤ centre + reach → considerConfirm s = { s with
        lt := { s.lt with confirm := some ⟨id, centre - reach, centre + reach, s.tables.params.confirmTolerance, false, false⟩ }
        handed := s.handed ++ [.channelInterfaceHanded .manifold ⟨id, .confirming, sn.h, sn.t, sn.maxMix, sn.fd, sn.fa⟩] })
      ∧ ((s.lt.curS : Int) < centre - reach → considerConfirm s = s) := by
  intro centre reach
  obtain ⟨n, hn⟩ : ∃ n, s.lt.train.length = n + 1 := by
    obtain ⟨e, he, -⟩ := confirmCandidate_mem hc
    exact Nat.exists_eq_succ_of_ne_zero (List.length_pos_of_mem he).ne'
  have hreach : (s.tables.params.confirmTolerance : Int) + (sn.mix / 2 : Nat) = reach := by simp [reach]
  have hcentre : (p : Int) + s.tables.params.leadVolume = centre := rfl
  refine ⟨fun hlower hupper => ?_, fun hbelow => ?_⟩
  · have hopen : openConfirm id (centre - reach) (centre + reach) sn s = { s with
        lt := { s.lt with confirm := some ⟨id, centre - reach, centre + reach, s.tables.params.confirmTolerance, false, false⟩ }
        handed := s.handed ++ [.channelInterfaceHanded .manifold ⟨id, .confirming, sn.h, sn.t, sn.maxMix, sn.fd, sn.fa⟩] } := by
      have hon : (channelMode s .manifold == .off) = false := by simpa [channelMode] using hmode
      simp only [openConfirm, hon]
      rfl
    rw [considerConfirm, hn, confirmLoop]
    simp only [hnone, hc, hreach, hcentre, hprimary, Option.isSome_none, Bool.false_eq_true, if_false, if_neg (Int.not_lt.mpr hlower),
      if_neg (Int.not_lt.mpr hupper)]
    exact hopen
  · rw [considerConfirm, hn, confirmLoop]
    simp only [hnone, hc, hreach, hcentre, Option.isSome_none, Bool.false_eq_true, if_false, if_pos hbelow]

end

/-- Settles O54. -/
theorem confirmationIsJudged : Obligations.ConfirmationIsJudged := by
  intro id d v i s hrun hu hi
  have hids := uniqueIds_train hu
  refine ⟨?_, ?_⟩
  · intro k hk hid r
    refine ⟨?_, fun hw => ⟨?_, ?_⟩⟩
    · obtain ⟨hinterface, hposted, hearly, hconfirm⟩ := departure_judged (d := d) (s := s.take (.confirmDepartureHanded id d)) hids hk hid hi
      refine ⟨_, event_running hrun, hinterface, ?_, hearly, hconfirm⟩
      by_cases h : r.natAbs ≤ k.tolerance
      · rw [if_pos (by exact h)] at hposted ⊢
        exact hposted
      · rw [if_neg (by exact h)] at hposted ⊢
        exact hposted
    · refine ⟨_, (event_running hrun).trans (congrArg _ (takeMiss_confirm (s := s.take _) hk hid hw)), ?_⟩
      exact endConfirm_judged (s := s.take _) hids hi
    · refine ⟨_, (event_running hrun).trans (congrArg _ (takeLowContrast_confirm (s := s.take _) hk hid)), ?_⟩
      exact endConfirm_judged (s := s.take _) hids hi
  · intro sn hnone hc hhanded hmode hheld centre reach
    have hempty : (s.take .manifoldPrimaryCeased).handed = [] := by
      rw [State.take_handed, hhanded]
      rfl
    have hprimary : manifoldPrimary (s.take .manifoldPrimaryCeased) = false := by
      rw [manifoldPrimary, hempty]
      simpa [holdsPrimary] using hheld
    obtain ⟨hopens, hwaits⟩ := considerConfirm_opens (s := s.take .manifoldPrimaryCeased) hc hnone hmode hprimary
    have hexec : exec .manifoldPrimaryCeased s = .next (considerConfirm (s.take .manifoldPrimaryCeased)) := event_running hrun
    refine ⟨fun hlower hupper => ?_, fun hbelow => ?_⟩
    · rw [hexec, hopens hlower hupper, hempty]
      rfl
    · rw [hexec, hwaits hbelow, ← hempty]
      rfl

end Sys2Proof.Proofs.Windows
end

section
/-! The completion of the manifold batch (O50). -/
namespace Sys2Proof.Proofs.Windows

open Sys2Proof Sys2Proof.Machine
open Sys2Proof.Proofs.Answers
open Sys2Proof.Proofs.Train

/-! ### A train of two entries -/

section
variable {m b : Entry} {i : Interface} {sn : Snapshot} {s : State} {now : Nat}

/-- The flags a batch completes with (R124). -/
def completedFlags (s : State) (m : Entry) : TicketFlags :=
  if stripShort s.tables s.lt.train m then { m.delivery.flags with stripShort := true } else m.delivery.flags

/-- The batch that completes. -/
def completedFront (s : State) (m : Entry) : Entry :=
  { m with delivery := { m.delivery with endS := some s.lt.curS, flags := completedFlags s m } }

/-- The batch behind one that completes. -/
def nextFront (s : State) (b : Entry) (i : Interface) : Entry :=
  { b with leading := some { i with track := .cleared }, delivery := { b.delivery with startS := some s.lt.curS } }

/-- Two entries with interfaces behind, and a trailing interface that has its place. -/
structure TwoEntries (m b : Entry) (i : Interface) (sn : Snapshot) (s : State) : Prop where
  train : s.lt.train = [m, b]
  frontOpen : m.complete = false
  backOpen : b.complete = false
  ids : m.id ≠ b.id
  leading : b.leading = some i
  track : i.track = .anchored ∨ i.track = .volumetric
  snapshot : i.snapshot = some sn

/-- R20: the three conditions of completion. -/
def Ready (b : Entry) (i : Interface) (sn : Snapshot) (s : State) : Prop :=
  i.pos + s.tables.params.leadVolume + sn.mix / 2 ≤ s.lt.curS
    ∧ (∀ a ∈ s.cp.actions, a.subject = b.id → a.kind ≠ .divert ∧ a.kind ≠ .enter) ∧ s.rc.switching = none

theorem completes_iff (h : TwoEntries m b i sn s) : completes s b = true ↔ Ready b i sn s := by
  have hpoint : b.leading.bind (clearPoint s.tables) = some (i.pos + s.tables.params.leadVolume + sn.mix / 2) := by
    rw [h.leading, Option.bind_some]
    rcases h.track with htrack | htrack <;> simp [clearPoint, htrack, h.snapshot, manifoldPoint]
  simp [completes, hpoint, Ready, belongs, and_assoc]

theorem completeOnce_two (h : TwoEntries m b i sn s) :
    completeOnce s = if completes s b then some (completeBatch m b s) else none := by
  have hm : manifoldOf s.lt.train = some m := by simp [manifoldOf, h.train, h.frontOpen]
  have hb : behindOf m.id s.lt.train = some b := by simp [behindOf, h.train]
  simp only [completeOnce, hm, hb]

theorem completionCheck_waits (h : TwoEntries m b i sn s) (hnot : ¬Ready b i sn s) : completionCheck s = s := by
  have honce : completeOnce s = none := by
    rw [completeOnce_two h, if_neg]
    rwa [completes_iff h]
  rw [completionCheck, h.train]
  simp only [List.length_cons, completionLoop, honce]

/-- R21: with nothing behind the manifold batch the check ends. -/
theorem completeOnce_last {x : Entry} (hm : manifoldOf s.lt.train = some x) (hb : behindOf x.id s.lt.train = none) :
    completeOnce s = none := by simp only [completeOnce, hm, hb]

theorem completionCheck_once (h : TwoEntries m b i sn s) (hready : Ready b i sn s) {x : Entry}
    (hm : manifoldOf (completeBatch m b s).lt.train = some x) (hb : behindOf x.id (completeBatch m b s).lt.train = none) :
    completionCheck s = completeBatch m b s := by
  have honce : completeOnce s = some (completeBatch m b s) := by rw [completeOnce_two h, if_pos ((completes_iff h).mpr hready)]
  rw [completionCheck, h.train]
  simp only [List.length_cons, List.length_nil, completionLoop, honce, completeOnce_last hm hb]

theorem completedTrain_two (h : TwoEntries m b i sn s) : completedTrain s m b = [completedFront s m, nextFront s b i] := by
  have hne : (b.id == m.id) = false := by simpa using h.ids.symm
  have hne' : (m.id == b.id) = false := by simpa using h.ids
  simp only [completedTrain, modInterface, modEntry, h.train, List.map_cons, List.map_nil, hne, hne', beq_self_eq_true, if_true,
    Bool.false_eq_true, if_false, h.leading, Option.map_some, completedFront, completedFlags, nextFront]

theorem completeBatch_two (h : TwoEntries m b i sn s) : completeBatch m b s =
    if s.ts.length < 32 then
      issueTicket (completedFront s m) ((s.setTrain [completedFront s m, nextFront s b i]).post .batchComplete m.id 1)
    else ((s.setTrain [{ completedFront s m with complete := true }, nextFront s b i]).post .batchComplete m.id 1).post
      .ticketsFull m.id 1 := by
  have hindex : indexOf m.id s.lt.train = 1 := by simp [indexOf, h.train, List.findIdx?_cons]
  have hfind : findEntry m.id [completedFront s m, nextFront s b i] = some (completedFront s m) := by
    simp [findEntry, completedFront]
  have hmark : modEntry m.id (fun e => { e with complete := true }) [completedFront s m, nextFront s b i]
      = [{ completedFront s m with complete := true }, nextFront s b i] := by
    simp [modEntry, completedFront, nextFront, h.ids.symm]
  simp only [completeBatch, completedTrain_two h, hindex, Config.maxTickets]
  split
  · simp only [State.post_lt, State.setTrain_lt, hfind]
    rfl
  · simp only [State.post_lt, State.setTrain_lt, hmark]
    have hcount : ([{ completedFront s m with complete := true }, nextFront s b i].filter (·.complete)).length = 1 := by
      simp [nextFront, h.backOpen]
    rw [hcount]
    rfl

/-- The manifold batch leaves the train with its ticket. -/
theorem completionCheck_ticket (h : TwoEntries m b i sn s) (hready : Ready b i sn s) (hroom : s.ts.length < 32) :
    ∃ attn, completionCheck s = { s with
      lt := { s.lt with train := [nextFront s b i] }
      ts := s.ts ++ [formTicket s.tables (completedFront s m) (some { i with track := .cleared })]
      el := { s.el with attn := attn }
      handed := s.handed ++ [.eventPosted .batchComplete m.id 1, .eventPosted .ticketReady m.id (s.ts.length + 1 : Nat)] } := by
  obtain ⟨attn, hissued⟩ := issueTicket_front (e := completedFront s m) (back := [nextFront s b i])
    (s := (s.setTrain [completedFront s m, nextFront s b i]).post .batchComplete m.id 1) rfl
  have hbatch := completeBatch_two h
  rw [if_pos hroom, hissued] at hbatch
  refine ⟨attn, ?_⟩
  rw [completionCheck_once h hready (x := nextFront s b i), hbatch]
  · have hbehind : behindOf m.id [completedFront s m, nextFront s b i] = some (nextFront s b i) := by simp [behindOf, completedFront]
    have hleading : (nextFront s b i).leading = some { i with track := .cleared } := rfl
    have hid : (completedFront s m).id = m.id := rfl
    simp [hid, State.post, State.hand, hbehind, hleading]
  · rw [hbatch]
    simp [manifoldOf, nextFront, h.backOpen]
  · rw [hbatch]
    simp [behindOf]

/-- The manifold batch waits COMPLETE while the Ticket Store is full. -/
theorem completionCheck_full (h : TwoEntries m b i sn s) (hready : Ready b i sn s) (hfull : 32 ≤ s.ts.length) :
    completionCheck s = { s with
      lt := { s.lt with train := [{ completedFront s m with complete := true }, nextFront s b i] }
      handed := s.handed ++ [.eventPosted .batchComplete m.id 1, .eventPosted .ticketsFull m.id 1] } := by
  have hbatch := completeBatch_two h
  rw [if_neg (Nat.not_lt.mpr hfull)] at hbatch
  rw [completionCheck_once h hready (x := nextFront s b i), hbatch]
  · simp [State.post, State.hand, State.setTrain]
  · rw [hbatch]
    simp [manifoldOf, nextFront, h.backOpen]
  · rw [hbatch]
    simp [behindOf, nextFront, completedFront, h.ids]

end

/-! ### A new S with nothing to consider -/

section
variable {m b : Entry} {i : Interface} {s : State} {xs : List Entry}

theorem considerations_none (hw : s.lt.window = none) (hc : s.lt.confirm = none) (hcandidate : candidate s.lt.train = none)
    (hconfirm : confirmCandidate s.lt.train = none) : considerConfirm (confirmExpiry (considerWindow (windowExpiry s))) = s := by
  have hexpiry : windowExpiry s = s := by simp only [windowExpiry, hw]
  have hwindow : considerWindow s = s := by
    unfold considerWindow
    cases s.lt.train.length with
    | zero => rfl
    | succ n => simp [considerLoop, hw, hcandidate]
  have hexpiry' : confirmExpiry s = s := by simp only [confirmExpiry, hc]
  have hconsider : considerConfirm s = s := by
    unfold considerConfirm
    cases s.lt.train.length with
    | zero => rfl
    | succ n => simp [confirmLoop, hc, hconfirm]
  rw [hexpiry, hwindow, hexpiry', hconsider]

/-- No interface of the train is FAR or eligible for confirmation. -/
def AllJudged (xs : List Entry) : Prop := ∀ e ∈ xs, ∀ i, e.leading = some i → i.track ≠ .far ∧ i.mfResult ≠ none

theorem AllJudged.candidates (h : AllJudged xs) : candidate xs = none ∧ confirmCandidate xs = none := by
  constructor
  · rw [Option.eq_none_iff_forall_not_mem]
    rintro ⟨a, e, i⟩ hc
    obtain ⟨-, he, hi, hfar⟩ := candidate_mem hc
    exact (h e he i hi).1 hfar
  · rw [Option.eq_none_iff_forall_not_mem]
    rintro ⟨k, p, sn⟩ hc
    obtain ⟨e, he, -, i, hi, heligible, -⟩ := confirmCandidate_mem hc
    exact (h e he i hi).2 (eligible_unjudged heligible)

end

section
variable {c : Instr} {now x : Nat} {m : Entry} {i : Interface} {s : State}

/-- The events at which the completion check is made, the last with nothing else to do at the new S. -/
def CompletionEvent (c : Instr) (now x : Nat) (m : Entry) (i : Interface) (s : State) : Prop :=
  ((c = .actionLeftList x ∨ c = .switchEndHanded) ∧ now = s.lt.curS)
    ∨ (c = .ltSAdvance now ∧ s.lt.window = none ∧ s.lt.confirm = none ∧ m.leading = none ∧ i.mfResult.isSome)

/-- The state in which the completion check is made. -/
def atEvent (c : Instr) (now : Nat) (s : State) : State := { s.take c with lt := { s.lt with curS := now } }

/-- Each of the events leaves what its completion check leaves. -/
theorem event_completion (hrun : s.running = true) (h : CompletionEvent c now x m i s) {v : State}
    (hv : completionCheck (atEvent c now s) = v) (hw : v.lt.window = s.lt.window) (hc : v.lt.confirm = s.lt.confirm)
    (hleading : ∀ e ∈ v.lt.train, ∀ j, e.leading = some j → e.leading = m.leading ∨ j.track ≠ .far ∧ j.mfResult = i.mfResult) :
    exec c s = .next v := by
  subst hv
  rcases h with ⟨rfl | rfl, rfl⟩ | ⟨rfl, hwindow, hconfirm, hm, hi⟩
  · exact event_running hrun
  · exact event_running hrun
  · have hjudged : AllJudged (completionCheck (atEvent (.ltSAdvance now) now s)).lt.train := fun e he j hj => by
      rcases hleading e he j hj with h | ⟨hfar, hresult⟩
      · rw [hj, hm] at h
        cases h
      · exact ⟨hfar, by rw [hresult]; exact Option.isSome_iff_ne_none.mp hi⟩
    exact (event_running hrun).trans (congrArg _
      (considerations_none (hw.trans hwindow) (hc.trans hconfirm) hjudged.candidates.1 hjudged.candidates.2))

theorem CompletionEvent.canonical (h : CompletionEvent c now x m i s) : c.canonical = c := by
  rcases h with ⟨rfl | rfl, -⟩ | ⟨rfl, -⟩ <;> rfl

end

/-- Settles O50. -/
theorem completionAtEachOfItsEvents : Obligations.CompletionAtEachOfItsEvents := by
  intro c now x m b i sn s hrun htrain hm hb hids hleading htrack hsn hevent ready flags b'
  have hevent' : CompletionEvent c now x m i s := hevent
  have htwo : TwoEntries m b i sn (atEvent c now s) := ⟨htrain, hm, hb, hids, hleading, htrack, hsn⟩
  have hfar : i.track ≠ .far := by rcases htrack with h | h <;> simp [h]
  have hhanded : (atEvent c now s).handed = s.handed.erase c := by
    have htaken : (atEvent c now s).handed = s.handed.erase c.canonical := rfl
    rw [htaken, hevent'.canonical]
  refine ⟨fun hnot => ?_, fun hready hroom => ?_, fun hready hfull => ?_⟩
  · refine event_completion hrun hevent' (completionCheck_waits htwo hnot) rfl rfl fun e he j hj => ?_
    have hin : e ∈ [m, b] := htrain ▸ he
    rcases List.mem_pair.mp hin with rfl | rfl
    · exact .inl rfl
    · rw [hleading] at hj
      obtain rfl := Option.some.inj hj
      exact .inr ⟨hfar, rfl⟩
  · obtain ⟨attn, hticket⟩ := completionCheck_ticket htwo hready hroom
    refine ⟨_, formTicket s.tables (completedFront (atEvent c now s) m) (some { i with track := .cleared }),
      event_completion hrun hevent' hticket rfl rfl fun e he j hj => ?_, rfl, rfl, rfl, rfl, rfl, rfl, ?_⟩
    · obtain rfl := List.mem_singleton.mp he
      obtain rfl := Option.some.inj hj
      exact .inr ⟨by simp, rfl⟩
    · rw [hhanded]
      rfl
  · have hexec := event_completion hrun hevent' (completionCheck_full htwo hready hfull) rfl rfl fun e he j hj => by
      rcases List.mem_pair.mp he with rfl | rfl
      · exact .inl rfl
      · obtain rfl := Option.some.inj hj
        exact .inr ⟨by simp, rfl⟩
    rw [hexec, hhanded]
    rfl

end Sys2Proof.Proofs.Windows
end

section
/-! What the parts of an accepted ACCEPT leave (O38). -/
namespace Sys2Proof.Proofs.Windows

open Sys2Proof Sys2Proof.Machine
open Sys2Proof.Proofs.Answers
open Sys2Proof.Proofs.Planner
open Sys2Proof.Proofs.Train

/-! ### The entries by ID and inheritance -/

/-- The IDs of a train with the marks of inherited batches. -/
def tags (xs : List Entry) : List (Nat × Bool) := xs.map (fun e => (e.id, e.inherited))

section
variable {id : Nat} {a e x : Entry} {i : Interface} {s : State} {xs ys : List Entry} {f : Entry → Entry} {g : Interface → Interface}

theorem tags_ids (h : tags ys = tags xs) : ys.map (·.id) = xs.map (·.id) := by
  have hfst := congrArg (List.map Prod.fst) h
  simpa [tags, Function.comp_def] using hfst

theorem tags_modEntry (hid : ∀ e, (f e).id = e.id) (hinherited : ∀ e, (f e).inherited = e.inherited) (k : Nat) (xs : List Entry) :
    tags (modEntry k f xs) = tags xs := by
  rw [tags, modEntry_eq_map, List.map_map]
  refine List.map_congr_left fun e _ => ?_
  rw [Function.comp, changed_id hid, changed_field (p := (·.inherited)) hinherited]

theorem tags_modInterface (k : Nat) (g : Interface → Interface) (xs : List Entry) : tags (modInterface k g xs) = tags xs :=
  tags_modEntry (f := fun e => { e with leading := e.leading.map g }) (fun _ => rfl) (fun _ => rfl) k xs

theorem tags_markBatch (k : Nat) (f : TicketFlags → TicketFlags) (xs : List Entry) : tags (markBatch k f xs) = tags xs :=
  tags_modEntry (fun e => by split <;> rfl) (fun e => by split <;> rfl) k xs

theorem derivePosition_tag (a e : Entry) : (derivePosition a e).id = e.id ∧ (derivePosition a e).inherited = e.inherited := by
  unfold derivePosition
  split
  · split <;> exact ⟨rfl, rfl⟩
  · exact ⟨rfl, rfl⟩

theorem tags_rederive (xs : List Entry) : tags (rederive xs) = tags xs := by
  have hbehind : ∀ a ys, tags (rederiveBehind a ys) = tags ys := fun a ys => by
    induction ys generalizing a with
    | nil => rfl
    | cons e rest ih =>
      obtain ⟨hid, hinherited⟩ := derivePosition_tag a e
      have hrest := ih (derivePosition a e)
      simp only [tags] at hrest
      simp only [rederiveBehind, tags, List.map_cons, hid, hinherited, hrest]
  cases xs with
  | nil => rfl
  | cons e rest => exact congrArg (List.cons _) (hbehind e rest)

theorem aheadOf_of_tags (h : tags ys = tags xs) (ha : aheadOf id xs = some a) :
    ∃ k, aheadOf id ys = some k ∧ k.id = a.id ∧ k.inherited = a.inherited := by
  induction xs generalizing ys with
  | nil => cases ha
  | cons x rest ih =>
    cases rest with
    | nil => cases ha
    | cons y rest =>
      obtain ⟨x', ys, rfl⟩ := List.exists_cons_of_ne_nil (l := ys) (by rintro rfl; simp [tags] at h)
      obtain ⟨y', ys, rfl⟩ := List.exists_cons_of_ne_nil (l := ys) (by rintro rfl; simp [tags] at h)
      obtain ⟨hx, htail⟩ := List.cons.inj h
      obtain ⟨hy, -⟩ := List.cons.inj htail
      obtain ⟨hxid, hxin⟩ := Prod.mk.inj hx
      obtain ⟨hyid, -⟩ := Prod.mk.inj hy
      simp only [aheadOf] at ha ⊢
      rw [hyid]
      split at ha
      next hid =>
        obtain rfl := Option.some.inj ha
        exact ⟨x', if_pos hid, hxid, hxin⟩
      next hid =>
        rw [if_neg hid]
        exact ih htail ha

/-- The entry ahead of a batch, where that batch is inherited. -/
theorem inherited_ahead (h : tags ys = tags xs) (hu : (xs.map (·.id)).Nodup) (ha : aheadOf id xs = some a) (hin : a.inherited = true) :
    ∃ k, aheadOf id ys = some k ∧ findEntry k.id ys = some k ∧ k.inherited = true := by
  obtain ⟨k, hk, -, hkin⟩ := aheadOf_of_tags h ha
  exact ⟨k, hk, findEntry_of_mem (tags_ids h ▸ hu) (aheadOf_mem hk), hkin.trans hin⟩

theorem firstOpen_mem (hu : (xs.map (·.id)).Nodup) (h : firstOpen xs = some (a, e, i)) :
    aheadOf e.id xs = some a ∧ e ∈ xs ∧ e.leading = some i ∧ anchorable i = true := by
  induction xs with
  | nil => cases h
  | cons x rest ih =>
    cases rest with
    | nil => cases h
    | cons y rest =>
      obtain ⟨-, hu'⟩ := List.nodup_cons.mp hu
      have hlater (h : firstOpen (y :: rest) = some (a, e, i)) :
          aheadOf e.id (x :: y :: rest) = some a ∧ e ∈ x :: y :: rest ∧ e.leading = some i ∧ anchorable i = true := by
        obtain ⟨ha, he, hi⟩ := ih hu' h
        refine ⟨?_, List.mem_cons_of_mem _ he, hi⟩
        have hne : y.id ≠ e.id := fun hid =>
          (List.nodup_cons.mp hu').1 (by simpa [hid] using aheadOf_tail ha)
        simp only [aheadOf, beq_iff_eq, hne, if_false]
        exact ha
      rw [firstOpen] at h
      split at h
      next j hj =>
        split at h
        next hopen =>
          obtain ⟨rfl, rfl, rfl⟩ := Option.some.inj h
          exact ⟨by simp [aheadOf], by simp, hj, hopen⟩
        next => exact hlater h
      next => exact hlater h

end

/-! ### What keeps an anchored interface and the channels -/

/-- An interface that keeps its place, its method and its snapshot. -/
structure Stays (i j : Interface) : Prop where
  pos : j.pos = i.pos
  residual : j.residual = i.residual
  method : j.method = i.method
  snapshot : j.snapshot = i.snapshot
  track : j.track = i.track ∨ j.track = .cleared

/-- What the parts of an ACCEPT behind its anchor leave of the interface, the channels, the tracker and the reply. -/
structure Rests (id : Nat) (s t : State) : Prop where
  sLast : t.lt.sLast = s.lt.sLast
  gap : t.lt.gap = s.lt.gap
  sd : t.sd = s.sd
  li : t.li = s.li
  handed : s.handed ⊆ t.handed
  entry : ∀ e ∈ t.lt.train, e.id = id →
    ∃ x ∈ s.lt.train, x.id = id ∧ ∃ g : Interface → Interface, (∀ i, Stays i (g i)) ∧ e.leading = x.leading.map g
  last : LastIn id s.lt.train → LastIn id t.lt.train

section
variable {id k : Nat} {i j : Interface} {e x : Entry} {s t u : State}

theorem Stays.refl (i : Interface) : Stays i i := ⟨rfl, rfl, rfl, rfl, .inl rfl⟩

theorem Stays.trans {i j k : Interface} (h : Stays i j) (h' : Stays j k) : Stays i k :=
  ⟨h'.pos.trans h.pos, h'.residual.trans h.residual, h'.method.trans h.method, h'.snapshot.trans h.snapshot,
    h'.track.elim (fun hk => hk ▸ h.track) .inr⟩

theorem Settled.stays (h : Settled i j) : Stays i j := by
  obtain ⟨tr, mf, rfl⟩ : ∃ tr mf, j = { i with track := tr, mfResult := mf } := ⟨_, _, h.1⟩
  exact ⟨rfl, rfl, rfl, rfl, h.2⟩

theorem Rests.trans (h : Rests id s t) (h' : Rests id t u) : Rests id s u := by
  refine ⟨h'.sLast.trans h.sLast, h'.gap.trans h.gap, h'.sd.trans h.sd, h'.li.trans h.li, fun _ hx => h'.handed (h.handed hx), fun e he hid => ?_,
    h'.last ∘ h.last⟩
  obtain ⟨x, hx, hxid, g, hg, hleading⟩ := h'.entry e he hid
  obtain ⟨y, hy, hyid, f, hf, hleading'⟩ := h.entry x hx hxid
  exact ⟨y, hy, hyid, g ∘ f, fun i => (hf i).trans (hg _), by rw [hleading, hleading', Option.map_map]⟩

/-- A step that leaves the train, the tracker, the channels and the reply alone. -/
theorem Rests.of_frame {cp : CutPlanner} {rc : RouteController} {c : Option ConfirmRecord} {hd : List Instr} (h : s.handed ⊆ hd) :
    Rests id s { s with lt := { s.lt with confirm := c }, cp := cp, rc := rc, handed := hd } :=
  ⟨rfl, rfl, rfl, rfl, h, fun e he hid => ⟨e, he, hid, fun i => i, .refl, by simp⟩, fun h => h⟩

theorem Rests.refl (id : Nat) (s : State) : Rests id s s := .of_frame (c := s.lt.confirm) (fun _ h => h)

theorem Rests.hand (s : State) (i : Instr) : Rests id s (s.hand i) := .of_frame (c := s.lt.confirm) (List.subset_append_left ..)

theorem Rests.setCp (s : State) (cp : CutPlanner) : Rests id s { s with cp := cp } := .of_frame (c := s.lt.confirm) (fun _ h => h)

theorem Rests.post (s : State) (k : EventKind) (n : Nat) (d : Int) : Rests id s (s.post k n d) := .hand ..

theorem Rests.compare (s : State) : Rests id s (Machine.compare s) := by
  obtain ⟨rc, more, h⟩ := compare_frame s
  rw [h]
  exact .of_frame (c := s.lt.confirm) (List.subset_append_left ..)

theorem Rests.modEntry {f : Entry → Entry} (hf : ∀ e, (f e).id = e.id) {g : Interface → Interface} (hg : ∀ i, Stays i (g i))
    (hleading : ∀ e, (f e).leading = e.leading.map g) (s : State) : Rests id s (s.setTrain (modEntry k f s.lt.train)) := by
  refine ⟨rfl, rfl, rfl, rfl, fun _ h => h, fun e he hid => ?_, lastIn_map (changed_id hf)⟩
  obtain ⟨x, hx, rfl⟩ := List.mem_map.mp he
  rw [← changed] at hid ⊢
  rw [changed_id hf] at hid
  refine ⟨x, hx, hid, ?_⟩
  by_cases hk : x.id = k
  · rw [changed_self hk]
    exact ⟨g, hg, hleading x⟩
  · rw [changed_other hk]
    exact ⟨fun i => i, .refl, by simp⟩

theorem Rests.modInterface {g : Interface → Interface} (hg : ∀ i, Stays i (g i)) (s : State) :
    Rests id s (s.setTrain (modInterface k g s.lt.train)) :=
  .modEntry (f := fun e => { e with leading := e.leading.map g }) (fun _ => rfl) hg (fun _ => rfl) s

/-- A change of an entry's marks. -/
theorem Rests.marks {f : Entry → Entry} (hf : ∀ e, (f e).id = e.id) (hleading : ∀ e, (f e).leading = e.leading) (s : State) :
    Rests id s (s.setTrain (Machine.modEntry k f s.lt.train)) := .modEntry hf (g := fun i => i) .refl (by simpa using hleading) s

theorem Rests.markBatch (f : TicketFlags → TicketFlags) (s : State) : Rests id s (s.setTrain (Machine.markBatch k f s.lt.train)) :=
  .marks (fun e => by split <;> rfl) (fun e => by split <;> rfl) s

theorem Beside.rests (h : Beside id s t) : Rests id s t := by
  refine ⟨by rw [h.frame], by rw [h.frame], by rw [h.frame], by rw [h.frame], h.handed.subset, fun e he hid => ?_, h.last⟩
  obtain ⟨x, hx, hxe⟩ := h.entry e he hid
  obtain ⟨g, hg, hleading⟩ := hxe.leading
  exact ⟨x, hx, hxe.id ▸ hid, g, fun i => (hg i).stays, hleading⟩

/-! ### A confirmation given up and points supplied (R70, R76) -/

theorem tags_considerConfirm (s : State) : tags (considerConfirm s).lt.train = tags s.lt.train := by
  have hloop : ∀ n u, tags (confirmLoop n u).lt.train = tags u.lt.train := fun n => by
    induction n with
    | zero => exact fun u => rfl
    | succ n ih =>
      intro u
      unfold confirmLoop
      split
      · rfl
      · split
        · rfl
        · dsimp only
          split
          · rfl
          · split
            · exact (ih _).trans (tags_modInterface ..)
            · split
              · rfl
              · unfold openConfirm
                dsimp only
                split <;> rfl
  exact hloop ..

theorem giveUp_beside (id : Nat) (ho : Option HandOff) (s : State) : Beside id s (giveUp ho s)
    ∧ tags (giveUp ho s).lt.train = tags s.lt.train := by
  have hend : ∀ k, Beside id s (endConfirm k 3 s) ∧ tags (endConfirm k 3 s).lt.train = tags s.lt.train := fun k =>
    ⟨((Beside.setConfirm id s none).trans (.noConfirm ..)).trans (.considerConfirm ..),
      (tags_considerConfirm _).trans (tags_modInterface ..)⟩
  unfold giveUp confirmGivenUp
  split
  · split
    · split
      · split
        · exact hend _
        · exact ⟨.refl id s, rfl⟩
      · exact ⟨.refl id s, rfl⟩
    · exact ⟨.refl id s, rfl⟩
  · exact ⟨.refl id s, rfl⟩

/-- R76: points supplied to the Cut Planner. -/
theorem supplyPoints_rests (id k pos : Nat) (own : Levels (Option Nat)) (s : State) : Rests id s (supplyPoints k pos own s)
    ∧ tags (supplyPoints k pos own s).lt.train = tags s.lt.train ∧ (supplyPoints k pos own s).cp = s.cp
    ∧ (supplyPoints k pos own s).rc = s.rc := by
  unfold supplyPoints supplyWith
  split
  · exact ⟨.refl id s, rfl, rfl, rfl⟩
  · split
    · exact ⟨.refl id s, rfl, rfl, rfl⟩
    · dsimp only
      split
      · exact ⟨.refl id s, rfl, rfl, rfl⟩
      · refine ⟨.trans (.modInterface (by exact fun i => ⟨rfl, rfl, rfl, rfl, .inl rfl⟩) s) (.hand ..), tags_modInterface .., rfl, rfl⟩

end

end Sys2Proof.Proofs.Windows
end

section
/-! The parts of an accepted ACCEPT (O38). -/
namespace Sys2Proof.Proofs.Windows

open Sys2Proof Sys2Proof.Machine
open Sys2Proof.Proofs.Answers
open Sys2Proof.Proofs.Planner
open Sys2Proof.Proofs.Train

/-! ### The snapshot (R89, R101) -/

/-- A train whose entries keep their IDs, their interfaces and their places. -/
def Marked (xs ys : List Entry) : Prop := ∃ g : Entry → Entry, ys = xs.map g
  ∧ ∀ x, (g x).id = x.id ∧ (g x).leading = x.leading ∧ (g x).base = x.base ∧ (g x).inherited = x.inherited

section
variable {id : Nat} {ch : Channel} {a e : Entry} {i : Interface} {sn : Snapshot} {d : Int} {s : State} {xs ys zs : List Entry}

theorem Marked.refl (xs : List Entry) : Marked xs xs := ⟨fun x => x, by simp, fun _ => ⟨rfl, rfl, rfl, rfl⟩⟩

theorem Marked.trans (h : Marked xs ys) (k : Marked ys zs) : Marked xs zs := by
  obtain ⟨f, rfl, hf⟩ := h
  obtain ⟨g, rfl, hg⟩ := k
  refine ⟨g ∘ f, by rw [List.map_map], fun x => ?_⟩
  obtain ⟨hid, hleading, hbase, hin⟩ := hf x
  obtain ⟨hid', hleading', hbase', hin'⟩ := hg (f x)
  exact ⟨hid'.trans hid, hleading'.trans hleading, hbase'.trans hbase, hin'.trans hin⟩

/-- An entry with a ticket flag, unless it is COMPLETE. -/
def flagged (f : TicketFlags → TicketFlags) (e : Entry) : Entry :=
  if e.complete then e else { e with delivery := { e.delivery with flags := f e.delivery.flags } }

theorem flagged_field {α : Type} {p : Entry → α} (f : TicketFlags → TicketFlags) (hp : ∀ e d, p { e with delivery := d } = p e)
    (e : Entry) : p (flagged f e) = p e := by
  unfold flagged
  split
  · rfl
  · exact hp ..

theorem marked_markBatch (k : Nat) (f : TicketFlags → TicketFlags) (xs : List Entry) : Marked xs (markBatch k f xs) :=
  ⟨changed k (flagged f), rfl, fun x => ⟨changed_field (flagged_field f fun _ _ => rfl) x, changed_field (flagged_field f fun _ _ => rfl) x,
    changed_field (flagged_field f fun _ _ => rfl) x, changed_field (flagged_field f fun _ _ => rfl) x⟩⟩

theorem supplyDefault_frame (e : Entry) (d : Int) (s : State) : ∃ ys more, supplyDefault e d s
    = { s with lt := { s.lt with train := ys }, handed := s.handed ++ more } ∧ Marked s.lt.train ys
    ∧ more = if e.disposition = none then [.eventPosted .defaultDisposition e.id d] else [] := by
  unfold supplyDefault
  cases hd : e.disposition with
  | some x => exact ⟨s.lt.train, [], by simp, .refl _, by simp⟩
  | none => exact ⟨_, [.eventPosted .defaultDisposition e.id d], rfl, marked_markBatch .., by simp⟩

/-- R89, R109: what the taking of a snapshot leaves. -/
theorem takeSnapshot_frame (a e : Entry) (sn : Snapshot) (s : State) : ∃ ys, takeSnapshot a e sn s
    = { s with
        lt := { s.lt with train := ys }
        handed := s.handed ++ ((if a.disposition = none then [.eventPosted .defaultDisposition a.id 1] else [])
          ++ (if e.disposition = none then [.eventPosted .defaultDisposition e.id 2] else [])) }
    ∧ Marked (modInterface e.id (fun i => { i with snapshot := some sn }) s.lt.train) ys := by
  obtain ⟨ys, m1, h1, hmarked, rfl⟩ := supplyDefault_frame a 1
    (s.setTrain (modInterface e.id (fun i => { i with snapshot := some sn }) s.lt.train))
  obtain ⟨zs, m2, h2, hmarked', rfl⟩ := supplyDefault_frame e 2
    (supplyDefault a 1 (s.setTrain (modInterface e.id (fun i => { i with snapshot := some sn }) s.lt.train)))
  refine ⟨zs, ?_, hmarked.trans ?_⟩
  · rw [takeSnapshot, h2, h1]
    simp
  · rw [h1] at hmarked'
    exact hmarked'

theorem Marked.only (h : Marked xs ys) (honly : ∀ y ∈ xs, y.id = id → y.leading = some i) : ∀ y ∈ ys, y.id = id → y.leading = some i := by
  obtain ⟨g, rfl, hg⟩ := h
  intro y hy hid
  obtain ⟨x, hx, rfl⟩ := List.mem_map.mp hy
  obtain ⟨hxid, hleading, -⟩ := hg x
  rw [hleading, honly x hx (hxid ▸ hid)]

theorem Marked.tags (h : Marked xs ys) : tags ys = tags xs := by
  obtain ⟨g, rfl, hg⟩ := h
  rw [Windows.tags, List.map_map]
  refine List.map_congr_left fun x _ => ?_
  obtain ⟨hid, -, -, hin⟩ := hg x
  rw [Function.comp, hid, hin]

theorem Marked.aheadOf (h : Marked xs ys) (ha : aheadOf id xs = some a) : ∃ a', Machine.aheadOf id ys = some a' ∧ a'.reference = a.reference := by
  obtain ⟨g, rfl, hg⟩ := h
  refine ⟨g a, by rw [aheadOf_map fun e => (hg e).1, ha]; rfl, ?_⟩
  obtain ⟨-, hleading, hbase, -⟩ := hg a
  rw [Entry.reference, Entry.reference, hleading, hbase]

theorem Marked.interfaceOf (h : Marked xs ys) : interfaceOf id ys = Machine.interfaceOf id xs := by
  obtain ⟨g, rfl, hg⟩ := h
  rw [Machine.interfaceOf, Machine.interfaceOf, findEntry_map fun e => (hg e).1]
  cases findEntry id xs with
  | none => rfl
  | some e => exact (hg e).2.1

/-- The entry ahead of an interface that changes keeps its place. -/
theorem aheadOf_modInterface {g : Interface → Interface} (hu : (xs.map (·.id)).Nodup) (ha : aheadOf id xs = some a) :
    aheadOf id (modInterface id g xs) = some a := by
  have hne : a.id ≠ id := by
    have hbehind := behindOf_of_aheadOf hu ha
    obtain ⟨e, he, hid⟩ := List.mem_map.mp (List.mem_of_mem_tail (aheadOf_tail ha))
    have hfind : findEntry id xs = some e := hid ▸ findEntry_of_mem hu he
    rw [hfind] at hbehind
    have hne := behindOf_ne hu hbehind
    rw [hid] at hne
    exact hne.symm
  exact (aheadOf_map (changed_id (f := fun e => { e with leading := e.leading.map g }) fun _ => rfl)).trans
    (by rw [ha, Option.map_some, changed_other hne])

/-- The state in which an excursion's ACCEPT is anchored. -/
structure Opened (ch : Channel) (id : Nat) (a : Entry) (i j : Interface) (s t : State) : Prop where
  frame : t = { s with lt := { s.lt with train := t.lt.train }, handed := t.handed }
  handed : s.handed ⊆ t.handed
  interface : interfaceOf id t.lt.train = some j
  only : ∀ y ∈ t.lt.train, y.id = id → y.leading = some j
  ahead : ∃ a', aheadOf id t.lt.train = some a' ∧ a'.reference = a.reference
  tags : tags t.lt.train = tags s.lt.train
  pos : j.pos = i.pos
  track : j.track = i.track
  snapshot : ∃ sn, j.snapshot = some sn ∧ sn.primary = some ch

theorem opened_acceptSnapshot (hu : (s.lt.train.map (·.id)).Nodup) (ha : aheadOf e.id s.lt.train = some a) (he : e ∈ s.lt.train)
    (hi : e.leading = some i) (hopen : i.track = .far ∨ i.track = .window) (hsn : i.track = .window → i.snapshot.isSome) :
    ∃ j, Opened ch e.id a i j s (acceptSnapshot ch a e i s) := by
  have hinterface : interfaceOf e.id s.lt.train = some i := interfaceOf_eq_some.mpr ⟨e, findEntry_of_mem hu he, hi⟩
  have honly := only_interface hu hinterface
  unfold acceptSnapshot
  by_cases hfar : i.track = .far
  · rw [if_pos hfar]
    obtain ⟨ys, hframe, hmarked⟩ := takeSnapshot_frame a e
      (formSnapshot s a e i (some ch) (some (windowContrast s ch a e)) false) s
    rw [hframe]
    refine ⟨_, rfl, List.subset_append_left .., hmarked.interfaceOf.trans (interfaceOf_modInterface hinterface),
      hmarked.only (only_modInterface honly), hmarked.aheadOf (aheadOf_modInterface hu ha), hmarked.tags.trans (tags_modInterface ..),
      rfl, rfl, _, rfl, rfl⟩
  · obtain ⟨sn, hsn⟩ := Option.isSome_iff_exists.mp (hsn (hopen.resolve_left hfar))
    rw [if_neg hfar]
    have hrelease : ∃ more, releaseOther ch e.id (s.setTrain (modInterface e.id (movePrimary ch) s.lt.train))
        = { s with lt := { s.lt with train := modInterface e.id (movePrimary ch) s.lt.train }, handed := s.handed ++ more } := by
      unfold releaseOther
      split
      · split
        · exact ⟨_, rfl⟩
        · exact ⟨[], by simp [State.setTrain]⟩
      · exact ⟨[], by simp [State.setTrain]⟩
    obtain ⟨more, hmore⟩ := hrelease
    rw [hmore]
    exact ⟨_, rfl, List.subset_append_left .., interfaceOf_modInterface hinterface, only_modInterface honly,
      ⟨a, aheadOf_modInterface hu ha, rfl⟩, tags_modInterface .., rfl, rfl, { sn with primary := some ch }, by simp [movePrimary, hsn], rfl⟩

end

/-! ### The channel (R79) -/

section
variable {id : Nat} {ch : Channel} {ho : HandOff} {x : Excursion} {s : State}

/-- R79: the channel takes the interface, its record closed. -/
theorem acceptExcursion_rests (id : Nat) (hx : (s.sd.get ch).excursion = some x) : ∃ c,
    c.excursion = some { x with decision := .accept, isOpen := false, endS := some (s.sd.get ch).lastS }
      ∧ Rests id (s.setChannel ch c) (acceptExcursion ch ho s) ∧ tags (acceptExcursion ch ho s).lt.train = tags s.lt.train
      ∧ (acceptExcursion ch ho s).cp = s.cp ∧ (acceptExcursion ch ho s).rc = s.rc := by
  have hgive : ∀ (w : Option HandOff) (c : ChannelState), Rests id (s.setChannel ch c) (giveUp w (s.setChannel ch c))
      ∧ tags (giveUp w (s.setChannel ch c)).lt.train = tags s.lt.train ∧ (giveUp w (s.setChannel ch c)).cp = s.cp
      ∧ (giveUp w (s.setChannel ch c)).rc = s.rc := fun w c => by
    obtain ⟨hbeside, htags⟩ := giveUp_beside id w (s.setChannel ch c)
    exact ⟨hbeside.rests, htags, by rw [hbeside.frame]; rfl, by rw [hbeside.frame]; rfl⟩
  unfold acceptExcursion
  dsimp only
  rw [hx]
  split
  · obtain ⟨hrests, htags, hcp, hrc⟩ := hgive (s.sd.get ch).waiting _
    split
    · obtain ⟨hrests', htags', hcp', hrc'⟩ := supplyPoints_rests id ho.batch _ (.all none) (giveUp (s.sd.get ch).waiting (s.setChannel ch _))
      exact ⟨_, rfl, hrests.trans hrests', htags'.trans htags, hcp'.trans hcp, hrc'.trans hrc⟩
    · exact ⟨_, rfl, hrests, htags, hcp, hrc⟩
  · obtain ⟨hrests, htags, hcp, hrc⟩ := hgive (s.sd.get ch).waiting _
    exact ⟨_, rfl, hrests, htags, hcp, hrc⟩

end

end Sys2Proof.Proofs.Windows
end

section
/-! The host's decision on an excursion (O38). -/
namespace Sys2Proof.Proofs.Windows

open Sys2Proof Sys2Proof.Machine
open Sys2Proof.Proofs.Answers
open Sys2Proof.Proofs.Planner
open Sys2Proof.Proofs.Train

/-! ### The protection taken over (R122) -/

section
variable {id k : Nat} {ch : Channel} {tr : Int} {left : Bool} {m : Protection} {s t : State}

theorem removeZoneDivert_rests (id k : Nat) (s : State) : Rests id s (removeZoneDivert k s) := by
  unfold removeZoneDivert
  split
  · exact ((Rests.setCp s _).trans (.marks (by exact fun _ => rfl) (by exact fun _ => rfl) _)).trans (.hand ..)
  · exact .refl id s

theorem measureTrailing_rests (id k b : Nat) (s : State) : Rests id s (measureTrailing k b s).1 := by
  have hmeasured : Rests id s (setMeasured k s) := .marks (by exact fun _ => rfl) (by exact fun _ => rfl) s
  unfold measureTrailing
  split
  · exact .refl id s
  · dsimp only
    split
    · split
      · exact (((hmeasured.trans (.setCp ..)).trans (removeZoneDivert_rests ..)).trans (.markBatch ..)).trans (.post ..)
      · exact hmeasured.trans (.post ..)
    · exact hmeasured

/-- The entry whose DIVERT a PROTECT stands as. -/
def standing (tr : Int) (left : Bool) (e : Entry) : Entry :=
  { e with
    protectStands := true
    firstLeft := e.firstLeft || left
    firstTrigger := if e.firstTrigger.isNone then some tr else e.firstTrigger }

theorem standAsDivert_rests (id : Nat) (tr : Int) (left : Bool) (s : State) : Rests id s (standAsDivert id tr left s) := by
  have hstands : Rests id s (s.setTrain (modEntry id (standing tr left) s.lt.train)) :=
    .marks (by exact fun _ => rfl) (by exact fun _ => rfl) s
  unfold standAsDivert
  dsimp only
  split
  · split
    · exact hstands.trans (measureTrailing_rests ..)
    · exact hstands
  · exact hstands

/-- Behind an inherited batch nothing is measured (R123). -/
theorem standAsDivert_inherited {a : Entry} (ha : aheadOf id s.lt.train = some a) (hin : a.inherited = true)
    (hu : (s.lt.train.map (·.id)).Nodup) : standAsDivert id tr left s = s.setTrain (modEntry id (standing tr left) s.lt.train) := by
  obtain ⟨b, hb, hfind, hbin⟩ := inherited_ahead (tags_modEntry (f := standing tr left) (fun _ => rfl) (fun _ => rfl) id s.lt.train)
    hu ha hin
  have hmeasure : measureTrailing b.id id (s.setTrain (modEntry id (standing tr left) s.lt.train))
      = (s.setTrain (modEntry id (standing tr left) s.lt.train), false) := by
    simp only [measureTrailing, cleanVolume_inherited (s := s.setTrain (modEntry id (standing tr left) s.lt.train)) hfind hbin]
  have hb' : aheadOf id (s.setTrain (modEntry id (standing tr left) s.lt.train)).lt.train = some b := hb
  unfold standAsDivert
  dsimp only
  split
  · split
    next c hc =>
      obtain rfl : c = b := Option.some.inj (hc.symm.trans hb')
      exact congrArg Prod.fst hmeasure
    next => rfl
  · rfl

/-- The Cut Planner with a channel's protection released. -/
def freed (ch : Channel) (cp : CutPlanner) : CutPlanner :=
  { cp with protectedMark := cp.protectedMark.set ch none, protectCount := cp.protectCount.set ch (cp.protectCount.get ch - 1) }

theorem protectTakeover_eq (hm : s.cp.protectedMark.get ch = some m) : protectTakeover ch id s =
    if s.cp.actions.any (fun a => a.kind == .protect && a.number == m.number) then
      standAsDivert id m.trigger false { s with cp := { freed ch s.cp with actions := s.cp.actions.map (takeOverAction m.number id) } }
    else match s.cp.plan with
      | some pl =>
        if pl.kind = .protect then standAsDivert id m.trigger true
          (compare { s with cp := { freed ch s.cp with plan := some { pl with kind := .transmix, owner := id } } })
        else { s with cp := freed ch s.cp }
      | none => { s with cp := freed ch s.cp } := by
  rw [protectTakeover, hm]
  rfl

theorem protectTakeover_unmarked (hm : s.cp.protectedMark.get ch = none) : protectTakeover ch id s = s := by
  rw [protectTakeover, hm]

theorem protectTakeover_rests (id : Nat) (ch : Channel) (s : State) : Rests id s (protectTakeover ch id s) := by
  cases hm : s.cp.protectedMark.get ch with
  | none =>
    rw [protectTakeover_unmarked hm]
    exact .refl id s
  | some m =>
    rw [protectTakeover_eq hm]
    split
    · exact (Rests.setCp ..).trans (standAsDivert_rests ..)
    · split
      · split
        · exact ((Rests.setCp ..).trans (.compare _)).trans (standAsDivert_rests ..)
        · exact .setCp ..
      · exact .setCp ..

/-- The PROTECT of a mark stands in the list. -/
def MarkHeld (m : Protection) (y : Action) : Prop := y.kind = .protect ∧ y.number = m.number

theorem markHeld_any : s.cp.actions.any (fun a => a.kind == .protect && a.number == m.number) = true ↔ ∃ y ∈ s.cp.actions, MarkHeld m y := by
  simp [MarkHeld]

/-- The batch's entries stand with a PROTECT as their DIVERT. -/
def Standing (id : Nat) (t : State) : Prop := ∀ e ∈ t.lt.train, e.id = id → e.protectStands = true

theorem standing_modEntry (xs : List Entry) : ∀ e ∈ modEntry id (standing tr left) xs, e.id = id → e.protectStands = true := by
  intro e he hid
  obtain ⟨x, hx, rfl⟩ := List.mem_map.mp he
  by_cases hxid : x.id = id
  · simp [hxid, standing]
  · simp [hxid] at hid

/-- R122: the PROTECT in the list becomes the interface's DIVERT. -/
theorem protectTakeover_held {a : Entry} (hm : s.cp.protectedMark.get ch = some m) (ha : aheadOf id s.lt.train = some a)
    (hin : a.inherited = true) (hu : (s.lt.train.map (·.id)).Nodup) (hheld : ∃ y ∈ s.cp.actions, MarkHeld m y) :
    (protectTakeover ch id s).cp = { freed ch s.cp with actions := s.cp.actions.map (takeOverAction m.number id) }
      ∧ Standing id (protectTakeover ch id s) := by
  rw [protectTakeover_eq hm, if_pos (markHeld_any.mpr hheld), standAsDivert_inherited (by exact ha) hin (by exact hu)]
  exact ⟨rfl, standing_modEntry _⟩

/-- R122: a plan line-up of kind PROTECT becomes one of kind TRANSMIX owned by the batch. -/
theorem protectTakeover_plan {a : Entry} {pl : Plan} (hm : s.cp.protectedMark.get ch = some m) (ha : aheadOf id s.lt.train = some a)
    (hin : a.inherited = true) (hu : (s.lt.train.map (·.id)).Nodup) (hnone : ∀ y ∈ s.cp.actions, ¬MarkHeld m y)
    (hp : s.cp.plan = some pl) (hk : pl.kind = .protect) :
    (protectTakeover ch id s).cp = { freed ch s.cp with plan := some { pl with kind := .transmix, owner := id } }
      ∧ Standing id (protectTakeover ch id s) := by
  have hany : ¬(s.cp.actions.any (fun a => a.kind == .protect && a.number == m.number) = true) := fun h => by
    obtain ⟨y, hy, hyheld⟩ := markHeld_any.mp h
    exact hnone y hy hyheld
  obtain ⟨rc, more, hcompare⟩ := compare_frame
    { s with cp := { freed ch s.cp with plan := some { pl with kind := .transmix, owner := id } } }
  rw [protectTakeover_eq hm, if_neg hany, hp]
  simp only [hk, if_true, hcompare]
  rw [standAsDivert_inherited (by exact ha) hin (by exact hu)]
  exact ⟨rfl, standing_modEntry _⟩

/-- R122: a protection of neither form is only released. -/
theorem protectTakeover_released (hm : s.cp.protectedMark.get ch = some m) (hnone : ∀ y ∈ s.cp.actions, ¬MarkHeld m y)
    (hp : ∀ pl, s.cp.plan = some pl → pl.kind ≠ .protect) : protectTakeover ch id s = { s with cp := freed ch s.cp } := by
  have hany : ¬(s.cp.actions.any (fun a => a.kind == .protect && a.number == m.number) = true) := fun h => by
    obtain ⟨y, hy, hyheld⟩ := markHeld_any.mp h
    exact hnone y hy hyheld
  rw [protectTakeover_eq hm, if_neg hany]
  split
  next pl hpl => exact if_neg (hp pl hpl)
  next => rfl

end

/-! ### An accepted ACCEPT -/

section
variable {ch : Channel} {a e : Entry} {i j : Interface} {x : Excursion} {s : State}

theorem reportCeased_frame (b : Bool) (s : State) : ∃ more, reportCeased b s = { s with handed := s.handed ++ more } := by
  unfold reportCeased
  split
  · exact ⟨_, rfl⟩
  · exact ⟨[], by simp⟩

/-- The steps of an accepted ACCEPT: the interface opened, anchored, taken by the channel, and what follows. -/
structure Accepted (ch : Channel) (a e : Entry) (i j : Interface) (x : Excursion) (s s1 s2 s3 w : State) (c : ChannelState) : Prop where
  opened : Opened ch e.id a i j s s1
  anchored : Anchored e.id (anchoredPosition s.tables .host (acceptValue s ch x.start) a.reference) .host j s1 s2
  closed : c.excursion = some { x with decision := .accept, isOpen := false, endS := some (s.sd.get ch).lastS }
  channel : Rests e.id (s2.setChannel ch c) s3
  tags : tags s3.lt.train = tags s.lt.train
  cp : s3.cp = s.cp
  rc : s3.rc = s.rc
  after : Beside e.id (protectTakeover ch e.id s3) w

/-- The anchored interface is not FAR again. -/
theorem Anchored.rests_notFar {id p : Nat} {src : AnchorSource} {s2 s3 : State} {c : ChannelState} (h : Anchored id p src j s s2)
    (hrests : Rests id (s2.setChannel ch c) s3) : NotFar id s3.lt.train := by
  intro y hy hid k hk
  obtain ⟨z, hz, hzid, g, hg, hleading⟩ := hrests.entry y hy hid
  rw [hleading, h.only z hz hzid] at hk
  obtain rfl := Option.some.inj hk
  rcases (hg (Windows.anchoredAt p src j)).track with htrack | htrack <;> rw [htrack] <;> simp [Windows.anchoredAt]

theorem tags_anchorInterface (id : Nat) (v : Int) (src : AnchorSource) (s : State) :
    tags (anchorInterface id v src s).lt.train = tags s.lt.train := by
  unfold anchorInterface
  split
  · split
    · dsimp only
      split <;> exact (tags_rederive _).trans (tags_modInterface ..)
    · rfl
  · rfl

theorem interfaceOf_of_only {id : Nat} {xs : List Entry} (hin : id ∈ xs.map (·.id)) (honly : ∀ y ∈ xs, y.id = id → y.leading = some i) :
    interfaceOf id xs = some i := by
  obtain ⟨y, hy, hid⟩ := List.mem_map.mp hin
  obtain ⟨z, hz⟩ : ∃ z, findEntry id xs = some z := by
    rw [← Option.isSome_iff_exists, findEntry, List.find?_isSome]
    exact ⟨y, hy, by simpa using hid⟩
  exact interfaceOf_eq_some.mpr ⟨z, hz, honly z (List.mem_of_find?_eq_some hz) (findEntry_id hz)⟩

theorem accepted_hostAccept (hu : (s.lt.train.map (·.id)).Nodup) (ha : aheadOf e.id s.lt.train = some a) (he : e ∈ s.lt.train)
    (hi : e.leading = some i) (hopen : i.track = .far ∨ i.track = .window) (hsn : i.track = .window → i.snapshot.isSome)
    (hx : (s.sd.get ch).excursion = some x) :
    ∃ j s1 s2 s3 w c, Accepted ch a e i j x s s1 s2 s3 w c ∧ hostAccept ch x.start a e i s = w := by
  obtain ⟨j, hopened⟩ := opened_acceptSnapshot (ch := ch) hu ha he hi hopen hsn
  obtain ⟨s1, hs1⟩ : ∃ u, acceptSnapshot ch a e i s = u := ⟨_, rfl⟩
  rw [hs1] at hopened
  obtain ⟨a', ha', href⟩ := hopened.ahead
  have hanchorable : anchorable j = true := by rcases hopen with h | h <;> simp [anchorable, hopened.track, h]
  have hanchored := anchorInterface_anchored (v := acceptValue s ch x.start) (src := .host) hopened.interface ha' hanchorable hopened.only
  have htables : s1.tables = s.tables := by rw [hopened.frame]
  rw [href, htables] at hanchored
  have htags2 := (tags_anchorInterface e.id (acceptValue s ch x.start) .host s1).trans hopened.tags
  obtain ⟨s2, hs2⟩ : ∃ u, anchorInterface e.id (acceptValue s ch x.start) .host s1 = u := ⟨_, rfl⟩
  rw [hs2] at hanchored htags2
  obtain ⟨hsd, hcp, hrc⟩ : s2.sd = s.sd ∧ s2.cp = s.cp ∧ s2.rc = s.rc := by
    rw [hanchored.frame, hopened.frame]
    exact ⟨rfl, rfl, rfl⟩
  obtain ⟨sn, hsn, -⟩ := hopened.snapshot
  have hin : e.id ∈ s2.lt.train.map (·.id) := tags_ids htags2 ▸ List.mem_map_of_mem he
  have hsnapshot : (interfaceOf e.id s2.lt.train).bind (·.snapshot) = some sn := by
    rw [interfaceOf_of_only hin hanchored.only]
    exact hsn
  obtain ⟨c, hclosed, hrests, htags, hcp', hrc'⟩ := acceptExcursion_rests (ho := handOffOf e.id .primary sn) e.id (x := x)
    (s := s2) (by rw [hsd]; exact hx)
  rw [hsd] at hclosed
  have hchannel : acceptOnChannel ch e.id s2 = acceptExcursion ch (handOffOf e.id .primary sn) s2 := by
    simp only [acceptOnChannel, hsnapshot]
  refine ⟨j, s1, s2, _, _, c, ⟨hopened, hanchored, hclosed, hrests, htags.trans htags2, hcp'.trans hcp, hrc'.trans hrc,
    afterAnchor_beside s1 (hanchored.rests_notFar (hrests.trans (protectTakeover_rests ..)))⟩, ?_⟩
  rw [hostAccept, hs1, hs2, hchannel]

variable {s1 s2 s3 w : State} {c : ChannelState}

theorem Accepted.rests (h : Accepted ch a e i j x s s1 s2 s3 w c) : Rests e.id (s2.setChannel ch c) w :=
  (h.channel.trans (protectTakeover_rests ..)).trans h.after.rests

theorem Accepted.placed (h : Accepted ch a e i j x s s1 s2 s3 w c) :
    w.lt.sLast = anchoredPosition s.tables .host (acceptValue s ch x.start) a.reference ∧ w.lt.gap = 0
      ∧ .eventPosted .interfaceAnchored e.id ((anchoredPosition s.tables .host (acceptValue s ch x.start) a.reference : Int) - i.pos) ∈ w.handed
      ∧ w.sd = s.sd.set ch c ∧ w.li = s.li := by
  have hrests := h.rests
  refine ⟨hrests.sLast.trans ?_, hrests.gap.trans ?_, hrests.handed ?_, hrests.sd.trans ?_, hrests.li.trans ?_⟩
  · rw [h.anchored.frame]
    rfl
  · rw [h.anchored.frame]
    rfl
  · rw [h.anchored.frame, ← h.opened.pos]
    simp
  · rw [h.anchored.frame, h.opened.frame]
    rfl
  · rw [h.anchored.frame, h.opened.frame]
    rfl

theorem Accepted.last (h : Accepted ch a e i j x s s1 s2 s3 w c) (he : findEntry e.id s.lt.train = some e)
    (hlast : behindOf e.id s.lt.train = none) : LastIn e.id s3.lt.train :=
  lastIn_ids (tags_ids h.tags) (lastIn_of_behindOf he hlast)

/-- The interface an ACCEPT leaves, where its batch is still in the train. -/
theorem Accepted.interface (h : Accepted ch a e i j x s s1 s2 s3 w c) {k : Interface} (hk : interfaceOf e.id w.lt.train = some k) :
    let p := anchoredPosition s.tables .host (acceptValue s ch x.start) a.reference
    k.pos = p ∧ k.residual = some ((p : Int) - i.pos) ∧ k.method = some .host ∧ (k.track = .anchored ∨ k.track = .cleared)
      ∧ ∃ sn, k.snapshot = some sn ∧ sn.primary = some ch := by
  intro p
  obtain ⟨y, hy, hky⟩ := interfaceOf_eq_some.mp hk
  obtain ⟨z, hz, hzid, g, hg, hleading⟩ := h.rests.entry y (List.mem_of_find?_eq_some hy) (findEntry_id hy)
  rw [hky, h.anchored.only z hz hzid] at hleading
  have hstays := hg (Windows.anchoredAt p .host j)
  rw [← Option.some.inj hleading] at hstays
  obtain ⟨sn, hsn, hprimary⟩ := h.opened.snapshot
  exact ⟨hstays.pos, by rw [hstays.residual, ← h.opened.pos]; rfl, hstays.method, hstays.track, sn, hstays.snapshot.trans hsn, hprimary⟩

theorem Accepted.interface_last (h : Accepted ch a e i j x s s1 s2 s3 w c) (he : findEntry e.id s.lt.train = some e)
    (hlast : behindOf e.id s.lt.train = none) : (interfaceOf e.id w.lt.train).isSome := by
  have hlast2 : LastIn e.id s2.lt.train := lastIn_ids ((h.anchored.ids).trans (tags_ids h.opened.tags)) (lastIn_of_behindOf he hlast)
  obtain ⟨y, hy⟩ := findEntry_of_last (h.rests.last hlast2)
  obtain ⟨z, hz, hzid, g, -, hleading⟩ := h.rests.entry y (List.mem_of_find?_eq_some hy) (findEntry_id hy)
  rw [h.anchored.only z hz hzid] at hleading
  rw [interfaceOf, hy]
  exact Option.isSome_of_eq_some hleading

/-- The batch stands with the PROTECT as its DIVERT, where it is still in the train. -/
theorem Accepted.stands (h : Accepted ch a e i j x s s1 s2 s3 w c) (hstanding : Standing e.id (protectTakeover ch e.id s3))
    (he : findEntry e.id s.lt.train = some e) (hlast : behindOf e.id s.lt.train = none) :
    ∃ b, findEntry e.id w.lt.train = some b ∧ b.protectStands = true := by
  obtain ⟨y, hy, b, hb, hyid, hsettled⟩ := h.after.findEntry_last ((protectTakeover_rests ..).last (h.last he hlast))
  exact ⟨b, hb, hsettled.stands.trans (hstanding y hy hyid)⟩

end

/-! ### The command -/

section
variable {ch : Channel} {a e : Entry} {i : Interface} {x : Excursion} {d : Nat} {s : State}

theorem channelOfNumber_channelNumber (ch : Channel) : channelOfNumber (channelNumber ch) = some ch := by cases ch <;> rfl

theorem decide_closed (hrun : s.running = true) (hmode : s.sm.mode ≠ .unconfigured) (hd : d = 1 ∨ d = 2)
    (h : (s.sd.get ch).excursion = none ∨ ∃ x, (s.sd.get ch).excursion = some x ∧ x.isOpen = false) :
    exec (.interfaceDecide (channelNumber ch) d) s = .next (s.refuse 0x15 .notFound 0) := by
  have hd' : ∃ c, decisionOf d = some c := by rcases hd with rfl | rfl <;> exact ⟨_, rfl⟩
  obtain ⟨c, hc⟩ := hd'
  simp only [exec, execInterfaceDecide, notice_running hrun hmode, channelOfNumber_channelNumber, hc]
  rcases h with hnone | ⟨x, hx, hopen⟩
  · simp only [hnone]
  · simp only [hx, hopen, Bool.false_eq_true, if_false]

theorem decide_reject (hrun : s.running = true) (hmode : s.sm.mode ≠ .unconfigured) (hx : (s.sd.get ch).excursion = some x)
    (hopen : x.isOpen = true) : exec (.interfaceDecide (channelNumber ch) 2) s = .next ((rejectExcursion ch s).accept 0x15 []) := by
  simp only [exec, execInterfaceDecide, notice_running hrun hmode, channelOfNumber_channelNumber, decisionOf, hx, hopen, if_true,
    reduceCtorEq, if_false]

theorem decide_notFound (hrun : s.running = true) (hmode : s.sm.mode ≠ .unconfigured) (hx : (s.sd.get ch).excursion = some x)
    (hopen : x.isOpen = true) (hnone : firstOpen s.lt.train = none) :
    exec (.interfaceDecide (channelNumber ch) 1) s = .next (s.refuse 0x15 .notFound 0) := by
  simp only [exec, execInterfaceDecide, notice_running hrun hmode, channelOfNumber_channelNumber, decisionOf, hx, hopen, if_true, hnone]

theorem decide_accept (hrun : s.running = true) (hmode : s.sm.mode ≠ .unconfigured) (hx : (s.sd.get ch).excursion = some x)
    (hopen : x.isOpen = true) (hfirst : firstOpen s.lt.train = some (a, e, i)) :
    exec (.interfaceDecide (channelNumber ch) 1) s = .next ((channelEvent (hostAccept ch x.start a e i) s).accept 0x15
      (encBatch (some e.id) ++ encUnsigned 8 (anchoredPosition s.tables .host (acceptValue s ch x.start) a.reference))) := by
  simp only [exec, execInterfaceDecide, notice_running hrun hmode, channelOfNumber_channelNumber, decisionOf, hx, hopen, if_true,
    hfirst]

/-- R17, R101: the position an ACCEPT gives. -/
theorem acceptPosition_eq (ch : Channel) (start reference : Nat) (s : State) :
    anchoredPosition s.tables .host (acceptValue s ch start) reference
      = (let v : Int := if ch = .manifold then (start : Int) - s.tables.params.leadVolume else start
         if v ≤ (reference : Int) then reference + 1 else v.toNat) := by
  cases ch <;> rfl

end

/-- Settles O38. -/
theorem decisionOnAnExcursion : Obligations.DecisionOnAnExcursion := by
  intro ch s hrun hmode
  refine ⟨fun x hx hopen => ⟨?_, fun hnone => ?_, ?_⟩, fun hnot d hd => decide_closed hrun hmode hd hnot⟩
  · rw [decide_reject hrun hmode hx hopen, rejectExcursion, modChannel, hx]
    rfl
  · exact decide_notFound hrun hmode hx hopen hnone
  · intro a e i hfirst hu hsn
    obtain ⟨ha, he, hi, hanchorable⟩ := firstOpen_mem (uniqueIds_train hu) hfirst
    have hfar : i.track = .far ∨ i.track = .window := by simpa [anchorable] using hanchorable
    have hfind := findEntry_of_mem (uniqueIds_train hu) he
    obtain ⟨j, s1, s2, s3, w, c, haccepted, hw⟩ := accepted_hostAccept (uniqueIds_train hu) ha he hi hfar hsn hx
    obtain ⟨more, hceased⟩ := reportCeased_frame (holdsPrimary s) w
    have hexec := decide_accept hrun hmode hx hopen hfirst
    have hevent : channelEvent (hostAccept ch x.start a e i) s = { w with handed := w.handed ++ more } := by
      rw [← hceased, ← hw]
      rfl
    rw [hevent, acceptPosition_eq] at hexec
    obtain ⟨hsLast, hgap, hposted, hsd, hli⟩ := haccepted.placed
    have hinterface := fun k (hk : interfaceOf e.id w.lt.train = some k) => haccepted.interface hk
    rw [acceptPosition_eq] at hsLast hposted hinterface
    have hcp : w.cp = (protectTakeover ch e.id s3).cp := by rw [haccepted.after.frame]
    have hrc : w.rc = (protectTakeover ch e.id s3).rc := by rw [haccepted.after.frame]
    have hu3 : (s3.lt.train.map (·.id)).Nodup := tags_ids haccepted.tags ▸ uniqueIds_train hu
    intro v p
    refine ⟨_, hexec, hsLast, hgap, List.mem_append_left _ hposted, fun hlast => haccepted.interface_last hfind hlast, fun k hk => ?_,
      ?_, ?_, ?_, fun hmark => ?_, ?_⟩
    · obtain ⟨hpos, hresidual, hmethod, htrack, hsnapshot⟩ := hinterface k hk
      exact ⟨hpos, hresidual, hmethod, htrack, hsnapshot⟩
    · have hget : w.sd.get ch = c := by
        rw [hsd]
        cases ch <;> rfl
      exact (congrArg (·.excursion) hget).trans haccepted.closed
    · have hother : w.sd.get (otherChannel ch) = s.sd.get (otherChannel ch) := by
        rw [hsd]
        cases ch <;> rfl
      exact hother
    · have hreply : ∀ payload : List Byte, { w.li with reply := some (⟨0x95, payload⟩ : Reply), assembler := .closed }
          = { s.li with reply := some (⟨0x95, payload⟩ : Reply), assembler := .closed } := fun payload => by rw [hli]
      exact hreply _
    · have hsame := protectTakeover_unmarked (id := e.id) (s := s3) (by rw [haccepted.cp]; exact hmark)
      rw [hsame] at hcp hrc
      exact ⟨hcp.trans haccepted.cp, hrc.trans haccepted.rc⟩
    · intro m hm hin freed' held stands
      have hm3 : s3.cp.protectedMark.get ch = some m := by rw [haccepted.cp]; exact hm
      obtain ⟨k, hk, -, hkin⟩ := inherited_ahead haccepted.tags (uniqueIds_train hu) ha hin
      refine ⟨fun hheld => ?_, fun hnone => ⟨fun pl hpl hkind => ?_, fun hplan => ?_⟩⟩
      · obtain ⟨hcp3, hstanding⟩ := protectTakeover_held (id := e.id) hm3 hk hkin hu3 (by rw [haccepted.cp]; exact hheld)
        refine ⟨?_, fun hlast => haccepted.stands hstanding hfind hlast⟩
        rw [haccepted.cp] at hcp3
        exact hcp.trans hcp3
      · obtain ⟨hcp3, hstanding⟩ := protectTakeover_plan (id := e.id) hm3 hk hkin hu3 (by rw [haccepted.cp]; exact hnone)
          (by rw [haccepted.cp]; exact hpl) hkind
        refine ⟨?_, fun hlast => haccepted.stands hstanding hfind hlast⟩
        rw [haccepted.cp] at hcp3
        exact hcp.trans hcp3
      · have hreleased := protectTakeover_released (id := e.id) hm3 (by rw [haccepted.cp]; exact hnone) (by rw [haccepted.cp]; exact hplan)
        rw [hreleased] at hcp hrc
        exact ⟨hcp.trans (by rw [haccepted.cp]; rfl), hrc.trans haccepted.rc⟩

end Sys2Proof.Proofs.Windows
end

section
/-! A new S opens a window, or places its interface VOLUMETRIC (O49). -/
namespace Sys2Proof.Proofs.Windows

open Sys2Proof Sys2Proof.Machine
open Sys2Proof.Proofs.Answers
open Sys2Proof.Proofs.Planner
open Sys2Proof.Proofs.Train

/-! ### The density ahead (R90) -/

/-- A quotient has one rounding. -/
theorem roundedQuotient_unique {a b q q' : Int} (hb : 0 < b) (h : Safety.RoundedQuotient a b q) (h' : Safety.RoundedQuotient a b q') :
    q = q' := by
  have hle : ∀ {p r : Int}, Safety.RoundedQuotient a b p → Safety.RoundedQuotient a b r → r ≤ p := fun {p r} hp hr => by
    by_contra hlt
    obtain ⟨hnear, hhalf⟩ := hp
    obtain ⟨hnear', hhalf'⟩ := hr
    have hmul : b * (p + 1) ≤ b * r := Int.mul_le_mul_of_nonneg_left (by omega) hb.le
    rw [mul_add, mul_one] at hmul
    rcases lt_or_ge p 0 with hneg | hpos
    · have hsign : b * (p + 1) ≤ 0 := Int.mul_nonpos_of_nonneg_of_nonpos hb.le (by omega)
      rw [mul_add, mul_one] at hsign
      omega
    · have hsign : 0 ≤ b * p := Int.mul_nonneg hb.le hpos
      omega
  exact Int.le_antisymm (hle h' h) (hle h h')

theorem meanOf_rounded {xs : List Int} {ρ : Int} (hne : xs ≠ []) (h : Safety.RoundedQuotient xs.sum xs.length ρ) : meanOf xs = some ρ := by
  cases xs with
  | nil => exact absurd rfl hne
  | cons x rest =>
    have hlength : (0 : Int) < (x :: rest).length := by simp
    exact congrArg some (roundedQuotient_unique hlength (CorrectionFactor.roundedQuotient_roundDiv _ (by omega)) h)

theorem aheadDensity_eq {c : ChannelState} {a : Entry} {ρ : Int} (h : Safety.DensityAhead c a ρ) : aheadDensity c a = ρ := by
  obtain ⟨hclean, helse⟩ := h
  unfold aheadDensity
  split
  next hc =>
    have hlength : 4 ≤ c.body.length := hc.2
    rw [bodyMean, meanOf_rounded (by rintro hnil; simp [hnil] at hlength) (hclean hc.1 hlength), Option.getD_some]
  next hc =>
    refine (helse ?_).symm
    by_contra hnot
    rw [not_or, not_not, Nat.not_lt] at hnot
    exact hc hnot

/-! ### What follows the consideration -/

section
variable {s : State} {xs : List Entry}

theorem considerConfirm_tracker (s : State) : ∃ ys c, (considerConfirm s).lt = { s.lt with train := ys, confirm := c } := by
  have hloop : ∀ n u, ∃ ys c, (confirmLoop n u).lt = { u.lt with train := ys, confirm := c } := fun n => by
    induction n with
    | zero => exact fun u => ⟨_, _, rfl⟩
    | succ n ih =>
      intro u
      unfold confirmLoop
      split
      · exact ⟨_, _, rfl⟩
      · split
        · exact ⟨_, _, rfl⟩
        · dsimp only
          split
          · exact ⟨_, _, rfl⟩
          · split
            · obtain ⟨ys, c, h⟩ := ih (noConfirm _ 2 u)
              exact ⟨ys, c, by rw [h]; rfl⟩
            · split
              · exact ⟨_, _, rfl⟩
              · unfold openConfirm
                dsimp only
                split <;> exact ⟨_, _, rfl⟩
  exact hloop ..

theorem confirmExpiry_none (hc : s.lt.confirm = none) : confirmExpiry s = s := by simp only [confirmExpiry, hc]

theorem considerConfirm_none (h : confirmCandidate s.lt.train = none) : considerConfirm s = s := by
  unfold considerConfirm
  cases s.lt.train.length with
  | zero => rfl
  | succ n =>
    simp only [confirmLoop, h]
    split <;> rfl

/-- No entry of the train has a FAR interface. -/
theorem candidate_none (h : ∀ e ∈ xs, ∀ i, e.leading = some i → i.track ≠ .far) : candidate xs = none := by
  rw [Option.eq_none_iff_forall_not_mem]
  rintro ⟨a, e, i⟩ hc
  obtain ⟨-, he, hi, hfar⟩ := candidate_mem hc
  exact h e he i hi hfar

theorem considerLoop_none (h : candidate s.lt.train = none) (n : Nat) : considerLoop n s = s := by
  cases n with
  | zero => rfl
  | succ n =>
    simp only [considerLoop, h]
    split <;> rfl

end

/-! ### A train of an inherited batch and one entry behind it -/

/-- An open window's candidate: the entry behind an inherited batch. -/
structure OneBehind (a e : Entry) (i : Interface) (s : State) : Prop where
  train : s.lt.train = [a, e]
  front : a.leading = none
  frontOpen : a.complete = false
  ids : a.id ≠ e.id
  leading : e.leading = some i
  far : i.track = .far
  window : s.lt.window = none
  confirm : s.lt.confirm = none

section
variable {a e : Entry} {i : Interface} {s t : State} {newS : Nat}

/-- The state in which the Line Tracker considers its candidate at a new S. -/
def atAdvance (newS : Nat) (s : State) : State := { s.take (.ltSAdvance newS) with lt := { s.lt with curS := newS } }

theorem OneBehind.advance (h : OneBehind a e i s) (newS : Nat) : OneBehind a e i (atAdvance newS s) :=
  ⟨h.train, h.front, h.frontOpen, h.ids, h.leading, h.far, h.window, h.confirm⟩

/-- A FAR interface has no clear point, so that nothing completes. -/
theorem OneBehind.completionCheck (h : OneBehind a e i s) : completionCheck s = s := by
  have hm : manifoldOf s.lt.train = some a := by simp [manifoldOf, h.train, h.frontOpen]
  have hb : behindOf a.id s.lt.train = some e := by simp [behindOf, h.train]
  have hpoint : e.leading.bind (clearPoint s.tables) = none := by simp [h.leading, clearPoint, h.far]
  have honce : completeOnce s = none := by
    simp only [completeOnce, hm, hb, completes, hpoint, Bool.false_eq_true, if_false]
  rw [Machine.completionCheck, h.train]
  simp only [List.length_cons, completionLoop, honce]

theorem OneBehind.considerWindow (h : OneBehind a e i s) : considerWindow s
    = if (considerCandidate a e i s).2 then considerLoop 1 (considerCandidate a e i s).1 else (considerCandidate a e i s).1 := by
  have hcandidate : candidate [a, e] = some (a, e, i) := by simp [candidate, h.leading, h.far]
  rw [Machine.considerWindow, h.train]
  simp only [List.length_cons, List.length_nil, considerLoop, h.window, h.train, hcandidate, Option.isSome_none, Bool.false_eq_true,
    if_false]

theorem OneBehind.exec (h : OneBehind a e i s) (hrun : s.running = true) : Machine.exec (.ltSAdvance newS) s
    = .next (considerConfirm (confirmExpiry (Machine.considerWindow (atAdvance newS s)))) := by
  have hexpiry : windowExpiry (atAdvance newS s) = atAdvance newS s := by
    have hw : (atAdvance newS s).lt.window = none := h.window
    simp only [windowExpiry, hw]
  refine (event_running hrun).trans (congrArg Host.Outcome.next ?_)
  have hcheck := (h.advance newS).completionCheck
  exact congrArg (fun u => considerConfirm (confirmExpiry (Machine.considerWindow u))) ((congrArg windowExpiry hcheck).trans hexpiry)

end

/-! ### The outcomes of a consideration -/

section
variable {a e : Entry} {i : Interface} {s t : State} {newS : Nat} {ch : Channel} {ρ : Int} {primary : Option Channel}

/-- A snapshot formed for the interface between two entries (R89). -/
structure SnapshotOf (s : State) (a e : Entry) (i : Interface) (primary : Option Channel) (contrast : Option Nat) (sn : Snapshot) :
    Prop where
  mix : sn.mix = Safety.Mix s a e i
  halfwidth : sn.halfwidth = Safety.Halfwidth s a e i
  h : sn.h = min s.tables.params.fa (max s.tables.params.fd (pairOf s.tables a.product e.product).h)
  t : sn.t = max (min s.tables.params.fa (max s.tables.params.fd (pairOf s.tables a.product e.product).h))
    (min s.tables.params.fa (pairOf s.tables a.product e.product).t)
  maxMix : sn.maxMix = (pairOf s.tables a.product e.product).maxMix
  fd : sn.fd = s.tables.params.fd
  fa : sn.fa = s.tables.params.fa
  rule : sn.rule = resolveRule s.tables a.product e.product
  primary : sn.primary = primary
  contrast : sn.contrast = contrast

theorem snapshotOf_formSnapshot (s : State) (newS : Nat) (contrast : Option Nat) (low : Bool) :
    SnapshotOf s a e i primary contrast (formSnapshot (atAdvance newS s) a e i primary contrast low) :=
  ⟨rfl, rfl, rfl, rfl, rfl, rfl, rfl, rfl, rfl, rfl⟩

theorem primaryChannel_eq (hon : (s.sd.get ch).mode ≠ .off) (hfirst : ch = .manifold → (s.sd.get .advance).mode = .off) :
    primaryChannel s = some ch := by
  cases ch with
  | advance => exact if_pos hon
  | manifold => exact (if_neg (not_not.mpr (hfirst rfl))).trans (if_pos hon)

theorem primaryChannel_none (hadvance : (s.sd.get .advance).mode = .off) (hmanifold : (s.sd.get .manifold).mode = .off) :
    primaryChannel s = none := (if_neg (not_not.mpr hadvance)).trans (if_neg (not_not.mpr hmanifold))

/-- The middle of the window of an interface on its primary channel (R87). -/
def centreOf (s : State) (primary : Option Channel) (i : Interface) : Nat :=
  i.pos + if primary = some .manifold then s.tables.params.leadVolume else 0

theorem windowCentre_eq : windowCentre s primary i.pos = centreOf s primary i := by
  unfold windowCentre centreOf
  split <;> simp

/-- R88, R91: the four outcomes of a consideration at a new S. -/
theorem considerCandidate_below (hp : primaryChannel s = primary) (h : newS + Safety.Halfwidth s a e i < centreOf s primary i) :
    considerCandidate a e i (atAdvance newS s) = (atAdvance newS s, false) := by
  have hp' : primaryChannel (atAdvance newS s) = primary := hp
  have hcentre : windowCentre (atAdvance newS s) primary i.pos = centreOf s primary i := windowCentre_eq
  have hhalf : (formSnapshot (atAdvance newS s) a e i primary none false).halfwidth = Safety.Halfwidth s a e i := rfl
  have hnow : (atAdvance newS s).lt.curS = newS := rfl
  simp only [considerCandidate, hp', hcentre, hhalf, hnow]
  exact if_pos (by omega)

theorem considerCandidate_passed (hp : primaryChannel s = primary) (h : centreOf s primary i + Safety.Halfwidth s a e i < newS) :
    considerCandidate a e i (atAdvance newS s) = (placeVolumetric e.id .interfaceMissed 2
      (takeSnapshot a e (formSnapshot (atAdvance newS s) a e i primary none false) (atAdvance newS s)), true) := by
  have hp' : primaryChannel (atAdvance newS s) = primary := hp
  have hcentre : windowCentre (atAdvance newS s) primary i.pos = centreOf s primary i := windowCentre_eq
  have hhalf : (formSnapshot (atAdvance newS s) a e i primary none false).halfwidth = Safety.Halfwidth s a e i := rfl
  have hnow : (atAdvance newS s).lt.curS = newS := rfl
  simp only [considerCandidate, hp', hcentre, hhalf, hnow]
  exact (if_neg (by omega)).trans (if_pos (by omega))

/-- The new S is inside the window. -/
def Inside (s : State) (primary : Option Channel) (a e : Entry) (i : Interface) (newS : Nat) : Prop :=
  centreOf s primary i ≤ newS + Safety.Halfwidth s a e i ∧ newS ≤ centreOf s primary i + Safety.Halfwidth s a e i

theorem considerCandidate_unchannelled (hp : primaryChannel s = none) (h : Inside s none a e i newS) :
    considerCandidate a e i (atAdvance newS s) = (placeVolumetric e.id .interfaceMissed 3
      (takeSnapshot a e (formSnapshot (atAdvance newS s) a e i none none false) (atAdvance newS s)), true) := by
  obtain ⟨hlower, hupper⟩ := h
  have hp' : primaryChannel (atAdvance newS s) = none := hp
  have hcentre : windowCentre (atAdvance newS s) (none) i.pos = centreOf s (none) i := windowCentre_eq
  have hhalf : (formSnapshot (atAdvance newS s) a e i (none) none false).halfwidth = Safety.Halfwidth s a e i := rfl
  have hnow : (atAdvance newS s).lt.curS = newS := rfl
  simp only [considerCandidate, hp', hcentre, hhalf, hnow]
  exact (if_neg (by omega)).trans (if_neg (by omega))

theorem considerCandidate_channelled {contrast : Nat} (hp : primaryChannel s = some ch) (h : Inside s (some ch) a e i newS)
    (hcontrast : windowContrast (atAdvance newS s) ch a e = contrast) :
    let sn := fun low => formSnapshot (atAdvance newS s) a e i (some ch) (some contrast) low
    considerCandidate a e i (atAdvance newS s) = if contrast < s.tables.params.minContrast then
        (placeVolumetric e.id .lowContrast contrast (takeSnapshot a e (sn true) (atAdvance newS s)), true)
      else (openWindow e ch (sn false) (centreOf s (some ch) i) (takeSnapshot a e (sn false) (atAdvance newS s)), false) := by
  obtain ⟨hlower, hupper⟩ := h
  have hp' : primaryChannel (atAdvance newS s) = some ch := hp
  have hcentre : windowCentre (atAdvance newS s) (some ch) i.pos = centreOf s (some ch) i := windowCentre_eq
  have hhalf : (formSnapshot (atAdvance newS s) a e i (some ch) none false).halfwidth = Safety.Halfwidth s a e i := rfl
  have hnow : (atAdvance newS s).lt.curS = newS := rfl
  have hmin : (atAdvance newS s).tables.params.minContrast = s.tables.params.minContrast := rfl
  simp only [considerCandidate, hp', hcentre, hhalf, hnow, hcontrast, hmin, decide_eq_true_eq]
  refine (if_neg (by omega)).trans ((if_neg (by omega)).trans ?_)
  split
  next hlow => rw [decide_eq_true hlow]
  next hlow => rw [decide_eq_false hlow]

theorem windowContrast_eq (h : Safety.DensityAhead (s.sd.get ch) a ρ) :
    windowContrast (atAdvance newS s) ch a e = ((e.density : Int) - ρ).natAbs := by
  have hahead : aheadDensity ((atAdvance newS s).sd.get ch) a = ρ := aheadDensity_eq h
  rw [windowContrast, hahead]

end

end Sys2Proof.Proofs.Windows
end

section
/-! A new S opens a window, or places its interface VOLUMETRIC (O49). -/
namespace Sys2Proof.Proofs.Windows

open Sys2Proof Sys2Proof.Machine
open Sys2Proof.Proofs.Answers
open Sys2Proof.Proofs.Planner
open Sys2Proof.Proofs.Train

section
variable {a e : Entry} {i : Interface} {s : State} {newS : Nat} {sn : Snapshot} {k : EventKind} {d : Int} {ch : Channel}
  {primary : Option Channel} {contrast : Option Nat}

/-- R109: the events of the defaults supplied as a snapshot is taken. -/
def defaultsSupplied (a e : Entry) : List Instr :=
  (if a.disposition = none then [.eventPosted .defaultDisposition a.id 1] else [])
    ++ (if e.disposition = none then [.eventPosted .defaultDisposition e.id 2] else [])

theorem mem_defaultsSupplied : (.eventPosted .defaultDisposition a.id 1 ∈ defaultsSupplied a e ↔ a.disposition = none)
    ∧ (.eventPosted .defaultDisposition e.id 2 ∈ defaultsSupplied a e ↔ e.disposition = none) := by
  unfold defaultsSupplied
  by_cases hd : a.disposition = none <;> by_cases hd' : e.disposition = none <;> simp [hd, hd']

/-- The train of two entries with the snapshot taken. -/
theorem OneBehind.snapshot (h : OneBehind a e i s) (sn : Snapshot) : ∃ ys, takeSnapshot a e sn (atAdvance newS s)
    = { atAdvance newS s with
        lt := { s.lt with train := ys, curS := newS }
        handed := (atAdvance newS s).handed ++ defaultsSupplied a e }
    ∧ interfaceOf e.id ys = some { i with snapshot := some sn }
    ∧ (∀ y ∈ ys, y.id = e.id → y.leading = some { i with snapshot := some sn })
    ∧ (∀ y ∈ ys, y.id ≠ e.id → y.leading = none) ∧ LastIn e.id ys := by
  obtain ⟨ys, hframe, hmarked⟩ := takeSnapshot_frame a e sn (atAdvance newS s)
  have htrain : (atAdvance newS s).lt.train = [a, e] := h.train
  have hmod : modInterface e.id (fun i => { i with snapshot := some sn }) [a, e] = [a, { e with leading := some { i with snapshot := some sn } }] := by
    simp [modInterface, modEntry, h.leading, h.ids]
  rw [htrain, hmod] at hmarked
  refine ⟨ys, hframe, ?_, ?_, ?_, ?_⟩
  · rw [hmarked.interfaceOf, interfaceOf, findEntry, List.find?_cons_of_neg (by simpa using h.ids)]
    simp
  · refine hmarked.only fun y hy hid => ?_
    rcases List.mem_pair.mp hy with rfl | rfl
    · exact absurd hid h.ids
    · rfl
  · obtain ⟨g, rfl, hg⟩ := hmarked
    intro y hy hid
    obtain ⟨x, hx, rfl⟩ := List.mem_map.mp hy
    obtain ⟨hgid, hleading, -⟩ := hg x
    rcases List.mem_pair.mp hx with rfl | rfl
    · rw [hleading, h.front]
    · exact absurd hgid hid
  · obtain ⟨g, rfl, hg⟩ := hmarked
    simp only [LastIn, List.map_cons, List.map_nil, List.getLast?_cons_cons, List.getLast?_singleton, Option.map_some]
    exact congrArg some (hg _).1

/-! ### Placed VOLUMETRIC -/

/-- R95: the interface placed at the new S, and what follows. -/
theorem OneBehind.placed (h : OneBehind a e i s) (hrun : s.running = true) (hsn : SnapshotOf s a e i primary contrast sn)
    (hc : considerCandidate a e i (atAdvance newS s) = (placeVolumetric e.id k d (takeSnapshot a e sn (atAdvance newS s)), true)) :
    ∃ t j, Machine.exec (.ltSAdvance newS) s = .next t ∧ t.lt.window = none
      ∧ interfaceOf e.id t.lt.train = some j ∧ j.pos = i.pos ∧ j.method = some .volumetric ∧ j.residual = i.residual
      ∧ (j.track = .volumetric ∨ j.track = .cleared) ∧ j.snapshot = some sn
      ∧ t.lt.sLast = s.lt.sLast ∧ t.lt.gap = s.lt.gap ∧ .eventPosted k e.id d ∈ t.handed
      ∧ .volumetricPointsToCutPlanner e.id (Safety.Points s i.pos (Safety.Mix s a e i)) .routeController ∈ t.handed := by
  obtain ⟨ys, hframe, hinterface, honly, hothers, hlast⟩ := h.snapshot (newS := newS) sn
  obtain ⟨u, hu⟩ : ∃ u, takeSnapshot a e sn (atAdvance newS s) = u := ⟨_, rfl⟩
  rw [hu] at hframe hc
  have hutrain : u.lt.train = ys := by rw [hframe]
  rw [← hutrain] at hinterface honly hothers hlast
  have hplaced : Placed e.id k d { i with snapshot := some sn } sn u (placedVolumetric e.id k d u) :=
    placed_placedVolumetric hinterface rfl honly
  obtain ⟨p, hp⟩ : ∃ p, placedVolumetric e.id k d u = p := ⟨_, rfl⟩
  rw [hp] at hplaced
  have hv : placeVolumetric e.id k d u = Machine.completionCheck p := congrArg Machine.completionCheck hp
  have hbeside : ∀ id, Beside id p (Machine.completionCheck p) := fun id => .completionCheck id p
  have hlt : (Machine.completionCheck p).lt = { p.lt with train := (Machine.completionCheck p).lt.train } := by
    have hreacted := (Reacted.completionCheck p).frame
    exact congrArg (·.lt) hreacted
  have hnone : candidate (Machine.completionCheck p).lt.train = none := by
    refine candidate_none fun x hx j hj => ?_
    obtain ⟨y, hy, hxy⟩ := (hbeside x.id).entry x hx rfl
    obtain ⟨g, hg, hleading⟩ := hxy.leading
    by_cases hid : y.id = e.id
    · rw [hleading, hplaced.only y hy hid] at hj
      obtain rfl := Option.some.inj hj
      rcases (hg (volumetricOf { i with snapshot := some sn })).2 with htrack | htrack <;> rw [htrack] <;> simp [volumetricOf]
    · rw [hleading, hothers y (hplaced.others y hy hid) hid] at hj
      cases hj
  have hplt : p.lt = { s.lt with train := p.lt.train, curS := newS } := by rw [hplaced.frame, hframe]
  have hwindow : Machine.considerWindow (atAdvance newS s) = Machine.completionCheck p := by
    rw [(h.advance newS).considerWindow, hc, hv]
    exact (if_pos rfl).trans (considerLoop_none hnone 1)
  have hexpiry : confirmExpiry (Machine.completionCheck p) = Machine.completionCheck p := confirmExpiry_none (by rw [hlt, hplt]; exact h.confirm)
  have hexec := h.exec (newS := newS) hrun
  rw [hwindow, hexpiry] at hexec
  obtain ⟨zs, c, htracker⟩ := considerConfirm_tracker (Machine.completionCheck p)
  have hall := (hbeside e.id).trans (.considerConfirm e.id (Machine.completionCheck p))
  obtain ⟨j, hj, hsettled⟩ := hall.interface_last (lastIn_ids hplaced.ids hlast) hplaced.only
  obtain ⟨htrack, heq⟩ := hsettled.volumetricOf
  have hpoints := hall.handed.subset hplaced.points
  have htables : Safety.Points u i.pos sn.mix = Safety.Points s i.pos (Safety.Mix s a e i) := by rw [hsn.mix, hframe]; rfl
  refine ⟨_, j, hexec, ?_, hj, by rw [heq], by rw [heq], by rw [heq], htrack, by rw [heq], ?_, ?_, hall.handed.subset hplaced.posted,
    htables ▸ hpoints⟩
  · rw [htracker, hlt, hplt]
    exact h.window
  · rw [htracker, hlt, hplt]
  · rw [htracker, hlt, hplt]

/-! ### Not yet, and opened -/

/-- R96: an interface that is FAR or WINDOW is no candidate for confirmation. -/
theorem confirmCandidate_none {xs : List Entry} (h : ∀ x ∈ xs, ∀ j, x.leading = some j → j.track = .far ∨ j.track = .window) :
    confirmCandidate xs = none := by
  rw [Option.eq_none_iff_forall_not_mem]
  rintro ⟨k, p, sn⟩ hc
  obtain ⟨x, hx, -, j, hj, heligible, -⟩ := confirmCandidate_mem hc
  unfold eligible at heligible
  split at heligible
  · rcases h x hx j hj with htrack | htrack <;> simp [htrack] at heligible
  · cases heligible

theorem OneBehind.notYet (h : OneBehind a e i s) (hrun : s.running = true)
    (hc : considerCandidate a e i (atAdvance newS s) = (atAdvance newS s, false)) :
    Machine.exec (.ltSAdvance newS) s = .next (atAdvance newS s) := by
  have hwindow : Machine.considerWindow (atAdvance newS s) = atAdvance newS s := by
    rw [(h.advance newS).considerWindow, hc]
    exact if_neg (by simp)
  have hexpiry : confirmExpiry (atAdvance newS s) = atAdvance newS s := confirmExpiry_none h.confirm
  have hconfirm : considerConfirm (atAdvance newS s) = atAdvance newS s := by
    refine considerConfirm_none (confirmCandidate_none fun x hx j hj => ?_)
    have hin : x ∈ [a, e] := h.train ▸ hx
    rcases List.mem_pair.mp hin with rfl | rfl
    · rw [h.front] at hj
      cases hj
    · rw [h.leading] at hj
      obtain rfl := Option.some.inj hj
      exact .inl h.far
  rw [h.exec hrun, hwindow, hexpiry, hconfirm]

/-- R91: the window opens at the new S. -/
theorem OneBehind.opens (h : OneBehind a e i s) (hrun : s.running = true) {centre : Int}
    (hc : considerCandidate a e i (atAdvance newS s) = (openWindow e ch sn centre (takeSnapshot a e sn (atAdvance newS s)), false)) :
    ∃ t pre, Machine.exec (.ltSAdvance newS) s = .next t ∧ t.lt.curS = newS
      ∧ t.lt.window = some ⟨e.id, ch, centre - sn.halfwidth, centre + sn.halfwidth, false, false⟩
      ∧ interfaceOf e.id t.lt.train = some { i with track := .window, snapshot := some sn }
      ∧ t.handed = s.handed.erase (.ltSAdvance newS) ++ pre ++ [.eventPosted .windowOpen e.id sn.halfwidth,
          .channelInterfaceHanded ch ⟨e.id, .primary, sn.h, sn.t, sn.maxMix, sn.fd, sn.fa⟩]
      ∧ (.eventPosted .defaultDisposition a.id 1 ∈ pre ↔ a.disposition = none)
      ∧ (.eventPosted .defaultDisposition e.id 2 ∈ pre ↔ e.disposition = none) := by
  obtain ⟨ys, hframe, hinterface, honly, hothers, -⟩ := h.snapshot (newS := newS) sn
  obtain ⟨u, hu⟩ : ∃ u, takeSnapshot a e sn (atAdvance newS s) = u := ⟨_, rfl⟩
  rw [hu] at hframe hc
  obtain ⟨htrain, hconfirm, hcurS⟩ : u.lt.train = ys ∧ u.lt.confirm = none ∧ u.lt.curS = newS := by
    rw [hframe]
    exact ⟨rfl, h.confirm, rfl⟩
  have hwindow : Machine.considerWindow (atAdvance newS s) = openWindow e ch sn centre u := by
    rw [(h.advance newS).considerWindow, hc]
    exact if_neg (by simp)
  have hnone : considerConfirm (openWindow e ch sn centre u) = openWindow e ch sn centre u := by
    refine considerConfirm_none (confirmCandidate_none fun x hx j hj => ?_)
    obtain ⟨y, hy, rfl⟩ := List.mem_map.mp hx
    have hy' : y ∈ ys := htrain ▸ hy
    by_cases hid : y.id = e.id
    · simp only [hid, beq_self_eq_true, if_true, honly y hy' hid, Option.map_some, Option.some.injEq] at hj
      exact .inr (by rw [← hj])
    · simp only [beq_iff_eq, hid, if_false, hothers y hy' hid] at hj
      cases hj
  have hexec := h.exec (newS := newS) hrun
  rw [hwindow, confirmExpiry_none (s := openWindow e ch sn centre u) hconfirm, hnone] at hexec
  refine ⟨_, defaultsSupplied a e, hexec, hcurS, rfl,
    interfaceOf_modInterface (g := fun i => { i with track := .window }) (htrain ▸ hinterface), ?_, mem_defaultsSupplied⟩
  have hhanded : (openWindow e ch sn centre u).handed = u.handed ++ [.eventPosted .windowOpen e.id sn.halfwidth]
      ++ [.channelInterfaceHanded ch ⟨e.id, .primary, sn.h, sn.t, sn.maxMix, sn.fd, sn.fa⟩] := rfl
  rw [hhanded, hframe, List.append_assoc]
  rfl

end

/-- Settles O49. -/
theorem sAdvanceOpensTheWindow : Obligations.SAdvanceOpensTheWindow := by
  intro newS a e i s hrun htrain hfront hopen hids hleading hfar hwindow hconfirm c H p h taken notYet placed
  have hbehind : OneBehind a e i s := ⟨htrain, hfront, hopen, hids, hleading, hfar, hwindow, hconfirm⟩
  have htaken : ∀ {primary contrast sn}, SnapshotOf s a e i primary contrast sn → taken sn := fun hsn =>
    ⟨hsn.mix, hsn.halfwidth, hsn.h, hsn.t, hsn.maxMix, hsn.fd, hsn.fa, hsn.rule⟩
  have hplaced : ∀ {primary contrast sn k d}, SnapshotOf s a e i primary contrast sn → sn.lowContrast = contrast.isSome →
      considerCandidate a e i (atAdvance newS s) = (placeVolumetric e.id k d (takeSnapshot a e sn (atAdvance newS s)), true) →
      placed k d primary contrast := fun {primary contrast sn k d} hsn hlow hc => by
    obtain ⟨t, j, hexec, hnone, hj, hpos, hmethod, hresidual, htrack, hsnapshot, hlast, hgap, hposted, hpoints⟩ :=
      hbehind.placed hrun hsn hc
    exact ⟨t, j, sn, hexec, hnone, hj, hpos, hmethod, hresidual, htrack, hsnapshot, htaken hsn, hsn.primary, hsn.contrast,
      hsn.contrast ▸ hlow, hlast, hgap, hposted, hpoints⟩
  have hwaits : considerCandidate a e i (atAdvance newS s) = (atAdvance newS s, false) → notYet := hbehind.notYet hrun
  refine ⟨fun ch ρ hon hfirst hρ => ?_, fun hadvance hmanifold => ?_⟩
  · intro contrast centre
    have hprimary := primaryChannel_eq hon hfirst
    have hcontrast : windowContrast (atAdvance newS s) ch a e = contrast := windowContrast_eq hρ
    have hcentre : centreOf s (some ch) i = centre := by cases ch <;> rfl
    have hinside : centre ≤ newS + H → newS ≤ centre + H → Inside s (some ch) a e i newS := fun h1 h2 => by
      rw [Inside, hcentre]
      exact ⟨h1, h2⟩
    refine ⟨fun hbelow => hwaits (considerCandidate_below hprimary (by rw [hcentre]; exact hbelow)), fun h1 h2 hmin => ?_,
      fun h1 h2 hmin => ?_, fun hpassed => ?_⟩
    · have hc := (considerCandidate_channelled hprimary (hinside h1 h2) hcontrast).trans (if_neg (Nat.not_lt.mpr hmin))
      rw [hcentre] at hc
      have hsn := snapshotOf_formSnapshot (a := a) (e := e) (i := i) (primary := some ch) s newS (some contrast) false
      obtain ⟨t, pre, hexec, hcurS, hwindow, hinterface, hhanded, hpre⟩ := hbehind.opens hrun hc
      refine ⟨t, _, pre, hexec, hcurS, ?_, hinterface, htaken hsn, rfl, rfl, rfl, ?_, hpre⟩
      · rw [hwindow, hsn.halfwidth]
      · rw [hhanded, hsn.halfwidth, hsn.h, hsn.t, hsn.maxMix, hsn.fd, hsn.fa]
    · have hc := (considerCandidate_channelled hprimary (hinside h1 h2) hcontrast).trans (if_pos hmin)
      exact hplaced (snapshotOf_formSnapshot s newS (some contrast) true) rfl hc
    · exact hplaced (snapshotOf_formSnapshot s newS none false) rfl (considerCandidate_passed hprimary (by rw [hcentre]; exact hpassed))
  · have hprimary := primaryChannel_none hadvance hmanifold
    have hcentre : centreOf s none i = i.pos := rfl
    refine ⟨fun hbelow => hwaits (considerCandidate_below hprimary (by rw [hcentre]; exact hbelow)), fun h1 h2 => ?_, fun hpassed => ?_⟩
    · exact hplaced (snapshotOf_formSnapshot s newS none false) rfl (considerCandidate_unchannelled hprimary ⟨h1, h2⟩)
    · exact hplaced (snapshotOf_formSnapshot s newS none false) rfl (considerCandidate_passed hprimary (by rw [hcentre]; exact hpassed))

end Sys2Proof.Proofs.Windows
end

section
/-! A channel and what it hands on: the state in which a channel stands changed, and the report of R96. -/
namespace Sys2Proof.Proofs.Channels

open Sys2Proof Sys2Proof.Machine
open Sys2Proof.Proofs.Answers

section
variable {ch : Channel} {c c' : ChannelState} {more more' : List Instr} {s u : State} {i : Instr} {ho : HandOff}

/-- The state in which a channel stands as `c`, with hand-offs made. -/
def standing (ch : Channel) (c : ChannelState) (more : List Instr) (s : State) : State :=
  { s with sd := s.sd.set ch c, handed := s.handed ++ more }

@[simp] theorem get_set (p : PerChannel ChannelState) : (p.set ch c).get ch = c := by cases ch <;> rfl

@[simp] theorem set_set (p : PerChannel ChannelState) : (p.set ch c).set ch c' = p.set ch c' := by cases ch <;> rfl

@[simp] theorem standing_get : (standing ch c more s).sd.get ch = c := get_set _

@[simp] theorem standing_tables : (standing ch c more s).tables = s.tables := rfl

@[simp] theorem standing_lt : (standing ch c more s).lt = s.lt := rfl

@[simp] theorem standing_mode : channelMode (standing ch c more s) ch = c.mode := by simp [channelMode]

@[simp] theorem standing_hand : (standing ch c more s).hand i = standing ch c (more ++ [i]) s := by
  simp [standing, State.hand]

@[simp] theorem standing_post {k : EventKind} {n : Nat} {d : Int} :
    (standing ch c more s).post k n d = standing ch c (more ++ [.eventPosted k n d]) s := standing_hand

@[simp] theorem standing_setChannel : (standing ch c more s).setChannel ch c' = standing ch c' more s := by
  simp [standing, State.setChannel]

@[simp] theorem standing_modChannel {f : ChannelState → ChannelState} :
    modChannel ch f (standing ch c more s) = standing ch (f c) more s := by
  simp [modChannel]

theorem setChannel_standing : s.setChannel ch c = standing ch c [] s := by simp [standing, State.setChannel]

theorem standing_self (h : s.sd.get ch = c) : standing ch c [] s = s := by
  subst h
  simp [standing, Planner.PerChannel.set_get]

/-! ### Holding a PRIMARY interface (R96) -/

/-- Whether a channel holds a PRIMARY interface. -/
def holds (c : ChannelState) : Bool := (c.active.map (·.role)) == some .primary || (c.waiting.map (·.role)) == some .primary

theorem holdsPrimary_eq : holdsPrimary s = holds s.sd.manifold := rfl

theorem holdsPrimary_standing : holdsPrimary (standing ch c more s) = if ch = .manifold then holds c else holdsPrimary s := by
  cases ch <;> rfl

/-- The hand-off of R96, due where a channel held a PRIMARY interface and holds none. -/
def ceased (ch : Channel) (held : Bool) (c : ChannelState) : List Instr :=
  if ch = .manifold ∧ held = true ∧ holds c = false then [.manifoldPrimaryCeased] else []

theorem reportCeased_standing {held : Bool} (hheld : ch = .advance → held = holdsPrimary u) :
    reportCeased held (standing ch c more u) = standing ch c (more ++ ceased ch held c) u := by
  unfold reportCeased ceased
  rw [holdsPrimary_standing]
  cases ch with
  | advance =>
    rw [hheld rfl]
    cases holdsPrimary u <;> simp
  | manifold => cases held <;> cases h : holds c <;> simp

/-- The MANIFOLD channel that holds what it held reports nothing, and the ADVANCE channel never does. -/
theorem ceased_manifold {held : Bool} (h : ch = .manifold → held = true → holds c = true) : ceased ch held c = [] := by
  unfold ceased
  rw [if_neg]
  rintro ⟨hch, hheld, hnone⟩
  simp [h hch hheld] at hnone

/-- A channel that holds what it held reports nothing. -/
theorem ceased_kept {held : Bool} (h : held = true → holds c = true) : ceased ch held c = [] :=
  ceased_manifold fun _ => h

theorem holds_none (ha : c.active = none) (hw : c.waiting = none) : holds c = false := by simp [holds, ha, hw]

theorem holds_active (ha : c.active = some ho) (hw : c.waiting = none) : holds c = true ↔ ho.role = .primary := by
  simp [holds, ha, hw]

theorem holds_waiting (ha : c.active = none) (hw : c.waiting = some ho) : holds c = true ↔ ho.role = .primary := by
  simp [holds, ha, hw]

/-- A channel left with nothing reports what it held. -/
theorem ceased_of_iff {held : Bool} (hheld : ch = .manifold → (held = true ↔ ho.role = .primary)) (hc' : holds c' = false) :
    ceased ch held c' = Safety.Ceased ch ho := by
  unfold ceased Safety.Ceased
  by_cases hch : ch = .manifold
  · simp only [hch, hheld hch, hc', and_true, true_and]
  · simp [hch]

/-- A channel event, by what it makes of the channel. -/
theorem channelEvent_standing {k : State → State} (hu : u.sd = s.sd) (hk : k s = standing ch c more u) :
    channelEvent k s = standing ch c (more ++ ceased ch (holds (s.sd.get ch)) c) u := by
  have hheld : ceased ch (holdsPrimary s) c = ceased ch (holds (s.sd.get ch)) c := by
    cases ch <;> simp [ceased, holdsPrimary_eq, PerChannel.get]
  rw [channelEvent, hk, reportCeased_standing (fun _ => by simp [holdsPrimary_eq, hu]), hheld]

/-- A channel event after which the channel holds what it held. -/
theorem channelEvent_kept {k : State → State} (hu : u.sd = s.sd) (hk : k s = standing ch c more u)
    (hkept : holds (s.sd.get ch) = true → holds c = true) : channelEvent k s = standing ch c more u := by
  rw [channelEvent_standing hu hk, ceased_kept hkept, List.append_nil]

/-- A channel event in which the channel gives up the one interface it held. -/
theorem channelEvent_ceased {k : State → State} (hu : u.sd = s.sd) (hk : k s = standing ch c more u)
    (hheld : holds (s.sd.get ch) = true ↔ ho.role = .primary) (hnone : holds c = false) :
    channelEvent k s = standing ch c (more ++ Safety.Ceased ch ho) u := by
  rw [channelEvent_standing hu hk, ceased_of_iff (fun _ => hheld) hnone]

/-- A channel event by which the channel holds what it held. -/
theorem event_kept {k : State → State} (hexec : exec i s = .next (channelEvent k (s.take i)))
    (hk : k (s.take i) = standing ch c' more u) (hu : u.sd = s.sd)
    (hheld : holds (s.sd.get ch) = holds c') : exec i s = .next (standing ch c' more u) := by
  rw [hexec, channelEvent_kept (s := s.take i) hu hk fun h => hheld.symm.trans h]

/-- A channel event by which the channel gives up the one interface it held. -/
theorem event_ceased {k : State → State} (hexec : exec i s = .next (channelEvent k (s.take i)))
    (hk : k (s.take i) = standing ch c' more u) (hu : u.sd = s.sd)
    (hheld : holds (s.sd.get ch) = true ↔ ho.role = .primary) (hnone : holds c' = false) :
    exec i s = .next (standing ch c' (more ++ Safety.Ceased ch ho) u) := by
  rw [hexec, channelEvent_ceased (s := s.take i) hu hk hheld hnone]

/-! ### A channel come to CLEAN -/

theorem unfollow_clean (c : ChannelState) : unfollow .clean c = Safety.CleanOf c c.body := rfl

theorem toClean_standing {d : ChannelState} (hw : d.waiting = none) :
    toClean ch d (standing ch c more s) = standing ch (Safety.CleanOf d d.body) more s := by
  simp [toClean, unfollow_clean, Safety.CleanOf, hw]

/-! ### Crossings (R72, R73) -/

theorem handToTracker_standing {id n : Nat} {ls : List Level} :
    handToTracker ch id n ls (standing ch c more s)
      = standing ch c (more ++ ls.map (fun l => .crossingToLineTracker ch id l n)) s := by
  unfold handToTracker
  induction ls generalizing more with
  | nil => simp
  | cons l ls ih => simp [ih]

theorem handToPlanner_standing {id n : Nat} {b : Bool} {ls : List Level} :
    handToPlanner ch id n b ls (standing ch c more s)
      = standing ch c (more ++ ls.map (fun l => .crossingToCutPlanner ch id l n b .routeController)) s := by
  unfold handToPlanner
  induction ls generalizing more with
  | nil => simp
  | cons l ls ih => simp [ih]

end

end Sys2Proof.Proofs.Channels
end

section
/-! What a channel completes: an excursion's measure and its end, a departure, a long mixed zone, a settling (O47). -/
namespace Sys2Proof.Proofs.Channels

open Sys2Proof Sys2Proof.Machine
open Sys2Proof.Proofs.Answers
open Sys2Proof.Proofs.Windows

section
variable {ch : Channel} {c : ChannelState} {more : List Instr} {s : State} {ho : HandOff} {d n : Nat} {m : Measure} {mean : Int}
  {x : Excursion}

/-! ### Excursions (R69, R77, R78) -/

theorem measureComplete_iff (hm : c.measure = some m) : measureComplete s c n = true ↔ m.start + s.tables.params.holdVolume ≤ n := by
  simp [measureComplete, hm]

theorem recordOpen_closed (h : ∀ x, c.excursion = some x → x.isOpen = false) : recordOpen c = false := by
  unfold recordOpen
  cases hx : c.excursion with
  | none => rfl
  | some x => exact h x hx

/-- A channel in EXCURSION, its record opened by a measure. -/
def inExcursion (m : Measure) (mean : Int) (c : ChannelState) : ChannelState :=
  { c with
    mode := .excursion, measure := none, inBand := none
    excursion := some ⟨m.start, m.first - mean, none, .none, true⟩ }

theorem enterExcursion_standing (hm : c.measure = some m) (hclosed : recordOpen c = false) (hmean : bodyMean c = some mean) :
    enterExcursion ch (standing ch c more s) = standing ch (inExcursion m mean c) (more ++ [
      .eventPosted .bodyExcursion (channelNumber ch) (m.first - mean), .excursionStartHanded ch m.start .routeController]) s := by
  simp [enterExcursion, inExcursion, hm, hclosed, hmean]

theorem runComplete_iff (hd : c.inBand = some d) : runComplete s c n = true ↔ d + s.tables.params.settleVolume ≤ n := by
  simp [runComplete, hd]

theorem endExcursion_standing (hx : c.excursion = some x) (hw : c.waiting = none) :
    endExcursion ch n (standing ch c more s) = standing ch (Safety.ExcursionOver c x n) (more ++ [
      .eventPosted .excursionEnded (channelNumber ch) ((n : Int) - x.start),
      .excursionEndHanded ch n x.decision .routeController]) s := by
  simp only [endExcursion, standing_get, hx, standing_post, standing_hand, List.append_assoc]
  exact toClean_standing hw

/-! ### Departures (R72) -/

theorem holdPassed_iff (hd : c.depStart = some d) : holdPassed s c n = true ↔ d + s.tables.params.holdVolume ≤ n := by
  simp [holdPassed, hd]

theorem sourceOf_eq (ch : Channel) : sourceOf ch = if ch = .advance then .advance else .manifold := by cases ch <;> rfl

/-- What a confirmed departure hands on: the anchor and the crossings recorded, or the start to the confirmation. -/
def departureHanded (ch : Channel) (ho : HandOff) (d : Nat) (x : Levels (Option Nat)) : List Instr :=
  match ho.role with
  | .primary => .anchorHanded ho.batch d (if ch = .advance then .advance else .manifold)
      :: allLevels.filterMap (fun l => (x.get l).map (fun n => .crossingToCutPlanner ch ho.batch l n false .routeController))
  | .confirming => [.confirmDepartureHanded ho.batch d]

theorem departureHanded_primary (h : ho.role = .primary) (x : Levels (Option Nat)) : departureHanded ch ho d x
    = .anchorHanded ho.batch d (if ch = .advance then .advance else .manifold)
      :: allLevels.filterMap (fun l => (x.get l).map (fun n => .crossingToCutPlanner ch ho.batch l n false .routeController)) := by
  simp only [departureHanded, h]

/-- A fold over levels that hands the recorded crossings to the Cut Planner. -/
theorem crossings_standing {f : State → Level → State} {id : Nat} {x : Levels (Option Nat)} (hnone : ∀ u l, x.get l = none → f u l = u)
    (hsome : ∀ u l n, x.get l = some n → f u l = u.hand (.crossingToCutPlanner ch id l n false .routeController)) (ls : List Level) :
    ls.foldl f (standing ch c more s) = standing ch c (more ++ ls.filterMap (fun l => (x.get l).map
        (fun n => .crossingToCutPlanner ch id l n false .routeController))) s := by
  induction ls generalizing more with
  | nil => simp
  | cons l ls ih =>
    cases hl : x.get l with
    | none => simp [hl, hnone _ l hl, ih]
    | some n => simp [hl, hsome _ l n hl, ih]

theorem confirmDeparture_standing (ha : c.active = some ho) (hd : c.depStart = some d) : confirmDeparture ch (standing ch c more s)
    = standing ch { c with mode := .mixed, expiryMark := false } (more ++ departureHanded ch ho d c.crossings) s := by
  unfold confirmDeparture
  dsimp only
  rw [standing_get, ha, hd, standing_setChannel]
  cases hr : ho.role with
  | primary =>
    simp only [hr]
    rw [standing_hand, crossings_standing (fun u l h => by rw [h]) (fun u l n h => by rw [h]), departureHanded_primary hr, sourceOf_eq,
      List.append_assoc]
    rfl
  | confirming => simp only [hr, standing_hand, departureHanded]

/-! ### Long mixed zones and settling (R74, R75) -/

theorem longMix_iff (ha : c.active = some ho) (hd : c.depStart = some d) : longMix c n = true ↔ d + ho.maxMix < n := by
  simp [longMix, followed, ha, hd]

theorem longMix_of_lt (ha : c.active = some ho) (hd : c.depStart = some d) (h : d + ho.maxMix < n) : longMix c n = true :=
  (longMix_iff ha hd).mpr h

theorem longMix_of_le (ha : c.active = some ho) (hd : c.depStart = some d) (h : n ≤ d + ho.maxMix) : longMix c n = false := by
  rw [Bool.eq_false_iff, ne_eq, longMix_iff ha hd]
  exact Nat.not_lt.mpr h

/-- A channel gone to ACQUIRE from a long mixed zone. -/
def acquiring (c : ChannelState) : ChannelState := { Safety.CleanOf c [] with mode := .acquire, acquire := [] }

theorem forcedLevels_active (ha : c.active = some ho) : forcedLevels c
    = if ho.role = .primary then allLevels.filter (fun l => (c.crossings.get l).isNone) else [] := by
  simp only [forcedLevels, ha]

/-- What a long mixed zone hands on. -/
def longHanded (ch : Channel) (id n : Nat) (ls : List Level) : List Instr :=
  ls.map (fun l => .crossingToLineTracker ch id l n)
    ++ (ls.map (fun l => .crossingToCutPlanner ch id l n true .routeController) ++ [.eventPosted .longMix id ls.length])

theorem declareLong_standing (ha : c.active = some ho) : declareLong ch n (standing ch c more s)
    = standing ch (acquiring c) (more ++ longHanded ch ho.batch n (forcedLevels c)) s := by
  simp only [declareLong, standing_get, followed, ha, Option.map_some, Option.getD_some, handToTracker_standing, handToPlanner_standing,
    standing_setChannel, standing_post, List.append_assoc, longHanded]
  rfl

theorem settlePassed_iff (hd : c.settleStart = some d) : settlePassed s c n = true ↔ d + s.tables.params.settleVolume ≤ n := by
  simp [settlePassed, hd]

theorem seeded_settledBody (band : Nat) (buf : List Int) : Safety.Seeded band buf (settledBody band buf) := by
  refine ⟨fun h => by rw [h]; rfl, fun pre g h => ?_⟩
  rw [settledBody, h, List.getLast?_concat]
  rfl

theorem settle_standing (hw : c.waiting = none) : settle ch (standing ch c more s)
    = standing ch (Safety.CleanOf c (settledBody s.tables.params.bodyBand c.settleBuf)) more s := by
  simp only [settle, standing_get, standing_tables]
  exact toClean_standing hw

/-! ### The S advance -/

theorem noteS_standing : noteS ch n s = standing ch { s.sd.get ch with lastS := max (s.sd.get ch).lastS n } [] s :=
  setChannel_standing

theorem sAdvance_exec (hrun : s.running = true) (n : Nat) : exec (.channelSAdvance ch n) s
    = .next (channelEvent (channelAdvance ch n) (s.take (.channelSAdvance ch n))) := event_running hrun

end

end Sys2Proof.Proofs.Channels
end

section
/-! An S advance completes what a channel waits for (O47). -/
namespace Sys2Proof.Proofs.Channels

open Sys2Proof Sys2Proof.Machine
open Sys2Proof.Proofs.Windows

section
variable {ch : Channel} {c c' : ChannelState} {more : List Instr} {s u : State} {ho : HandOff} {d b n : Nat} {m : Measure} {mean : Int}
  {x : Excursion}

/-! ### By the mode of the channel -/

theorem advance_clean (hnote : noteS ch n s = standing ch c [] s) (hmode : c.mode = .clean) : channelAdvance ch n s
    = if measureComplete (standing ch c [] s) c n then enterExcursion ch (standing ch c [] s) else standing ch c [] s := by
  simp only [channelAdvance, hnote, standing_get, hmode]

theorem advance_departing (hnote : noteS ch n s = standing ch c [] s) (hmode : c.mode = .departing) : channelAdvance ch n s
    = if holdPassed (standing ch c [] s) c n then confirmDeparture ch (standing ch c [] s) else standing ch c [] s := by
  simp only [channelAdvance, hnote, standing_get, hmode]

theorem advance_mixed (hnote : noteS ch n s = standing ch c [] s) (hmode : c.mode = .mixed) : channelAdvance ch n s
    = if longMix c n then declareLong ch n (standing ch c [] s) else standing ch c [] s := by
  simp only [channelAdvance, hnote, standing_get, hmode]

theorem advance_settling (hnote : noteS ch n s = standing ch c [] s) (hmode : c.mode = .settling) (hlong : longMix c n = false) :
    channelAdvance ch n s
      = if settlePassed (standing ch c [] s) c n then settle ch (standing ch c [] s) else standing ch c [] s := by
  simp only [channelAdvance, hnote, standing_get, hmode, hlong, Bool.false_eq_true, if_false]

theorem advance_excursion (hnote : noteS ch n s = standing ch c [] s) (hmode : c.mode = .excursion) : channelAdvance ch n s
    = if runComplete (standing ch c [] s) c n then endExcursion ch n (standing ch c [] s) else standing ch c [] s := by
  simp only [channelAdvance, hnote, standing_get, hmode]

/-! ### The event -/

/-- The hand-off of an S advance taken. -/
abbrev advanced (ch : Channel) (n : Nat) (s : State) : State := s.take (.channelSAdvance ch n)

/-- An S advance that leaves the channel holding what it held. -/
theorem sAdvance_kept (hrun : s.running = true) (hheld : holds (s.sd.get ch) = holds c')
    (hk : channelAdvance ch n (advanced ch n s) = standing ch c' more (advanced ch n s)) : exec (.channelSAdvance ch n) s
      = .next { s with sd := s.sd.set ch c', handed := s.handed.erase (.channelSAdvance ch n) ++ more } :=
  event_kept (sAdvance_exec hrun n) hk rfl hheld

/-- An S advance after which only the S is noted. -/
theorem sAdvance_noted (hrun : s.running = true) (hc : holds (s.sd.get ch) = holds c)
    (hk : channelAdvance ch n (advanced ch n s) = standing ch c [] (advanced ch n s)) : exec (.channelSAdvance ch n) s
      = .next { s with sd := s.sd.set ch c, handed := s.handed.erase (.channelSAdvance ch n) } := by
  rw [sAdvance_kept hrun hc hk, List.append_nil]

/-- An S advance with which the channel gives up the one interface it held. -/
theorem sAdvance_ceased (hrun : s.running = true) (hheld : holds (s.sd.get ch) = true ↔ ho.role = .primary) (hnone : holds c' = false)
    (hk : channelAdvance ch n (advanced ch n s) = standing ch c' more (advanced ch n s)) : exec (.channelSAdvance ch n) s
      = .next { s with sd := s.sd.set ch c', handed := s.handed.erase (.channelSAdvance ch n) ++ (more ++ Safety.Ceased ch ho) } :=
  event_ceased (sAdvance_exec hrun n) hk rfl hheld hnone

end

/-- Settles O47. -/
theorem sAdvanceCompletesVolumes : Obligations.SAdvanceCompletesVolumes := by
  intro ch n s hrun i c base
  have hheld : holds (s.sd.get ch) = holds c := rfl
  have hnote : noteS ch n (advanced ch n s) = standing ch c [] (advanced ch n s) := noteS_standing
  clear_value c
  refine ⟨?_, ?_, ?_, ?_, ?_⟩
  · intro m mean hmode hm hclosed hbody hmean
    have hk := advance_clean hnote hmode
    refine ⟨fun h => ?_, fun h => sAdvance_noted hrun hheld (hk.trans (if_neg ?_))⟩
    · have henters := hk.trans (if_pos ((measureComplete_iff hm).mpr h))
      exact sAdvance_kept hrun hheld
        (henters.trans (enterExcursion_standing hm (recordOpen_closed hclosed) (meanOf_rounded hbody hmean)))
    · exact fun h' => Nat.not_le.mpr h ((measureComplete_iff hm).mp h')
  · intro ho d hmode ha hrole hd
    have hk := advance_departing hnote hmode
    refine ⟨fun h => ?_, fun h => sAdvance_noted hrun hheld (hk.trans (if_neg ?_))⟩
    · rw [← departureHanded_primary hrole]
      have hconfirms := hk.trans (if_pos ((holdPassed_iff hd).mpr h))
      exact sAdvance_kept hrun hheld (hconfirms.trans (confirmDeparture_standing ha hd))
    · exact fun h' => Nat.not_le.mpr h ((holdPassed_iff hd).mp h')
  · intro ho d hmode ha hrole hd
    have hk := advance_mixed hnote hmode
    refine ⟨?_, fun h => sAdvance_noted hrun hheld (hk.trans (if_neg (by simp [longMix_of_le ha hd h])))⟩
    intro h forced
    rw [if_pos (longMix_of_lt ha hd h), declareLong_standing ha, forcedLevels_active ha, if_pos hrole] at hk
    have hexec := sAdvance_exec (ch := ch) hrun n
    rw [channelEvent_standing rfl hk] at hexec
    refine ⟨_, ceased ch (holds (s.sd.get ch)) (acquiring c), hexec, ?_⟩
    simp only [standing_get]
    refine ⟨rfl, rfl, rfl, rfl, rfl, ?_, rfl⟩
    simp [standing, longHanded, base, i, forced, advanced, Instr.canonical]
  · intro ho d b hmode ha hd hb hw hlong
    have hk := advance_settling hnote hmode (longMix_of_le ha hd hlong)
    refine ⟨fun h => ⟨_, seeded_settledBody .., ?_⟩, fun h => sAdvance_noted hrun hheld (hk.trans (if_neg ?_))⟩
    · have hsettles := hk.trans (if_pos ((settlePassed_iff hb).mpr h))
      exact sAdvance_ceased (more := []) (c' := Safety.CleanOf c _) hrun (hheld ▸ holds_active ha hw) (holds_none rfl hw)
        (hsettles.trans (settle_standing hw))
    · exact fun h' => Nat.not_le.mpr h ((settlePassed_iff hb).mp h')
  · intro x hmode hx ha hw
    have hk := advance_excursion hnote hmode
    refine ⟨fun b hb h => ?_, fun h => sAdvance_noted hrun hheld (hk.trans (if_neg fun h' => ?_))⟩
    · have hends := hk.trans (if_pos ((runComplete_iff hb).mpr h))
      exact sAdvance_kept hrun (hheld.trans ((holds_none ha hw).trans (Eq.symm (holds_none rfl hw)))) (hends.trans (endExcursion_standing hx hw))
    · cases hb : c.inBand with
      | none => simp [runComplete, hb] at h'
      | some b => exact Nat.not_le.mpr (h b hb) ((runComplete_iff hb).mp h')

end Sys2Proof.Proofs.Channels
end

section
/-! A channel's readings, operation by operation: levels recorded, crossings discarded, and what each state does with one. -/
namespace Sys2Proof.Proofs.Channels

open Sys2Proof Sys2Proof.Machine
open Sys2Proof.Proofs.Answers
open Sys2Proof.Proofs.Train
open Sys2Proof.Proofs.Windows

section
variable {ch : Channel} {c c' : ChannelState} {more : List Instr} {s u : State} {ho : HandOff} {p : RefPair} {f d b n tag : Nat}
  {q : ReadingQuality} {v m : Int} {i : Instr} {x : Excursion}

/-! ### Levels recorded (R73) -/

theorem get_setLevel (x : Levels (Option Nat)) (k l : Level) : (x.set k (some n)).get l = if l = k then some n else x.get l := by
  cases k <;> cases l <;> rfl

theorem get_recordLevels (ls : List Level) (x : Levels (Option Nat)) (l : Level) :
    (recordLevels ls n x).get l = if l ∈ ls then some n else x.get l := by
  unfold recordLevels
  induction ls generalizing x with
  | nil => rfl
  | cons k ls ih =>
    rw [List.foldl_cons, ih, get_setLevel]
    by_cases hl : l ∈ ls <;> by_cases hk : l = k <;> simp [hl, hk]

/-- The crossings of a channel with the levels a fraction reaches recorded. -/
def crossed (ho : HandOff) (c : ChannelState) (f tag : Nat) : Levels (Option Nat) := recordLevels (Safety.Reached ho c f) tag c.crossings

theorem mem_allLevels (l : Level) : l ∈ allLevels := by cases l <;> decide

theorem crossed_spec (ho : HandOff) (c : ChannelState) (f tag : Nat) : Safety.Crossed ho c f tag (crossed ho c f tag) := by
  intro l
  rw [crossed, get_recordLevels]
  refine if_congr ?_ rfl rfl
  unfold Safety.Reached
  split
  next hrole => simp [hrole, mem_allLevels, and_comm]
  next hrole => simp [hrole]

/-- What the levels reached hand to the Line Tracker, and where the zone is mixed to the Cut Planner. -/
def reachedHanded (ch : Channel) (ho : HandOff) (c : ChannelState) (f tag : Nat) (mixed : Bool) : List Instr :=
  (Safety.Reached ho c f).map (fun l => .crossingToLineTracker ch ho.batch l tag)
    ++ if mixed then (Safety.Reached ho c f).map (fun l => .crossingToCutPlanner ch ho.batch l tag false .routeController) else []

theorem examineLevels_standing (ha : c.active = some ho) (mixed : Bool) : examineLevels ch f tag mixed (standing ch c more s)
    = standing ch { c with crossings := crossed ho c f tag } (more ++ reachedHanded ch ho c f tag mixed) s := by
  unfold examineLevels
  dsimp only
  rw [standing_get, ha]
  dsimp only
  by_cases hrole : ho.role = .primary
  · have hreached : Safety.Reached ho c f = newLevels ho c f := if_pos hrole
    rw [if_pos hrole, standing_setChannel, handToTracker_standing, reachedHanded, crossed, hreached]
    cases mixed with
    | false => simp
    | true => simp only [if_true, handToPlanner_standing, List.append_assoc]
  · have hreached : Safety.Reached ho c f = [] := if_neg hrole
    rw [if_neg hrole, reachedHanded, crossed, hreached]
    cases mixed <;> simp [recordLevels, ← ha]

/-! ### Crossings discarded (R72, R101) -/

/-- An interface without the crossings a channel recorded, where the channel is its primary. -/
def withoutCrossings (ch : Channel) (c : ChannelState) (i : Interface) : Interface :=
  if (i.snapshot.bind (·.primary)) = some ch then
    { i with crossings := ⟨dropCrossing c.crossings.h i.crossings.h, dropCrossing c.crossings.mid i.crossings.mid,
      dropCrossing c.crossings.t i.crossings.t⟩ }
  else i

/-- The state without the crossings a channel recorded for an interface. -/
def discarded (ch : Channel) (id : Nat) (c : ChannelState) (s : State) : State :=
  { s.setTrain (modInterface id (withoutCrossings ch c) s.lt.train) with handed := s.handed.filter (fun y => !crossingOf ch id y) }

@[simp] theorem discarded_tables (id : Nat) : (discarded ch id c s).tables = s.tables := rfl

theorem discardCrossings_standing (ha : c.active = some ho) : discardCrossings ch (standing ch c [] s)
    = standing ch { c with crossings := .all none } [] (discarded ch ho.batch c s) := by
  unfold discardCrossings
  dsimp only
  rw [standing_get, ha]
  simp only [standing, State.setChannel, State.setTrain, set_set, List.append_nil, discarded]
  rfl

theorem withoutCrossings_eq (ch : Channel) (c : ChannelState) (j : Interface) : ∃ x, withoutCrossings ch c j = { j with crossings := x }
    ∧ ∀ l, x.get l = if (j.snapshot.bind (·.primary)) = some ch ∧ j.crossings.get l = c.crossings.get l then none
        else j.crossings.get l := by
  unfold withoutCrossings
  split
  next hprimary =>
    refine ⟨_, rfl, fun l => ?_⟩
    simp only [hprimary, true_and, eq_comm (a := j.crossings.get l)]
    cases l <;> rfl
  next hprimary => exact ⟨j.crossings, rfl, fun l => by rw [if_neg fun h => hprimary h.1]⟩

theorem findEntry_modOther {k id : Nat} {g : Interface → Interface} {xs : List Entry} (h : k ≠ id) :
    findEntry k (modInterface id g xs) = findEntry k xs := by
  refine (findEntry_map (changed_id (id := id) (f := fun e => { e with leading := e.leading.map g }) fun _ => rfl)).trans ?_
  cases he : findEntry k xs with
  | none => rfl
  | some e => exact congrArg some (changed_other ((findEntry_id he).trans_ne h))

theorem crossingsGone_standing (hi : i.canonical = i) (id : Nat) :
    Safety.CrossingsGone ch id c i more s (standing ch c' more (discarded ch id c (s.take i))) := by
  refine ⟨?_, fun k hk => findEntry_modOther hk, fun j hj => ?_⟩
  · simp [standing, discarded, hi]
  · obtain ⟨x, hx, hget⟩ := withoutCrossings_eq ch c j
    exact ⟨x, (interfaceOf_modInterface hj).trans (congrArg some hx), hget⟩

/-! ### A departure's end as false (R72) -/

theorem falseDeparture_standing (ha : c.active = some ho) (hd : c.depStart = some d) (hmark : c.expiryMark = false) :
    falseDeparture ch tag (standing ch c [] s) = standing ch { c with mode := .watch, depStart := none, crossings := .all none }
      [.eventPosted .falseDeparture ho.batch ((tag : Int) - d)] (discarded ch ho.batch c s) := by
  unfold falseDeparture
  dsimp only
  rw [standing_get, ha]
  dsimp only
  rw [discardCrossings_standing ha, standing_post, hmark, if_neg Bool.false_ne_true, standing_modChannel, hd]
  simp only [← ha, ← hmark]
  rfl

theorem falseDeparture_expired (ha : c.active = some ho) (hd : c.depStart = some d) (hmark : c.expiryMark = true) (hw : c.waiting = none) :
    falseDeparture ch tag (standing ch c [] s) = standing ch (Safety.CleanOf c c.body)
      [.eventPosted .falseDeparture ho.batch ((tag : Int) - d), .missReturned ch ho.batch] (discarded ch ho.batch c s) := by
  unfold falseDeparture
  dsimp only
  rw [standing_get, ha]
  dsimp only
  rw [discardCrossings_standing ha, standing_post, hmark, if_pos rfl, standing_get, toClean_standing (by exact hw), standing_hand, hd]
  rfl

/-! ### A reading, by the state of its channel -/

/-- A reading taken: the channel notes it and its S. -/
theorem noted_standing (hc : Safety.Noted (s.sd.get ch) v q tag = c) :
    modChannel ch (fun c => { c with current := some ⟨v, q, tag⟩ }) (noteS ch tag s) = standing ch c [] s := by
  rw [noteS_standing, standing_modChannel, ← hc]
  rfl

theorem reading_off (hc : Safety.Noted (s.sd.get ch) v q tag = c) (hmode : c.mode = .off) :
    takeReading ch v q tag s = readOff ch v q (standing ch c [] s) := by
  simp only [takeReading, noted_standing hc, standing_get, hmode]

theorem reading_acquire (hc : Safety.Noted (s.sd.get ch) v q tag = c) (hmode : c.mode = .acquire) :
    takeReading ch v q tag s = readAcquire ch v q (standing ch c [] s) := by
  simp only [takeReading, noted_standing hc, standing_get, hmode]

theorem reading_clean (hc : Safety.Noted (s.sd.get ch) v q tag = c) (hmode : c.mode = .clean) :
    takeReading ch v q tag s = readClean ch v q tag (standing ch c [] s) := by
  simp only [takeReading, noted_standing hc, standing_get, hmode]

theorem reading_excursion (hc : Safety.Noted (s.sd.get ch) v q tag = c) (hmode : c.mode = .excursion) :
    takeReading ch v q tag s = readExcursion ch v tag (standing ch c [] s) := by
  simp only [takeReading, noted_standing hc, standing_get, hmode]

theorem reading_watch (hc : Safety.Noted (s.sd.get ch) v q tag = c) (hmode : c.mode = .watch) (ha : c.active = some ho) (hp : c.pair = some p) :
    takeReading ch v q tag s = readWatch ch ho (mixFraction p v) tag (standing ch c [] s) := by
  simp only [takeReading, noted_standing hc, readFollowing, followed, standing_get, hmode, ha, hp]

theorem reading_locked (hc : Safety.Noted (s.sd.get ch) v q tag = c) (hmode : c.mode = .locked) (ha : c.active = some ho) (hp : c.pair = some p) :
    takeReading ch v q tag s = readLocked ch ho (mixFraction p v) (standing ch c [] s) := by
  simp only [takeReading, noted_standing hc, readFollowing, followed, standing_get, hmode, ha, hp]

theorem reading_departing (hc : Safety.Noted (s.sd.get ch) v q tag = c) (hmode : c.mode = .departing) (ha : c.active = some ho)
    (hp : c.pair = some p) : takeReading ch v q tag s = readDeparting ch ho (mixFraction p v) tag (standing ch c [] s) := by
  simp only [takeReading, noted_standing hc, readFollowing, followed, standing_get, hmode, ha, hp]

theorem reading_mixed (hc : Safety.Noted (s.sd.get ch) v q tag = c) (hmode : c.mode = .mixed) (ha : c.active = some ho) (hp : c.pair = some p) :
    takeReading ch v q tag s = readMixed ch ho v q (mixFraction p v) tag (standing ch c [] s) := by
  simp only [takeReading, noted_standing hc, readFollowing, followed, standing_get, hmode, ha, hp]

theorem reading_settling (hc : Safety.Noted (s.sd.get ch) v q tag = c) (hmode : c.mode = .settling) (ha : c.active = some ho)
    (hp : c.pair = some p) : takeReading ch v q tag s = readSettling ch ho v q (mixFraction p v) tag (standing ch c [] s) := by
  simp only [takeReading, noted_standing hc, readFollowing, followed, standing_get, hmode, ha, hp]

/-! ### The event -/

theorem reading_exec (hrun : s.running = true) (v : Int) (q : ReadingQuality) (tag : Nat) : exec (.channelReading ch v q tag) s
    = .next (channelEvent (takeReading ch v q tag) (s.take (.channelReading ch v q tag))) := event_running hrun

/-- A reading that leaves the channel holding what it held. -/
theorem reading_kept (hrun : s.running = true)
    (hk : takeReading ch v q tag (s.take (.channelReading ch v q tag)) = standing ch c' more u) (hu : u.sd = s.sd)
    (hheld : holds (s.sd.get ch) = holds c') : exec (.channelReading ch v q tag) s = .next (standing ch c' more u) :=
  event_kept (reading_exec hrun v q tag) hk hu hheld

/-- A reading with which the channel gives up the one interface it held. -/
theorem reading_ceased (hrun : s.running = true)
    (hk : takeReading ch v q tag (s.take (.channelReading ch v q tag)) = standing ch c' more u) (hu : u.sd = s.sd)
    (hheld : holds (s.sd.get ch) = true ↔ ho.role = .primary) (hnone : holds c' = false) :
    exec (.channelReading ch v q tag) s = .next (standing ch c' (more ++ Safety.Ceased ch ho) u) :=
  event_ceased (reading_exec hrun v q tag) hk hu hheld hnone

/-- A reading that moves its channel alone. -/
theorem reading_moves (hrun : s.running = true)
    (hk : takeReading ch v q tag (s.take (.channelReading ch v q tag)) = standing ch c' more (s.take (.channelReading ch v q tag)))
    (hheld : holds (s.sd.get ch) = holds c') : exec (.channelReading ch v q tag) s
      = .next { s with sd := s.sd.set ch c', handed := s.handed.erase (.channelReading ch v q tag) ++ more } :=
  reading_kept hrun hk rfl hheld

end

end Sys2Proof.Proofs.Channels
end

section
/-! What a reading does in each state of a channel (O46). -/
namespace Sys2Proof.Proofs.Channels

open Sys2Proof Sys2Proof.Machine
open Sys2Proof.Proofs.Windows

section
variable {ch : Channel} {c : ChannelState} {s : State} {ho : HandOff} {p : RefPair} {f d b tag : Nat}
  {q : ReadingQuality} {v m : Int} {x : Excursion}

/-! ### The body band (R66) -/

theorem inBodyBand_eq (hbody : c.body ≠ []) (hm : Safety.RoundedQuotient c.body.sum c.body.length m) :
    inBodyBand s c v = some (decide ((v - m).natAbs ≤ s.tables.params.bodyBand)) := by
  rw [inBodyBand, bodyMean, meanOf_rounded hbody hm]
  rfl

theorem keepLast_of_le {α : Type} {k : Nat} {xs : List α} (h : xs.length ≤ k) : keepLast k xs = xs := by
  rw [keepLast, Nat.sub_eq_zero_of_le h, List.drop_zero]

theorem keepLast_append (xs : List Int) (v : Int) : keepLast Config.bodyCap (xs ++ [v]) = (xs ++ [v]).drop (xs.length + 1 - 16) := by
  rw [keepLast, List.length_append]
  rfl

/-! ### OFF and ACQUIRE (R67, R68) -/

theorem readOff_good : readOff ch v .good (standing ch c [] s)
    = standing ch { c with mode := .acquire, acquire := [v] } [.channelLeftOffReport ch] s := by
  rw [readOff, standing_modChannel, standing_hand]
  rfl

theorem readAcquire_suspect : readAcquire ch v .suspect (standing ch c [] s) = standing ch { c with acquire := [] } [] s := by
  simp [readAcquire]

theorem readAcquire_grows (h : runAcquired s.tables.params.bodyBand (c.acquire ++ [v]) = false) (hlength : c.acquire.length ≤ 3) :
    readAcquire ch v .good (standing ch c [] s) = standing ch { c with acquire := c.acquire ++ [v] } [] s := by
  have hrun : keepLast Config.acquireCount (c.acquire ++ [v]) = c.acquire ++ [v] :=
    keepLast_of_le (by simpa [Config.acquireCount, Nat.lt_succ_iff] using hlength)
  simp [readAcquire, hrun, h]

theorem readAcquire_acquired (h : runAcquired s.tables.params.bodyBand (c.acquire ++ [v]) = true) (hlength : c.acquire.length ≤ 3)
    (hw : c.waiting = none) : readAcquire ch v .good (standing ch c [] s)
      = standing ch { Safety.CleanOf c (c.acquire ++ [v]) with acquire := [] } [] s := by
  have hrun : keepLast Config.acquireCount (c.acquire ++ [v]) = c.acquire ++ [v] :=
    keepLast_of_le (by simpa [Config.acquireCount, Nat.lt_succ_iff] using hlength)
  simp only [readAcquire, standing_get, standing_tables, hrun, h, if_true]
  exact toClean_standing hw

/-- A run of fewer than four readings is not yet acquired. -/
theorem runAcquired_short {band : Nat} {run : List Int} (h : run.length ≠ 4) : runAcquired band run = false := by
  unfold runAcquired
  split
  · rw [show (run.length == Config.acquireCount) = false from beq_false_of_ne h, Bool.false_and]
  · rfl

theorem runAcquired_four {a b d : Int} {band : Nat} (hm : Safety.RoundedQuotient (a + b + d + v) 4 m) :
    runAcquired band [a, b, d, v] = true
      ↔ (a - m).natAbs ≤ band ∧ (b - m).natAbs ≤ band ∧ (d - m).natAbs ≤ band ∧ (v - m).natAbs ≤ band := by
  have hmean : meanOf [a, b, d, v] = some m := meanOf_rounded (List.cons_ne_nil _ _) (by simpa [add_assoc] using hm)
  simp [runAcquired, hmean, Machine.within, Config.acquireCount]

/-! ### CLEAN (R66, R69) -/

theorem readClean_inBand (hband : inBodyBand s c v = some true) : readClean ch v q tag (standing ch c [] s)
    = standing ch { c with body := if q = .good then keepLast Config.bodyCap (c.body ++ [v]) else c.body, measure := none } [] s := by
  have hband' : inBodyBand (standing ch c [] s) c v = some true := hband
  simp only [readClean, standing_get, hband', standing_setChannel]
  split <;> rfl

theorem readClean_outOfBand (hband : inBodyBand s c v = some false) (hm : c.measure = none) (hhold : 0 < s.tables.params.holdVolume) :
    readClean ch v q tag (standing ch c [] s) = standing ch { c with measure := some ⟨tag, v⟩ } [] s := by
  have hband' : inBodyBand (standing ch c [] s) c v = some false := hband
  simp [readClean, hband', hm, measureComplete, hhold.ne']

/-! ### WATCH, LOCKED and DEPARTING (R71, R72) -/

theorem readWatch_departs (ha : c.active = some ho) (h : ho.fd ≤ f) : readWatch ch ho f tag (standing ch c [] s)
    = standing ch { c with mode := .departing, depStart := some tag, crossings := crossed ho c f tag }
        ((Safety.Reached ho c f).map (fun l => .crossingToLineTracker ch ho.batch l tag)) s := by
  rw [readWatch, if_pos h, standing_modChannel, examineLevels_standing (by exact ha)]
  simp only [reachedHanded, Bool.false_eq_true, if_false, List.append_nil, List.nil_append]
  rfl

theorem readLocked_clears (h : f + s.tables.params.hysteresis < ho.fd) : readLocked ch ho f (standing ch c [] s)
    = standing ch { c with mode := .watch } [.eventPosted .detectorCleared ho.batch (fractionDetail ch f)] s := by
  rw [readLocked, if_pos (by exact h), standing_modChannel, standing_post]
  rfl

theorem readDeparting_false (h : f + s.tables.params.hysteresis < ho.fd) :
    readDeparting ch ho f tag (standing ch c [] s) = falseDeparture ch tag (standing ch c [] s) := if_pos h

theorem readDeparting_goesOn (ha : c.active = some ho) (h : ho.fd ≤ f + s.tables.params.hysteresis) (hd : c.depStart = some d)
    (hhold : tag < d + s.tables.params.holdVolume) : readDeparting ch ho f tag (standing ch c [] s)
      = standing ch { c with crossings := crossed ho c f tag } (reachedHanded ch ho c f tag false) s := by
  rw [readDeparting, if_neg (by exact Nat.not_lt.mpr h)]
  dsimp only
  rw [examineLevels_standing ha, standing_get, if_neg, List.nil_append]
  exact fun hpassed => Nat.not_le.mpr hhold ((holdPassed_iff (by exact hd)).mp hpassed)

theorem readDeparting_confirms (ha : c.active = some ho) (h : ho.fd ≤ f + s.tables.params.hysteresis) (hd : c.depStart = some d)
    (hhold : d + s.tables.params.holdVolume ≤ tag) : readDeparting ch ho f tag (standing ch c [] s)
      = standing ch { c with mode := .mixed, expiryMark := false, crossings := crossed ho c f tag }
          (reachedHanded ch ho c f tag false ++ departureHanded ch ho d (crossed ho c f tag)) s := by
  rw [readDeparting, if_neg (by exact Nat.not_lt.mpr h)]
  dsimp only
  rw [examineLevels_standing ha, standing_get, List.nil_append]
  exact (if_pos ((holdPassed_iff (by exact hd)).mpr hhold)).trans (confirmDeparture_standing (by exact ha) (by exact hd))

/-! ### MIXED and SETTLING (R73 to R75) -/

theorem readMixed_long (ha : c.active = some ho) (hd : c.depStart = some d) (h : d + ho.maxMix < tag) :
    readMixed ch ho v q f tag (standing ch c [] s) = declareLong ch tag (standing ch c [] s) := by
  rw [readMixed, standing_get, if_pos (longMix_of_lt ha hd h)]

theorem readSettling_long (ha : c.active = some ho) (hd : c.depStart = some d) (h : d + ho.maxMix < tag) :
    readSettling ch ho v q f tag (standing ch c [] s) = declareLong ch tag (standing ch c [] s) := by
  rw [readSettling, standing_get, if_pos (longMix_of_lt ha hd h)]

/-- A channel in MIXED with the levels of a fraction recorded; at fa it settles. -/
def mixedOf (ho : HandOff) (c : ChannelState) (f : Nat) (v : Int) (q : ReadingQuality) (tag : Nat) : ChannelState :=
  { c with
    crossings := crossed ho c f tag
    mode := if ho.fa ≤ f then .settling else .mixed
    settleStart := if ho.fa ≤ f then some tag else c.settleStart
    settleBuf := if ho.fa ≤ f then (if q = .good then [v] else []) else c.settleBuf }

theorem readMixed_goesOn (hmode : c.mode = .mixed) (ha : c.active = some ho) (hd : c.depStart = some d) (h : tag ≤ d + ho.maxMix) :
    readMixed ch ho v q f tag (standing ch c [] s) = standing ch (mixedOf ho c f v q tag) (reachedHanded ch ho c f tag true) s := by
  rw [readMixed, standing_get, if_neg (by simp [longMix_of_le ha hd h])]
  dsimp only
  rw [examineLevels_standing ha, List.nil_append, mixedOf]
  by_cases hfa : ho.fa ≤ f
  · simp only [if_pos hfa, standing_modChannel]
  · simp only [if_neg hfa, ← hmode]

theorem readSettling_returns (ha : c.active = some ho) (hd : c.depStart = some d) (hlong : tag ≤ d + ho.maxMix)
    (h : f + s.tables.params.hysteresis < ho.fa) : readSettling ch ho v q f tag (standing ch c [] s)
      = standing ch { c with mode := .mixed, settleStart := none, settleBuf := [] } [] s := by
  rw [readSettling, standing_get, if_neg (by simp [longMix_of_le ha hd hlong]), if_pos (by exact h), standing_modChannel]

theorem settling_eq (buf : List Int) (v : Int) (q : ReadingQuality) :
    (if q = .good then keepLast Config.bodyCap (buf ++ [v]) else buf) = Safety.Settling buf v q := by
  rw [Safety.Settling, keepLast_append]

theorem readSettling_goesOn (ha : c.active = some ho) (hd : c.depStart = some d) (hlong : tag ≤ d + ho.maxMix)
    (h : ho.fa ≤ f + s.tables.params.hysteresis) (hb : c.settleStart = some b) (hsettle : tag < b + s.tables.params.settleVolume) :
    readSettling ch ho v q f tag (standing ch c [] s)
      = standing ch { c with settleBuf := Safety.Settling c.settleBuf v q } [] s := by
  rw [readSettling, standing_get, if_neg (by simp [longMix_of_le ha hd hlong]), if_neg (by exact Nat.not_lt.mpr h), standing_modChannel]
  dsimp only
  rw [settling_eq, standing_get, if_neg]
  exact fun hpassed => Nat.not_le.mpr hsettle ((settlePassed_iff (by exact hb)).mp hpassed)

theorem readSettling_settles (ha : c.active = some ho) (hd : c.depStart = some d) (hlong : tag ≤ d + ho.maxMix)
    (h : ho.fa ≤ f + s.tables.params.hysteresis) (hb : c.settleStart = some b) (hsettle : b + s.tables.params.settleVolume ≤ tag)
    (hw : c.waiting = none) : readSettling ch ho v q f tag (standing ch c [] s)
      = standing ch (Safety.CleanOf c (settledBody s.tables.params.bodyBand (Safety.Settling c.settleBuf v q))) [] s := by
  rw [readSettling, standing_get, if_neg (by simp [longMix_of_le ha hd hlong]), if_neg (by exact Nat.not_lt.mpr h), standing_modChannel]
  dsimp only
  rw [settling_eq, standing_get]
  exact (if_pos ((settlePassed_iff (by exact hb)).mpr hsettle)).trans (settle_standing (by exact hw))

/-! ### EXCURSION (R78) -/

theorem readExcursion_outOfBand (hband : inBodyBand s c v = some false) :
    readExcursion ch v tag (standing ch c [] s) = standing ch { c with inBand := none } [] s := by
  have hband' : inBodyBand (standing ch c [] s) c v = some false := hband
  simp [readExcursion, hband', runComplete]

theorem readExcursion_inBand (hband : inBodyBand s c v = some true) (hb : c.inBand.getD tag = b)
    (h : tag < b + s.tables.params.settleVolume) :
    readExcursion ch v tag (standing ch c [] s) = standing ch { c with inBand := some b } [] s := by
  have hband' : inBodyBand (standing ch c [] s) c v = some true := hband
  simp [readExcursion, hband', hb, runComplete, h]

theorem readExcursion_ends (hband : inBodyBand s c v = some true) (hb : c.inBand = some b) (hx : c.excursion = some x)
    (hw : c.waiting = none) (h : b + s.tables.params.settleVolume ≤ tag) : readExcursion ch v tag (standing ch c [] s)
      = standing ch (Safety.ExcursionOver c x tag) [.eventPosted .excursionEnded (channelNumber ch) ((tag : Int) - x.start),
          .excursionEndHanded ch tag x.decision .routeController] s := by
  have hband' : inBodyBand (standing ch c [] s) c v = some true := hband
  simp only [readExcursion, standing_get, hband', Option.getD_some, if_true, hb, standing_setChannel]
  have hover : runComplete s { c with inBand := some b } tag = true := (runComplete_iff rfl).mpr h
  exact (if_pos hover).trans (endExcursion_standing (by exact hx) (by exact hw))

end

end Sys2Proof.Proofs.Channels
end

section
/-! Readings move a channel in each of its states (O46). -/
namespace Sys2Proof.Proofs.Channels

open Sys2Proof Sys2Proof.Machine

section
variable {ch : Channel} {v : Int} {q : ReadingQuality} {tag : Nat} {s : State}

theorem fractionDetail_eq (ch : Channel) (f : Nat) : fractionDetail ch f = if ch = .manifold then (f : Int) + 10000 else f := rfl

/-- R71, R72: readings in LOCKED and DEPARTING. -/
theorem readsDeparture (hrun : s.running = true) : Safety.ReadsDeparture ch v q tag s := by
  unfold Safety.ReadsDeparture
  intro i c becomes hys ho p ha hp f
  have hc : Safety.Noted ((s.take i).sd.get ch) v q tag = c := rfl
  have hheld : holds (s.sd.get ch) = holds c := rfl
  clear_value c
  refine ⟨fun hmode => ⟨fun h => ?_, fun h => ?_⟩, fun d hmode hd => ⟨?_, fun h =>
    ⟨crossed ho c f tag, crossed_spec ho c f tag, fun hhold => ?_, fun hhold => ?_⟩⟩⟩
  · exact reading_moves hrun ((reading_locked hc hmode ha hp).trans (readLocked_clears h)) hheld
  · exact reading_moves (more := []) hrun ((reading_locked hc hmode ha hp).trans (if_neg (Nat.not_lt.mpr h))) hheld
  · intro h hw ended leaves
    have hk := (reading_departing hc hmode ha hp).trans (readDeparting_false h)
    refine ⟨fun hmark => ?_, fun hmark => ?_⟩
    · exact ⟨_, reading_kept hrun (hk.trans (falseDeparture_standing ha hd hmark)) rfl hheld, crossingsGone_standing rfl _, rfl⟩
    · exact ⟨_, reading_ceased hrun (hk.trans (falseDeparture_expired ha hd hmark hw)) rfl (hheld ▸ holds_active ha hw) (holds_none rfl hw),
        crossingsGone_standing rfl _, rfl⟩
  · have hk := reading_moves hrun ((reading_departing hc hmode ha hp).trans (readDeparting_goesOn ha h hd hhold)) hheld
    rw [reachedHanded, if_neg Bool.false_ne_true, List.append_nil] at hk
    exact hk
  · have hk := reading_moves hrun ((reading_departing hc hmode ha hp).trans (readDeparting_confirms ha h hd hhold)) hheld
    rw [reachedHanded, if_neg Bool.false_ne_true, List.append_nil] at hk
    exact hk

/-- R73 to R75: readings in MIXED and SETTLING. -/
theorem readsMixed (hrun : s.running = true) : Safety.ReadsMixed ch v q tag s := by
  unfold Safety.ReadsMixed
  intro i c becomes hys ho p d ha hp hd f
  have hc : Safety.Noted ((s.take i).sd.get ch) v q tag = c := rfl
  have hheld : holds (s.sd.get ch) = holds c := rfl
  clear_value c
  refine ⟨?_, fun hmode hlong => ⟨crossed ho c f tag, crossed_spec ho c f tag, ?_⟩,
    fun b hmode hb hlong => ⟨fun h => ?_, fun h => ⟨fun hsettle => ?_, fun hsettle hw => ?_⟩⟩⟩
  · intro hmode hw hlong forced
    have hk : takeReading ch v q tag (s.take i) = declareLong ch tag (standing ch c [] (s.take i)) := by
      rcases hmode with hmode | hmode
      · exact (reading_mixed hc hmode ha hp).trans (readMixed_long ha hd hlong)
      · exact (reading_settling hc hmode ha hp).trans (readSettling_long ha hd hlong)
    have hexec := reading_ceased hrun (hk.trans (declareLong_standing ha)) rfl (hheld ▸ holds_active ha hw) (holds_none rfl hw)
    rw [forcedLevels_active ha, longHanded] at hexec
    simp only [List.nil_append, List.append_assoc, List.singleton_append] at hexec
    simp only [becomes, List.append_assoc]
    exact hexec
  · exact reading_moves hrun ((reading_mixed hc hmode ha hp).trans (readMixed_goesOn hmode ha hd hlong)) hheld
  · exact reading_moves hrun ((reading_settling hc hmode ha hp).trans (readSettling_returns ha hd hlong h)) hheld
  · exact reading_moves hrun ((reading_settling hc hmode ha hp).trans (readSettling_goesOn ha hd hlong h hb hsettle)) hheld
  · refine ⟨_, seeded_settledBody .., ?_⟩
    exact reading_ceased hrun ((reading_settling hc hmode ha hp).trans (readSettling_settles ha hd hlong h hb hsettle hw)) rfl
      (hheld ▸ holds_active ha hw) (holds_none rfl hw)

/-- R78: readings in EXCURSION. -/
theorem readsExcursion (hrun : s.running = true) : Safety.ReadsExcursion ch v q tag s := by
  unfold Safety.ReadsExcursion
  intro i c becomes x m hmode hx ha hw hbody hm hsettle
  have hc : Safety.Noted ((s.take i).sd.get ch) v q tag = c := rfl
  have hheld : holds (s.sd.get ch) = holds c := rfl
  clear_value c
  have hk := reading_excursion hc hmode
  have hband : inBodyBand (s.take i) c v = some (decide ((v - m).natAbs ≤ s.tables.params.bodyBand)) := inBodyBand_eq hbody hm
  refine ⟨fun h => ?_, fun h => ?_⟩
  · rw [decide_eq_false (Nat.not_le.mpr h)] at hband
    exact reading_moves hrun (hk.trans (readExcursion_outOfBand hband)) hheld
  · rw [decide_eq_true h] at hband
    refine ⟨fun hb => ?_, fun b hb => ⟨fun hlong => ?_, fun hlong => ?_⟩⟩
    · exact reading_moves hrun (hk.trans (readExcursion_inBand hband (by rw [hb]; rfl) (Nat.lt_add_of_pos_right hsettle))) hheld
    · have hexec := reading_moves hrun (hk.trans (readExcursion_inBand hband (by rw [hb]; rfl) hlong)) hheld
      rw [← hb] at hexec
      exact hexec
    · exact reading_moves hrun (hk.trans (readExcursion_ends hband hb hx hw hlong))
        (hheld.trans ((holds_none ha hw).trans (Eq.symm (holds_none rfl hw))))

end

/-- Settles O46. -/
theorem readingsMoveTheChannel : Obligations.ReadingsMoveTheChannel := by
  intro ch v q tag s hrun
  refine ⟨readsDeparture hrun, readsMixed hrun, readsExcursion hrun, ?_⟩
  intro i c becomes
  have hc : Safety.Noted ((s.take i).sd.get ch) v q tag = c := rfl
  have hheld : holds (s.sd.get ch) = holds c := rfl
  clear_value c
  refine ⟨fun hmode hq => ?_, fun hmode hq => ?_, fun hmode hq => ?_, fun hmode hq hlength => ?_, fun a b d m hmode hq hrun' ha hw hm => ?_,
    fun m hmode hbody hm => ?_, fun ho p hmode ha hp => ?_⟩
  · subst hq
    exact reading_moves hrun ((reading_off hc hmode).trans readOff_good) hheld
  · subst hq
    exact reading_moves (more := []) hrun (reading_off hc hmode) hheld
  · subst hq
    exact reading_moves hrun ((reading_acquire hc hmode).trans readAcquire_suspect) hheld
  · subst hq
    have hshort : (c.acquire ++ [v]).length ≠ 4 := by
      rw [List.length_append]
      exact Nat.ne_of_lt (Nat.succ_lt_succ hlength)
    exact reading_moves hrun ((reading_acquire hc hmode).trans (readAcquire_grows (runAcquired_short hshort) hlength.le)) hheld
  · subst hq
    have hgrown : c.acquire ++ [v] = [a, b, d, v] := by rw [hrun']; rfl
    have hlength : c.acquire.length ≤ 3 := by rw [hrun']; exact Nat.le_refl 3
    have hk := reading_acquire hc hmode
    have hfour := runAcquired_four (band := s.tables.params.bodyBand) hm
    refine ⟨fun h => ?_, fun h => ?_⟩
    · have hexec := reading_moves hrun (hk.trans (readAcquire_acquired (hgrown ▸ hfour.mpr h) hlength hw)) 
        (hheld.trans ((holds_none ha hw).trans (Eq.symm (holds_none rfl hw))))
      exact ⟨_, hexec, rfl, hgrown, rfl, rfl⟩
    · have hnot : runAcquired s.tables.params.bodyBand (c.acquire ++ [v]) = false := by
        rw [hgrown, Bool.eq_false_iff, ne_eq, hfour]
        exact fun hall => Nat.not_le.mpr h hall.2.2.2
      have hexec := reading_moves hrun (hk.trans (readAcquire_grows hnot hlength)) hheld
      rw [hgrown] at hexec
      exact hexec
  · have hk := reading_clean hc hmode
    have hband : inBodyBand (s.take i) c v = some (decide ((v - m).natAbs ≤ s.tables.params.bodyBand)) := inBodyBand_eq hbody hm
    refine ⟨fun h => ?_, fun h hnone hhold => ?_⟩
    · rw [decide_eq_true h] at hband
      have hexec := reading_moves hrun (hk.trans (readClean_inBand hband)) hheld
      rw [keepLast_append] at hexec
      exact hexec
    · rw [decide_eq_false (Nat.not_le.mpr h)] at hband
      exact reading_moves hrun (hk.trans (readClean_outOfBand hband hnone hhold)) hheld
  · have hk := reading_watch hc hmode ha hp
    refine ⟨fun h => ?_, fun h hnone => ?_⟩
    · exact reading_moves (more := []) hrun (hk.trans (if_neg (Nat.not_le.mpr h))) hheld
    · exact ⟨_, rfl, rfl, crossed_spec ho c _ tag, reading_moves hrun (hk.trans (readWatch_departs ha h)) hheld⟩

end Sys2Proof.Proofs.Channels
end

section
/-! How a channel holds, returns and gives up an interface, and how it goes OFF. -/
namespace Sys2Proof.Proofs.Channels

open Sys2Proof Sys2Proof.Machine
open Sys2Proof.Proofs.Answers
open Sys2Proof.Proofs.Planner
open Sys2Proof.Proofs.Train
open Sys2Proof.Proofs.Windows

section
variable {ch : Channel} {c c' : ChannelState} {more : List Instr} {s u : State} {i : Instr} {k : State → State} {ho : HandOff}
  {sn : Snapshot} {j : Interface} {id : Nat}

/-! ### The events of a channel -/

/-- An event of the channel that stands as `c`, by which it holds what it held. -/
theorem standing_kept (hexec : exec i s = .next (channelEvent k (s.take i))) (hc : s.sd.get ch = c)
    (hk : k (standing ch c [] (s.take i)) = standing ch c' more u) (hu : u.sd = s.sd) (hheld : holds c = holds c') :
    exec i s = .next (standing ch c' more u) := by
  rw [standing_self (s := s.take i) hc] at hk
  exact event_kept hexec hk hu (hc ▸ hheld)

/-- An event of the channel that stands as `c`, by which it gives up the one interface it held. -/
theorem standing_ceased (hexec : exec i s = .next (channelEvent k (s.take i))) (hc : s.sd.get ch = c)
    (hk : k (standing ch c [] (s.take i)) = standing ch c' more u) (hu : u.sd = s.sd) (hheld : holds c = true ↔ ho.role = .primary)
    (hnone : holds c' = false) : exec i s = .next (standing ch c' (more ++ Safety.Ceased ch ho) u) := by
  rw [standing_self (s := s.take i) hc] at hk
  exact event_ceased hexec hk hu (hc ▸ hheld) hnone

theorem expiry_exec (hrun : s.running = true) (ch : Channel) (id : Nat) : exec (.channelWindowExpiry ch id) s
    = .next (channelEvent (windowExpired ch id) (s.take (.channelWindowExpiry ch id))) := event_running hrun

theorem release_exec (hrun : s.running = true) (ch : Channel) (id : Nat) : exec (.channelRelease ch id) s
    = .next (channelEvent (released ch id) (s.take (.channelRelease ch id))) := event_running hrun

theorem slotLost_exec (hrun : s.running = true) (ch : Channel) : exec (.channelSlotLost ch) s
    = .next (channelEvent (slotLost ch) (s.take (.channelSlotLost ch))) := event_running hrun

theorem slotRecovered_exec (hrun : s.running = true) (ch : Channel) : exec (.channelSlotRecovered ch) s
    = .next (channelEvent (slotRecovered ch) (s.take (.channelSlotRecovered ch))) := event_running hrun

/-! ### The window's expiry and a release (R71, R72, R101) -/

theorem isWaiting_none (hw : c.waiting = none) : isWaiting c id = false := by simp [isWaiting, hw]

theorem isWaiting_self (hw : c.waiting = some ho) : isWaiting c ho.batch = true := by simp [isWaiting, hw]

theorem isWaiting_other (hw : c.waiting.map (·.batch) ≠ some id) : isWaiting c id = false := by simpa [isWaiting] using hw

theorem isActive_self (ha : c.active = some ho) : isActive c ho.batch = true := by simp [isActive, ha]

theorem windowExpired_waiting (hw : c.waiting = some ho) : windowExpired ch ho.batch (standing ch c [] s)
    = standing ch { c with waiting := none } [.missReturned ch ho.batch] s := by
  rw [windowExpired, standing_get, if_pos (isWaiting_self hw), standing_setChannel, standing_hand]
  rfl

theorem windowExpired_watching (hmode : c.mode = .watch ∨ c.mode = .locked) (ha : c.active = some ho) (hw : c.waiting = none) :
    windowExpired ch ho.batch (standing ch c [] s) = standing ch (Safety.CleanOf c c.body) [.missReturned ch ho.batch] s := by
  have hreturned : (toClean ch c (standing ch c [] s)).hand (.missReturned ch ho.batch)
      = standing ch (Safety.CleanOf c c.body) [.missReturned ch ho.batch] s := by
    rw [toClean_standing hw, standing_hand]
    rfl
  simp only [windowExpired, standing_get, isWaiting_none hw, isActive_self ha, Bool.false_eq_true, if_false, if_true]
  rcases hmode with hmode | hmode <;> simp only [hmode, hreturned]

theorem windowExpired_departing (hmode : c.mode = .departing) (ha : c.active = some ho)
    (hw : c.waiting.map (·.batch) ≠ some ho.batch) : windowExpired ch ho.batch (standing ch c [] s)
      = standing ch { c with expiryMark := true } [] s := by
  simp only [windowExpired, standing_get, isWaiting_other hw, isActive_self ha, Bool.false_eq_true, if_false, if_true]
  rw [hmode]
  exact standing_setChannel

theorem released_waiting (hw : c.waiting = some ho) : released ch ho.batch (standing ch c [] s)
    = standing ch { c with waiting := none } [] s := by
  rw [released, standing_get, if_pos (isWaiting_self hw), standing_setChannel]

theorem released_watching (hmode : c.mode = .watch ∨ c.mode = .locked) (ha : c.active = some ho) (hw : c.waiting = none) :
    released ch ho.batch (standing ch c [] s) = standing ch (Safety.CleanOf c c.body) [] s := by
  simp only [released, standing_get, isWaiting_none hw, isActive_self ha, Bool.false_eq_true, if_false, if_true]
  rcases hmode with hmode | hmode <;> simp only [hmode, toClean_standing hw]

theorem released_departing (hmode : c.mode = .departing) (ha : c.active = some ho) (hw : c.waiting = none) :
    released ch ho.batch (standing ch c [] s) = standing ch (Safety.CleanOf c c.body) [] (discarded ch ho.batch c s) := by
  simp only [released, standing_get, isWaiting_none hw, isActive_self ha, Bool.false_eq_true, if_false, if_true]
  rw [hmode]
  dsimp only
  rw [discardCrossings_standing ha, standing_get, toClean_standing (by exact hw)]
  rfl

theorem leaveZone_standing (ha : c.active = some ho) : leaveZone ch (standing ch c [] s)
    = standing ch { c with active := none, ghost := some ho, crossings := .all none } [] (discarded ch ho.batch c s) := by
  rw [leaveZone, discardCrossings_standing ha, standing_modChannel, ← ha]

theorem released_zone (hmode : c.mode = .mixed ∨ c.mode = .settling) (ha : c.active = some ho) (hw : c.waiting = none) :
    released ch ho.batch (standing ch c [] s)
      = standing ch { c with active := none, ghost := some ho, crossings := .all none } [] (discarded ch ho.batch c s) := by
  simp only [released, standing_get, isWaiting_none hw, isActive_self ha, Bool.false_eq_true, if_false, if_true]
  rcases hmode with hmode | hmode <;> simp only [hmode, leaveZone_standing ha]

/-! ### A channel going OFF and coming back (R68, R76) -/

theorem slotRecovered_off (hmode : c.mode = .off) : slotRecovered ch (standing ch c [] s)
    = standing ch { c with mode := .acquire, acquire := [] } [.channelLeftOffReport ch] s := by
  rw [slotRecovered, standing_mode, if_pos hmode, standing_modChannel, standing_hand]
  rfl

theorem offState_closed (h : ∀ x, c.excursion = some x → x.isOpen = false) : offState c = Safety.GoneOff c c.excursion := by
  have hrecord : closeRecord c = c.excursion := by
    unfold closeRecord
    cases hx : c.excursion with
    | none => rfl
    | some x => simp [h x hx]
  rw [offState, hrecord]
  rfl

/-- What is reported lost of a held interface. -/
def lostReport (ch : Channel) (o : Option HandOff) : List Instr := (o.map (fun ho => Instr.channelLostReport ch ho.batch)).toList

theorem reportLost_standing (o : Option HandOff) : reportLost ch o (standing ch c more s) = standing ch c (more ++ lostReport ch o) s := by
  cases o with
  | none => simp [reportLost, lostReport]
  | some ho => simp [reportLost, lostReport]

/-- A lost slot, by what the interface given up makes of the state. -/
theorem slotLost_standing (hmode : c.mode ≠ .off) (hclosed : ∀ x, c.excursion = some x → x.isOpen = false)
    (hgiven : supplyMidzone ch (dropDeparting ch (standing ch c [] s)) = standing ch c' more u) : slotLost ch (standing ch c [] s)
      = standing ch (Safety.GoneOff c c.excursion) (more ++ lostReport ch c.active ++ lostReport ch c.waiting) u := by
  simp only [slotLost, standing_get, if_neg hmode, hgiven, recordOpen_closed hclosed, Bool.false_eq_true, if_false, standing_setChannel,
    offState_closed hclosed, reportLost_standing]

theorem dropDeparting_other (hmode : c.mode ≠ .departing) : dropDeparting ch (standing ch c more s) = standing ch c more s := by
  rw [dropDeparting, standing_mode, if_neg hmode]

theorem dropDeparting_departing (hmode : c.mode = .departing) (ha : c.active = some ho) : dropDeparting ch (standing ch c [] s)
    = standing ch { c with crossings := .all none } [] (discarded ch ho.batch c s) := by
  rw [dropDeparting, standing_mode, if_pos hmode, discardCrossings_standing ha]

theorem dropDeparting_none (ha : c.active = none) : dropDeparting ch (standing ch c more s) = standing ch c more s := by
  unfold dropDeparting
  split
  · simp only [discardCrossings, standing_get, ha]
  · rfl

theorem supplyMidzone_none (ha : c.active = none) : supplyMidzone ch (standing ch c more s) = standing ch c more s := by
  simp only [supplyMidzone, standing_get, ha]

theorem supplyMidzone_not (ha : c.active = some ho)
    (h : ¬(ho.role = .primary ∧ (c.mode = .mixed ∨ c.mode = .settling) ∧ primaryOf s ho.batch = some ch)) :
    supplyMidzone ch (standing ch c more s) = standing ch c more s := by
  simp only [supplyMidzone, standing_get, ha]
  exact if_neg h

/-- The levels of an interface that neither its channel nor the record holds. -/
def isOpenLevel (own : Levels (Option Nat)) (j : Interface) (l : Level) : Bool :=
  (own.get l).isNone && (j.crossings.get l).isNone && !j.supplied.get l

/-- The points supplied for the open levels of an interface. -/
def openPoints (s : State) (own : Levels (Option Nat)) (j : Interface) (sn : Snapshot) : List CutPoint :=
  (Safety.Points s j.pos sn.mix).filter (fun p => isOpenLevel own j p.level)

theorem openPoints_eq_nil {own : Levels (Option Nat)} : openPoints s own j sn = [] ↔ openLevels own j = [] := by
  simp [openPoints, openLevels, isOpenLevel, Safety.Points, allLevels]

theorem contains_openLevels (own : Levels (Option Nat)) (j : Interface) (l : Level) :
    (openLevels own j).contains l = isOpenLevel own j l := by
  rw [Bool.eq_iff_iff]
  simp [openLevels, isOpenLevel, mem_allLevels]

theorem pointsOf_open {own : Levels (Option Nat)} : pointsOf s.tables j.pos sn (openLevels own j) = openPoints s own j sn := by
  simp only [pointsOf, contains_openLevels]
  rfl

theorem get_markSupplied (ls : List Level) (x : Levels Bool) (l : Level) : (markSupplied ls x).get l = (x.get l || ls.contains l) := by
  unfold markSupplied
  induction ls generalizing x with
  | nil => simp
  | cons k ls ih =>
    have hset : (x.set k true).get l = (x.get l || l == k) := by cases k <;> cases l <;> simp [Levels.get, Levels.set]
    rw [List.foldl_cons, ih, hset, List.contains_cons, Bool.or_assoc]

theorem get_suppliedOpen (own : Levels (Option Nat)) (j : Interface) (l : Level) :
    (markSupplied (openLevels own j) j.supplied).get l = (j.supplied.get l || isOpenLevel own j l) := by
  rw [get_markSupplied, contains_openLevels]

/-- An interface with its open levels marked supplied. -/
def withSupplied (own : Levels (Option Nat)) (j i : Interface) : Interface :=
  { i with supplied := markSupplied (openLevels own j) i.supplied }

/-- The state with the open levels of an interface marked supplied. -/
def marked (own : Levels (Option Nat)) (id : Nat) (j : Interface) (s : State) : State :=
  s.setTrain (modInterface id (withSupplied own j) s.lt.train)

theorem supplyPoints_standing {own : Levels (Option Nat)} (hj : interfaceOf id s.lt.train = some j) (hsn : j.snapshot = some sn)
    (hsome : openPoints s own j sn ≠ []) : supplyPoints id j.pos own (standing ch c more s)
      = standing ch c (more ++ [.volumetricPointsToCutPlanner id (openPoints s own j sn) .routeController]) (marked own id j s) := by
  have hopen : (openLevels own j).isEmpty = false := by
    rw [Bool.eq_false_iff, ne_eq, List.isEmpty_iff, ← openPoints_eq_nil (s := s) (sn := sn)]
    exact hsome
  simp only [supplyPoints, supplyWith, standing_lt, hj, hsn, hopen, Bool.false_eq_true, if_false, standing_tables, pointsOf_open]
  simp only [standing, State.hand, State.setTrain, List.append_assoc, marked]
  rfl

theorem supplyPoints_nothing {own : Levels (Option Nat)} (hj : interfaceOf id s.lt.train = some j) (hsn : j.snapshot = some sn)
    (hnone : openPoints s own j sn = []) : supplyPoints id j.pos own (standing ch c more s) = standing ch c more s := by
  have hopen : (openLevels own j).isEmpty = true := List.isEmpty_iff.mpr (openPoints_eq_nil.mp hnone)
  simp only [supplyPoints, supplyWith, standing_lt, hj, hsn, hopen, if_true]

theorem supplyMidzone_anchored (hmode : c.mode = .mixed ∨ c.mode = .settling) (ha : c.active = some ho) (hrole : ho.role = .primary)
    (hj : interfaceOf ho.batch s.lt.train = some j) (htrack : j.track = .anchored) (hsn : j.snapshot = some sn) (hprimary : sn.primary = some ch) :
    supplyMidzone ch (standing ch c more s) = supplyPoints ho.batch j.pos c.crossings (standing ch c more s) := by
  have hof : primaryOf s ho.batch = some ch := by simp [primaryOf, hj, hsn, hprimary]
  have hat : anchoredAt (standing ch c more s) ho.batch = some j.pos := by simp [Machine.anchoredAt, hj, htrack]
  simp only [supplyMidzone, standing_get, ha]
  rw [if_pos ⟨hrole, hmode, hof⟩, hat]

end

end Sys2Proof.Proofs.Channels
end

section
/-! A CONFIRMING interface that gives way to a PRIMARY one (R70, R97). -/
namespace Sys2Proof.Proofs.Channels

open Sys2Proof Sys2Proof.Machine
open Sys2Proof.Proofs.Planner
open Sys2Proof.Proofs.Train
open Sys2Proof.Proofs.Windows

/-! ### A train with leading interfaces changed -/

/-- A train in which leading interfaces alone changed. -/
def Relabelled (xs ys : List Entry) : Prop := ∃ g : Entry → Entry, ys = xs.map g ∧ ∀ e, g e = { e with leading := (g e).leading }

section
variable {xs ys zs : List Entry} {id k b : Nat} {e : Entry} {g : Interface → Interface}

theorem Relabelled.refl (xs : List Entry) : Relabelled xs xs := ⟨id, (List.map_id xs).symm, fun _ => rfl⟩

theorem Relabelled.trans (h : Relabelled xs ys) (h' : Relabelled ys zs) : Relabelled xs zs := by
  obtain ⟨f, rfl, hf⟩ := h
  obtain ⟨g, rfl, hg⟩ := h'
  refine ⟨g ∘ f, List.map_map .., fun e => ?_⟩
  rw [Function.comp_apply, hg (f e), hf e]

theorem Relabelled.modInterface (id : Nat) (g : Interface → Interface) (xs : List Entry) : Relabelled xs (modInterface id g xs) := by
  refine ⟨changed id fun e => { e with leading := e.leading.map g }, modEntry_eq_map .., fun e => ?_⟩
  unfold changed
  split <;> rfl

theorem Relabelled.findEntry (h : Relabelled xs ys) (he : Machine.findEntry b xs = some e) :
    ∃ f, Machine.findEntry b ys = some f ∧ f = { e with leading := f.leading } := by
  obtain ⟨g, rfl, hg⟩ := h
  exact ⟨g e, by rw [findEntry_map fun e => by rw [hg e], he]; rfl, hg e⟩

theorem Relabelled.aheadOf (h : Relabelled xs ys) (he : Machine.aheadOf b xs = some e) :
    ∃ f, Machine.aheadOf b ys = some f ∧ f = { e with leading := f.leading } := by
  obtain ⟨g, rfl, hg⟩ := h
  exact ⟨g e, by rw [aheadOf_map fun e => by rw [hg e], he]; rfl, hg e⟩

/-! ### A confirmation given up (R97) -/

/-- Every interface of a batch has its result. -/
def Judged (k : Nat) (xs : List Entry) : Prop := ∀ e ∈ xs, e.id = k → ∀ i, e.leading = some i → i.mfResult ≠ none

theorem judged_noConfirm (id k : Nat) (h : id = k ∨ Judged k xs) :
    Judged k (Machine.modInterface id (fun i => { i with mfResult := some .noConfirm }) xs) := by
  intro e he hid i hi
  obtain ⟨a, ha, rfl⟩ := List.mem_map.mp he
  split at hi
  next =>
    obtain ⟨j, -, rfl⟩ := Option.map_eq_some_iff.mp hi
    exact Option.some_ne_none _
  next hne =>
    rw [if_neg hne] at hid
    exact (h.resolve_left (by rintro rfl; exact hne (beq_iff_eq.mpr hid))) a ha hid i hi

theorem Judged.candidate_ne {p : Nat} {sn : Snapshot} (h : Judged k xs) (hc : confirmCandidate xs = some (id, p, sn)) : id ≠ k := by
  rintro rfl
  obtain ⟨e, he, hid, i, hi, heligible, -⟩ := confirmCandidate_mem hc
  exact h e he hid i hi (eligible_unjudged heligible)

end

section
variable {k : Nat} {s t : State} {pre : List Instr} {i : Interface}

/-- Candidates passed over while the MANIFOLD channel holds a PRIMARY interface. -/
structure PassedOver (k : Nat) (s t : State) : Prop where
  frame : ∃ ys more, t = { s with lt := { s.lt with train := ys }, handed := s.handed ++ more }
  relabelled : Relabelled s.lt.train t.lt.train
  interface : interfaceOf k t.lt.train = interfaceOf k s.lt.train

theorem PassedOver.refl (k : Nat) (s : State) : PassedOver k s s := ⟨⟨_, [], by rw [List.append_nil]⟩, .refl _, rfl⟩

theorem manifoldPrimary_of_holds (h : holdsPrimary s = true) : manifoldPrimary s = true := by
  unfold manifoldPrimary
  rw [show ((s.sd.manifold.active.map (·.role)) == some .primary || (s.sd.manifold.waiting.map (·.role)) == some .primary) = true from h,
    Bool.true_or]

theorem passedOver_confirmLoop (n : Nat) : ∀ u : State, holdsPrimary u = true → Judged k u.lt.train → PassedOver k u (confirmLoop n u) := by
  induction n with
  | zero => exact fun u _ _ => .refl k u
  | succ n ih =>
    intro u hheld hjudged
    unfold confirmLoop
    split
    · exact .refl k u
    · split
      · exact .refl k u
      · rename_i id p sn hc
        dsimp only
        split
        · exact .refl k u
        · split
          · obtain ⟨⟨ys, more, hframe⟩, hrelabelled, hinterface⟩ :=
              ih (noConfirm id 2 u) hheld (judged_noConfirm id k (.inr hjudged))
            exact ⟨⟨ys, .eventPosted .mfNoConfirm id 2 :: more, by rw [hframe]; simp [noConfirm, State.post, State.hand, State.setTrain]⟩,
              (Relabelled.modInterface ..).trans hrelabelled, hinterface.trans (interfaceOf_modOther (hjudged.candidate_ne hc))⟩
          · rw [if_pos (manifoldPrimary_of_holds hheld)]
            exact .refl k u

/-- What giving way makes of a state: the frame of `Safety.GivesWay`, with the train relabelled. -/
structure GivenUp (k : Nat) (s t : State) (pre : List Instr) : Prop where
  frame : t = { s with lt := { s.lt with train := t.lt.train, confirm := t.lt.confirm }, handed := s.handed ++ pre }
  relabelled : Relabelled s.lt.train t.lt.train
  named : s.lt.confirm.map (·.batch) = some k → t.lt.confirm = none ∧ ∃ more, pre = .eventPosted .mfNoConfirm k 3 :: more
  other : s.lt.confirm.map (·.batch) ≠ some k → t.lt.confirm = s.lt.confirm ∧ pre = [] ∧ t.lt.train = s.lt.train
  interface : ∀ j, interfaceOf k s.lt.train = some j → interfaceOf k t.lt.train
    = some { j with mfResult := if s.lt.confirm.map (·.batch) = some k then some .noConfirm else j.mfResult }

theorem givenUp_confirmGivenUp (k : Nat) (s : State) (hheld : holdsPrimary s = true) : ∃ pre, GivenUp k s (confirmGivenUp k s) pre := by
  by_cases hnamed : s.lt.confirm.map (·.batch) = some k
  · obtain ⟨c, hc, hbatch⟩ := Option.map_eq_some_iff.mp hnamed
    have hend : confirmGivenUp k s = considerConfirm (noConfirm k 3 (s.setConfirm none)) := by
      simp only [confirmGivenUp, hc, hbatch, if_true, endConfirm]
    obtain ⟨⟨ys, more, hframe⟩, hrelabelled, hinterface⟩ := passedOver_confirmLoop (k := k)
      (noConfirm k 3 (s.setConfirm none)).lt.train.length (noConfirm k 3 (s.setConfirm none)) hheld (judged_noConfirm k k (.inl rfl))
    rw [← considerConfirm, ← hend] at hframe hrelabelled hinterface
    refine ⟨.eventPosted .mfNoConfirm k 3 :: more, ?_, (Relabelled.modInterface ..).trans hrelabelled, fun _ => ⟨?_, more, rfl⟩,
      fun h => absurd hnamed h, fun j hj => ?_⟩
    · rw [hframe]
      simp [noConfirm, State.post, State.hand, State.setTrain, State.setConfirm]
    · rw [hframe]
      rfl
    · rw [hinterface, if_pos hnamed]
      exact interfaceOf_modInterface hj
  · have hsame : confirmGivenUp k s = s := by
      cases hc : s.lt.confirm with
      | none => simp only [confirmGivenUp, hc]
      | some c =>
        rw [hc] at hnamed
        simp only [confirmGivenUp, hc]
        exact if_neg fun h => hnamed (congrArg some h)
    rw [hsame]
    refine ⟨[], by rw [List.append_nil], .refl _, fun h => absurd h hnamed, fun _ => ⟨rfl, rfl, rfl⟩, fun j hj => ?_⟩
    rw [hj, if_neg hnamed]

/-- The train as a channel leaves it that discards its crossings for a batch, or keeps them. -/
def Discards (k : Nat) (c : ChannelState) (xs ys : List Entry) : Prop :=
  ys = xs ∨ ys = modInterface k (withoutCrossings .manifold c) xs

theorem Discards.relabelled {c : ChannelState} {xs ys : List Entry} (h : Discards k c xs ys) : Relabelled xs ys := by
  rcases h with rfl | rfl
  · exact .refl _
  · exact .modInterface ..

/-- Giving way after crossings were discarded. -/
theorem GivenUp.givesWay {u : State} {c : ChannelState} (h : GivenUp k u t pre) (hconfirm : u.lt.confirm = s.lt.confirm)
    (htrain : Discards k c s.lt.train u.lt.train) : Safety.GivesWay k s t pre := by
  have hlabels : Relabelled s.lt.train t.lt.train := htrain.relabelled.trans h.relabelled
  refine ⟨fun hnamed => h.named (hconfirm ▸ hnamed), fun hnot => ?_, fun j hj => ?_, fun b e he => hlabels.findEntry he⟩
  · obtain ⟨hc, hpre, ht⟩ := h.other (hconfirm ▸ hnot)
    refine ⟨hc.trans hconfirm, hpre, fun b hb => ?_⟩
    rw [ht]
    rcases htrain with htrain | htrain <;> rw [htrain]
    exact findEntry_modOther hb
  · have hmine : ∃ x, (primaryOf s k ≠ some .manifold → x = j.crossings)
        ∧ interfaceOf k u.lt.train = some { j with crossings := x } := by
      rcases htrain with htrain | htrain <;> rw [htrain]
      · exact ⟨j.crossings, fun _ => rfl, hj⟩
      · obtain ⟨x, hx, hget⟩ := withoutCrossings_eq .manifold c j
        refine ⟨x, fun hnot => ?_, (interfaceOf_modInterface hj).trans (congrArg some hx)⟩
        have hother : (j.snapshot.bind (·.primary)) ≠ some .manifold := by simpa [primaryOf, hj] using hnot
        have hkeeps : withoutCrossings .manifold c j = j := if_neg hother
        exact congrArg Interface.crossings (hx.symm.trans hkeeps)
    obtain ⟨x, hx, hu⟩ := hmine
    refine ⟨x, hx, ?_⟩
    rw [h.interface _ hu, hconfirm]

end

end Sys2Proof.Proofs.Channels
end

section
/-! A channel handed an interface (R64, R70). -/
namespace Sys2Proof.Proofs.Channels

open Sys2Proof Sys2Proof.Machine
open Sys2Proof.Proofs.Answers
open Sys2Proof.Proofs.Windows

section
variable {ch : Channel} {c c' d : ChannelState} {pre more : List Instr} {s u : State} {ho k : HandOff} {p : RefPair} {held : Bool}

/-! ### An interface taken (R64, R70) -/

theorem referencePair_eq (h : Safety.PairFor c ho p s) : referencePair s c ho.batch = p := by
  obtain ⟨e, a, he, ha, hbehind, hshort, hfull⟩ := h
  unfold referencePair
  simp only [he, ha, densityOf]
  have hahead : (if Config.acquireCount ≤ c.body.length then (bodyMean c).getD (a.density : Int) else a.density) = p.ahead := by
    split
    next hlength =>
      have hne : c.body ≠ [] := by rintro hnil; simp [hnil, Config.acquireCount] at hlength
      rw [bodyMean, meanOf_rounded hne (hfull hlength), Option.getD_some]
    next hlength => exact (hshort (Nat.not_le.mp hlength)).symm
  rw [hahead, ← hbehind]

/-- A pair stands where leading interfaces alone changed. -/
theorem pairFor_relabelled (h : Safety.PairFor c ho p s) (hr : Relabelled s.lt.train u.lt.train) : Safety.PairFor c ho p u := by
  obtain ⟨e, a, he, ha, hbehind, hshort, hfull⟩ := h
  obtain ⟨e', he', hdense⟩ := hr.findEntry he
  obtain ⟨a', ha', hdense'⟩ := hr.aheadOf ha
  exact ⟨e', a', he', ha', by rw [hdense]; exact hbehind, by rw [hdense']; exact hshort, hfull⟩

/-- A channel that follows an interface taken, in WATCH. -/
def watching (ho : HandOff) (p : RefPair) (d : ChannelState) : ChannelState :=
  { unfollow .watch d with active := some ho, waiting := none, pair := some p, measure := none }

theorem currentFraction_watching : currentFraction (watching ho p d) = d.current.map (fun r => mixFraction p r.value) := by
  unfold currentFraction watching unfollow
  cases d.current <;> rfl

theorem takeInterface_low (hp : referencePair u d ho.batch = p) (h : pairContrast p < u.tables.params.minContrast) :
    takeInterface ch ho (standing ch d pre u) = standing ch { unfollow .clean d with measure := none, waiting := none }
      (pre ++ [.lowContrastReport ch ho.batch ho.role (pairContrast p)]) u := by
  have hp' : referencePair (standing ch d pre u) d ho.batch = p := hp
  simp only [takeInterface, standing_get, hp', standing_tables, if_pos h, standing_setChannel, standing_hand]

theorem takeInterface_watch (hp : referencePair u d ho.batch = p) (h : ¬pairContrast p < u.tables.params.minContrast)
    (hbelow : ∀ n, currentFraction (watching ho p d) = some n → n < ho.fd) :
    takeInterface ch ho (standing ch d pre u) = standing ch (watching ho p d) pre u := by
  have hp' : referencePair (standing ch d pre u) d ho.batch = p := hp
  simp only [takeInterface, standing_get, hp', standing_tables, if_neg h, standing_setChannel]
  split
  next => rfl
  next n hf => exact if_neg (Nat.not_le.mpr (hbelow n hf))

theorem takeInterface_locked {n : Nat} (hp : referencePair u d ho.batch = p) (h : ¬pairContrast p < u.tables.params.minContrast)
    (hf : currentFraction (watching ho p d) = some n) (habove : ho.fd ≤ n) :
    takeInterface ch ho (standing ch d pre u) = standing ch { watching ho p d with mode := .locked }
      (pre ++ [.eventPosted .detectorLocked ho.batch (fractionDetail ch n)]) u := by
  have hp' : referencePair (standing ch d pre u) d ho.batch = p := hp
  simp only [takeInterface, standing_get, hp', standing_tables, if_neg h, standing_setChannel]
  split
  next hnone => exact absurd (hf.symm.trans hnone) (Option.some_ne_none n)
  next m hf' =>
    obtain rfl := Option.some.inj (hf.symm.trans hf')
    exact (if_pos habove).trans standing_post

/-- What becomes of a hand-off rests on the working tables alone. -/
theorem takes_of_tables {d' : ChannelState} (h : Safety.Takes ch ho p d d' u more) (ht : u.tables = s.tables) :
    Safety.Takes ch ho p d d' s more := by
  unfold Safety.Takes at h ⊢
  rwa [ht] at h

/-- What a channel that is handed an interface makes of it. -/
theorem takeInterface_takes (hp : Safety.PairFor d ho p u) (hheld : ch = .manifold → (held = true ↔ ho.role = .primary)) :
    ∃ d' more, takeInterface ch ho (standing ch d pre u) = standing ch d' (pre ++ more) u
      ∧ Safety.Takes ch ho p d d' u (more ++ ceased ch held d') := by
  have hpair := referencePair_eq hp
  have hkept : ∀ m : ChannelMode, ceased ch held { watching ho p d with mode := m } = [] := fun m => by
    refine ceased_manifold fun hch h => ?_
    have hrole := (hheld hch).mp h
    simp [holds, watching, hrole]
  by_cases hlow : pairContrast p < u.tables.params.minContrast
  · refine ⟨_, _, takeInterface_low hpair hlow, fun hmin => absurd hlow (Nat.not_lt.mpr hmin), fun _ => ⟨rfl, rfl, rfl, rfl, ?_⟩⟩
    rw [ceased_of_iff hheld rfl]
    rfl
  · by_cases habove : ∃ n, currentFraction (watching ho p d) = some n ∧ ho.fd ≤ n
    · obtain ⟨n, hf, hn⟩ := habove
      refine ⟨_, _, takeInterface_locked hpair hlow hf hn, fun _ => ⟨fun hbelow => ?_, fun m hm hm' => ?_⟩, fun hlt => absurd hlt hlow⟩
      · exact absurd (hbelow n (currentFraction_watching ▸ hf)) (Nat.not_lt.mpr hn)
      · obtain rfl := Option.some.inj ((currentFraction_watching ▸ hf).symm.trans hm)
        refine ⟨rfl, ⟨rfl, rfl, rfl, rfl, rfl, rfl⟩, ?_⟩
        rw [hkept]
        rfl
    · have hbelow : ∀ n, currentFraction (watching ho p d) = some n → n < ho.fd := fun n hn =>
        Nat.not_le.mp fun hle => habove ⟨n, hn, hle⟩
      refine ⟨_, [], (takeInterface_watch hpair hlow hbelow).trans (by rw [List.append_nil]), fun _ => ⟨fun _ => ?_, fun n hn hle => ?_⟩,
        fun hlt => absurd hlt hlow⟩
      · exact ⟨rfl, ⟨rfl, rfl, rfl, rfl, rfl, rfl⟩, hkept .watch⟩
      · exact absurd (hbelow n (currentFraction_watching.trans hn)) (Nat.not_lt.mpr hle)

/-! ### The event -/

/-- A hand-off of an interface, by what it makes of the channel; a PRIMARY one to MANIFOLD counts as held [36]. -/
theorem handOff_exec (hrun : s.running = true)
    (hk : takeHandOff ch ho (s.take (.channelInterfaceHanded ch ho)) = standing ch c' more u) (hu : u.sd = s.sd) :
    exec (.channelInterfaceHanded ch ho) s
      = .next (standing ch c' (more ++ ceased ch (holds (s.sd.get ch) || ho.role == .primary) c') u) := by
  have hexec : exec (.channelInterfaceHanded ch ho) s = .next (reportCeased
      (heldBefore ch ho (s.take (.channelInterfaceHanded ch ho))) (takeHandOff ch ho (s.take (.channelInterfaceHanded ch ho)))) :=
    event_running (k := fun s => reportCeased (heldBefore ch ho s) (takeHandOff ch ho s)) hrun
  rw [hexec, hk]
  cases ch with
  | advance =>
    rw [reportCeased_standing fun _ => by simp [heldBefore, holdsPrimary_eq, hu]]
    simp [ceased]
  | manifold =>
    rw [reportCeased_standing (ch := .manifold) (fun h => nomatch h)]
    rfl

/-- A hand-off to the channel that stands as `c`. -/
theorem handOff_standing (hrun : s.running = true) (hc : s.sd.get ch = c)
    (hk : takeHandOff ch ho (standing ch c [] (s.take (.channelInterfaceHanded ch ho))) = standing ch c' more u) (hu : u.sd = s.sd) :
    exec (.channelInterfaceHanded ch ho) s = .next (standing ch c' (more ++ ceased ch (holds c || ho.role == .primary) c') u) := by
  rw [standing_self (s := s.take (.channelInterfaceHanded ch ho)) hc] at hk
  rw [handOff_exec hrun hk hu, hc]

/-! ### An interface held as waiting (R70) -/

theorem holdWaiting_standing (hw : c.waiting = none) (hnot : ¬(ho.role = .confirming ∧ holdsPrimary (standing ch c [] s) = true)) :
    holdWaiting ch ho (standing ch c [] s) = standing ch { c with waiting := some ho } [] s := by
  simp only [holdWaiting, standing_get, standing_setChannel]
  rw [if_neg hnot, hw]
  simp only [giveUp, ite_self]

theorem giveUpJudged_standing (h : ¬(ho.role = .primary ∧ c.active.map (·.role) = some .confirming)) :
    giveUpJudged ch ho (standing ch c [] s) = standing ch c [] s := by
  rw [giveUpJudged, standing_modChannel, if_neg h]

theorem takeHandOff_judges (hmode : c.mode = .mixed ∨ c.mode = .settling) :
    takeHandOff ch ho (standing ch c [] s) = holdWaiting ch ho (giveUpJudged ch ho (standing ch c [] s)) := by
  rcases hmode with hmode | hmode <;> simp only [takeHandOff, standing_mode, hmode]

theorem takeHandOff_waits (hmode : c.mode = .acquire ∨ c.mode = .excursion ∨ c.mode = .mixed ∨ c.mode = .settling)
    (hjudged : ¬(ho.role = .primary ∧ c.active.map (·.role) = some .confirming)) :
    takeHandOff ch ho (standing ch c [] s) = holdWaiting ch ho (standing ch c [] s) := by
  rcases hmode with hmode | hmode | hmode
  · simp only [takeHandOff, standing_mode, hmode]
  · simp only [takeHandOff, standing_mode, hmode]
  · rw [takeHandOff_judges hmode, giveUpJudged_standing hjudged]

theorem takeHandOff_clean (hmode : c.mode = .clean) :
    takeHandOff ch ho (standing ch c [] s) = takeInterface ch ho (standing ch c [] s) := by
  simp only [takeHandOff, standing_mode, hmode]

theorem takeHandOff_off (hmode : c.mode = .off) :
    takeHandOff ch ho (standing ch c [] s) = standing ch c [.channelLostReport ch ho.batch] s := by
  simp only [takeHandOff, standing_mode, hmode, standing_hand, List.nil_append]

theorem takeHandOff_replaces (hmode : c.mode = .watch ∨ c.mode = .locked ∨ c.mode = .departing) :
    takeHandOff ch ho (standing ch c [] s) = replaceActive ch ho (standing ch c [] s) := by
  rcases hmode with hmode | hmode | hmode <;> simp only [takeHandOff, standing_mode, hmode]

end

end Sys2Proof.Proofs.Channels
end

section
/-! A channel takes and loses interfaces (O48). -/
namespace Sys2Proof.Proofs.Channels

open Sys2Proof Sys2Proof.Machine
open Sys2Proof.Proofs.Windows

section
variable {ch : Channel} {c : ChannelState} {s u : State} {ho k : HandOff} {p : RefPair}

/-! ### A PRIMARY interface beside a CONFIRMING one (R70) -/

/-- The state in which a PRIMARY interface waits to be taken in place of the one followed. -/
def replacing (ho : HandOff) (c : ChannelState) : ChannelState := { unfollow .clean c with waiting := some ho }

theorem holds_replacing (hrole : ho.role = .primary) : holds (replacing ho c) = true := by simp [holds, replacing, unfollow, hrole]

/-- The crossings of the MANIFOLD channel gone in DEPARTING, and as they stand else. -/
def dropped (k : Nat) (c : ChannelState) (s : State) : State := if c.mode = .departing then discarded .manifold k c s else s

theorem dropped_sd (id : Nat) : (dropped id c s).sd = s.sd := by
  unfold dropped
  split <;> rfl

theorem dropped_discards (id : Nat) : Discards id c s.lt.train (dropped id c s).lt.train := by
  unfold dropped
  split
  · exact .inr rfl
  · exact .inl rfl

theorem dropped_eq (id : Nat) : dropped id c s = { s with
    lt := { s.lt with train := (dropped id c s).lt.train }
    handed := if c.mode = .departing then s.handed.filter (fun y => !crossingOf .manifold id y) else s.handed } := by
  unfold dropped
  split <;> rfl

theorem replaceActive_standing (hrole : ho.role = .primary) (hconfirming : k.role = .confirming) (ha : c.active = some k) :
    replaceActive .manifold ho (standing .manifold c [] s)
      = takeInterface .manifold ho (confirmGivenUp k.batch (standing .manifold (replacing ho c) [] (dropped k.batch c s))) := by
  have hnot : ¬(ho.role = .confirming ∧ holdsPrimary (standing .manifold c [] s) = true) := by simp [hrole]
  have hdrop : modChannel .manifold (fun c => { unfollow .clean c with waiting := some ho }) (dropDeparting .manifold (standing .manifold c [] s))
      = standing .manifold (replacing ho c) [] (dropped k.batch c s) := by
    unfold dropped
    split
    next hmode => rw [dropDeparting_departing hmode ha, standing_modChannel]; rfl
    next hmode => rw [dropDeparting_other hmode, standing_modChannel]; rfl
  have hgiven : giveUp (some k) = confirmGivenUp k.batch := funext fun s => if_pos hconfirming
  unfold replaceActive
  dsimp only
  rw [if_neg hnot, standing_get, hdrop, if_pos hrole, ha, hgiven]

/-- A state with the train and the confirmation record of another. -/
def tracked (t v : State) : State := { v with lt := { v.lt with train := t.lt.train, confirm := t.lt.confirm } }

/-- The state in which an interface was given up, its channel standing. -/
theorem GivenUp.standing_eq {t : State} {pre : List Instr} (h : GivenUp k.batch (standing ch c [] u) t pre) :
    t = standing ch c pre (tracked t u) := by
  have hframe := h.frame
  simp only [standing, List.append_nil] at hframe
  exact hframe

theorem primaryReplaces (hrun : s.running = true) (hrole : ho.role = .primary) (hconfirming : k.role = .confirming) :
    Safety.PrimaryReplaces ho k s := by
  unfold Safety.PrimaryReplaces
  intro c h
  have hself : standing .manifold c [] (s.take h) = s.take h := standing_self rfl
  have hnotConfirming : ∀ u : State, ¬(ho.role = .confirming ∧ holdsPrimary u = true) := fun u => by simp [hrole]
  refine ⟨fun p hmode ha hw hp => ?_, fun hmode ha hw => ?_, fun hmode ha hw => ?_⟩
  · have hk := (takeHandOff_replaces hmode).trans (replaceActive_standing (s := s.take h) hrole hconfirming ha)
    have hdiscards := dropped_discards (c := c) (s := s.take h) k.batch
    have hdropped := dropped_eq (c := c) (s := s.take h) k.batch
    generalize dropped k.batch c (s.take h) = v at hk hdiscards hdropped
    have hsd : v.sd = s.sd := congrArg (·.sd) hdropped
    have hconfirm : v.lt.confirm = s.lt.confirm := congrArg (·.lt.confirm) hdropped
    obtain ⟨pre, hgiven⟩ := givenUp_confirmGivenUp k.batch (standing .manifold (replacing ho c) [] v)
      (holdsPrimary_standing.trans (holds_replacing hrole))
    generalize confirmGivenUp k.batch (standing .manifold (replacing ho c) [] v) = t at hk hgiven
    have hways := hgiven.givesWay (s := s) (c := c) hconfirm hdiscards
    obtain ⟨d, more, htakes, hresult⟩ := takeInterface_takes (ch := .manifold) (d := replacing ho c) (pre := pre) (held := true)
      (u := tracked t v) (pairFor_relabelled hp (hdiscards.relabelled.trans hgiven.relabelled)) (fun _ => by simp [hrole])
    rw [hself] at hk
    have hexec := handOff_exec hrun (hk.trans ((congrArg _ hgiven.standing_eq).trans htakes)) hsd
    rw [show (holds (s.sd.get .manifold) || ho.role == .primary) = true by simp [hrole], List.append_assoc] at hexec
    have hframe : tracked t v = { s with
        lt := { s.lt with train := t.lt.train, confirm := t.lt.confirm }
        handed := if c.mode = .departing then (s.handed.erase h).filter (fun y => !crossingOf .manifold k.batch y)
          else s.handed.erase h } := by
      rw [tracked, hdropped]
      rfl
    refine ⟨_, pre, more ++ ceased .manifold true d, hexec, takes_of_tables hresult (congrArg (·.tables) hdropped), hways, ?_⟩
    rw [hframe]
    simp only [standing, List.append_assoc]
    rfl
  · have hgives : giveUp (some k) = confirmGivenUp k.batch := funext fun s => if_pos hconfirming
    have hnone : c.active.map (·.role) ≠ some .confirming := by simp [ha]
    have hk : takeHandOff .manifold ho (standing .manifold c [] (s.take h))
        = confirmGivenUp k.batch (standing .manifold { c with waiting := some ho } [] (s.take h)) := by
      rw [takeHandOff_waits hmode fun hj => hnone hj.2, holdWaiting]
      dsimp only
      rw [if_neg (hnotConfirming _), if_pos hrole, standing_get, hw, hgives, standing_setChannel]
    have hholds : holds { c with waiting := some ho } = true := by simp [holds, hrole]
    obtain ⟨pre, hgiven⟩ := givenUp_confirmGivenUp k.batch (standing .manifold { c with waiting := some ho } [] (s.take h))
      (holdsPrimary_standing.trans hholds)
    generalize confirmGivenUp k.batch (standing .manifold { c with waiting := some ho } [] (s.take h)) = t at hk hgiven
    have hways := hgiven.givesWay (s := s) (c := c) rfl (.inl rfl)
    rw [hself] at hk
    have hexec := handOff_exec hrun (hk.trans hgiven.standing_eq) rfl
    rw [ceased_kept fun _ => hholds, List.append_nil] at hexec
    exact ⟨_, pre, hexec, hways, rfl⟩
  · have hjudged : giveUpJudged .manifold ho (standing .manifold c [] (s.take h))
        = standing .manifold { c with active := none, ghost := some k } [] (s.take h) := by
      rw [giveUpJudged, standing_modChannel, if_pos ⟨hrole, by rw [ha, Option.map_some, hconfirming]⟩, ha]
    have hk : takeHandOff .manifold ho (standing .manifold c [] (s.take h))
        = standing .manifold { c with active := none, ghost := some k, waiting := some ho } [] (s.take h) := by
      rw [takeHandOff_judges hmode, hjudged]
      exact holdWaiting_standing (by exact hw) (hnotConfirming _)
    rw [hself] at hk
    have hexec := handOff_exec hrun hk rfl
    rw [ceased_kept fun _ => by simp [holds, hrole]] at hexec
    simp only [standing, List.append_nil] at hexec
    exact hexec

end

end Sys2Proof.Proofs.Channels
end

section
/-! A channel takes, loses and gives up interfaces (O48). -/
namespace Sys2Proof.Proofs.Channels

open Sys2Proof Sys2Proof.Machine
open Sys2Proof.Proofs.Planner
open Sys2Proof.Proofs.Windows

section
variable {ch : Channel} {c : ChannelState} {s u : State} {ho : HandOff} {more : List Instr}

/-! ### A slot lost (R68, R76) -/

theorem goneOff_holds (c : ChannelState) (x : Option Excursion) : holds (Safety.GoneOff c x) = false := rfl

/-- A lost slot reports the one interface held as lost, and where due that the channel has ceased to hold it. -/
theorem slotLost_reports (hrun : s.running = true) (hc : s.sd.get ch = c) (hmode : c.mode ≠ .off)
    (hclosed : ∀ x, c.excursion = some x → x.isOpen = false)
    (hheld : c.active = some ho ∧ c.waiting = none ∨ c.active = none ∧ c.waiting = some ho) {c' : ChannelState}
    (hgiven : supplyMidzone ch (dropDeparting ch (standing ch c [] (s.take (.channelSlotLost ch)))) = standing ch c' more u) (hu : u.sd = s.sd) :
    exec (.channelSlotLost ch) s = .next (standing ch (Safety.GoneOff c c.excursion)
      (more ++ .channelLostReport ch ho.batch :: Safety.Ceased ch ho) u) := by
  have hreport : lostReport ch c.active ++ lostReport ch c.waiting = [.channelLostReport ch ho.batch] := by
    rcases hheld with ⟨ha, hw⟩ | ⟨ha, hw⟩ <;> simp [lostReport, ha, hw]
  have hholds : holds c = true ↔ ho.role = .primary := by
    rcases hheld with ⟨ha, hw⟩ | ⟨ha, hw⟩
    · exact holds_active ha hw
    · exact holds_waiting ha hw
  have hk := slotLost_standing hmode hclosed hgiven
  rw [List.append_assoc, hreport] at hk
  have hexec := standing_ceased (slotLost_exec hrun ch) hc hk hu hholds (goneOff_holds ..)
  rw [List.append_assoc] at hexec
  exact hexec

theorem losesItsSlot (hrun : s.running = true) : Safety.LosesItsSlot ch ho s := by
  unfold Safety.LosesItsSlot
  intro c l lost off plain hclosed
  have hc : s.sd.get ch = c := rfl
  have hplain (hmode : c.mode ≠ .off) (hheld : c.active = some ho ∧ c.waiting = none ∨ c.active = none ∧ c.waiting = some ho)
      (hgiven : supplyMidzone ch (dropDeparting ch (standing ch c [] (s.take l))) = standing ch c [] (s.take l)) : plain :=
    slotLost_reports hrun hc hmode hclosed hheld hgiven rfl
  refine ⟨fun ha hw hmode => hplain hmode (.inr ⟨ha, hw⟩) ?_, fun ha hw => ⟨fun hmode => ?_, fun hmode => ?_,
    fun hmode => ⟨fun hnot => ?_, ?_⟩⟩⟩
  · rw [dropDeparting_none ha, supplyMidzone_none ha]
  · have hon : c.mode ≠ .off ∧ c.mode ≠ .departing ∧ ¬(c.mode = .mixed ∨ c.mode = .settling) := by
      rcases hmode with hmode | hmode <;> simp [hmode]
    refine hplain hon.1 (.inl ⟨ha, hw⟩) ?_
    rw [dropDeparting_other hon.2.1]
    exact supplyMidzone_not ha fun h => hon.2.2 h.2.1
  · have hgiven : supplyMidzone ch (dropDeparting ch (standing ch c [] (s.take l)))
        = standing ch { c with crossings := .all none } [] (discarded ch ho.batch c (s.take l)) := by
      rw [dropDeparting_departing hmode ha]
      exact supplyMidzone_not (by exact ha) fun h => by simp [hmode] at h
    exact ⟨_, slotLost_reports hrun hc (hmode.trans_ne nofun) hclosed (.inl ⟨ha, hw⟩) hgiven rfl, crossingsGone_standing rfl _, rfl⟩
  · have hon : c.mode ≠ .off ∧ c.mode ≠ .departing := by rcases hmode with hmode | hmode <;> simp [hmode]
    refine hplain hon.1 (.inl ⟨ha, hw⟩) ?_
    rw [dropDeparting_other hon.2]
    refine supplyMidzone_not ha fun h => ?_
    rcases hnot with hrole | hprimary
    · simp [hrole] at h
    · exact hprimary h.2.2
  · intro j sn hrole hj htrack hsn hprimary opens points
    have hon : c.mode ≠ .off ∧ c.mode ≠ .departing := by rcases hmode with hmode | hmode <;> simp [hmode]
    have hmidzone : supplyMidzone ch (dropDeparting ch (standing ch c [] (s.take l)))
        = supplyPoints ho.batch j.pos c.crossings (standing ch c [] (s.take l)) := by
      rw [dropDeparting_other hon.2]
      exact supplyMidzone_anchored hmode ha hrole hj htrack hsn hprimary
    by_cases hnone : openPoints (s.take l) c.crossings j sn = []
    · have hexec := slotLost_reports hrun hc hon.1 hclosed (.inl ⟨ha, hw⟩) (hmidzone.trans (supplyPoints_nothing hj hsn hnone)) rfl
      have hsame : markSupplied (openLevels c.crossings j) j.supplied = j.supplied := by
        rw [openPoints_eq_nil.mp hnone]
        rfl
      refine ⟨_, _, hexec, by rw [hsame]; exact hj, get_suppliedOpen c.crossings j, fun b _ => rfl, ?_⟩
      · rw [if_pos (show points = [] from hnone)]
        simp only [standing, List.nil_append, List.append_nil]
        rfl
    · have hexec := slotLost_reports hrun hc hon.1 hclosed (.inl ⟨ha, hw⟩) (hmidzone.trans (supplyPoints_standing hj hsn hnone)) rfl
      refine ⟨_, _, hexec, interfaceOf_modInterface hj, get_suppliedOpen c.crossings j, fun b hb => findEntry_modOther hb, ?_⟩
      · rw [if_neg (show points ≠ [] from hnone)]
        simp only [standing, List.nil_append, List.append_assoc]
        rfl

end

/-- Settles O48. -/
theorem channelTakesAndLosesInterfaces : Obligations.ChannelTakesAndLosesInterfaces := by
  intro ch ho s hrun c h expiry release ceasing becomes
  have hc : s.sd.get ch = c := rfl
  clear_value c
  refine ⟨fun p hmode ha hw hp => ?_, fun hmode hw hconfirming hfree => ?_, fun k hch hrole hk => ?_, fun hmode hfree => ?_, losesItsSlot hrun,
    fun hmode ha hw => ⟨?_, ?_⟩, fun hmode ha => ⟨fun hw => ?_, fun hw => ?_⟩, fun hmode ha hw => ?_, fun ha hw => ⟨?_, ?_⟩,
    fun hmode => ⟨?_, ?_⟩⟩
  · have hheld : ch = .manifold → ((holds c || ho.role == .primary) = true ↔ ho.role = .primary) := fun _ => by simp [holds_none ha hw]
    obtain ⟨d, more, htakes, hresult⟩ := takeInterface_takes (ch := ch) (pre := []) (u := s.take h) hp hheld
    exact ⟨d, _, handOff_standing hrun hc ((takeHandOff_clean hmode).trans htakes) rfl, hresult⟩
  · have hjudged : ¬(ho.role = .primary ∧ c.active.map (·.role) = some .confirming) := by
      rintro ⟨hrole, hact⟩
      obtain ⟨k, hk, hkrole⟩ := Option.map_eq_some_iff.mp hact
      rw [hconfirming hrole k hk] at hkrole
      cases hkrole
    have hnot : ¬(ho.role = .confirming ∧ holdsPrimary (standing ch c [] (s.take h)) = true) := by
      rintro ⟨hrole, hheld⟩
      rw [standing_self (s := s.take h) hc] at hheld
      rcases hfree with hprimary | hfree
      · rw [hprimary] at hrole
        cases hrole
      · exact Bool.false_ne_true (hfree.symm.trans hheld)
    have hkept : (holds c || ho.role == .primary) = true → holds { c with waiting := some ho } = true := by
      simp only [holds, hw, Bool.or_eq_true, beq_iff_eq, Option.map_some]
      rintro ((hact | hnone) | hrole)
      · exact .inl hact
      · cases hnone
      · exact .inr (congrArg some hrole)
    have hexec := handOff_standing hrun hc ((takeHandOff_waits hmode hjudged).trans (holdWaiting_standing hw hnot)) rfl
    rw [ceased_kept hkept] at hexec
    exact hexec
  · subst hch
    exact primaryReplaces hrun hrole hk
  · have hexec := handOff_standing hrun hc (takeHandOff_off (s := s.take h) hmode) rfl
    have hgone : ceased ch (holds c || ho.role == .primary) c = ceasing := by
      cases ch with
      | advance => rfl
      | manifold =>
        have hnone : holds c = false := hc ▸ hfree.resolve_left nofun
        exact ceased_of_iff (fun _ => by simp [hnone]) hnone
    have hsd : s.sd.set ch c = s.sd := by rw [← hc, PerChannel.set_get]
    rw [hexec, hgone]
    simp only [standing, State.take_sd, hsd]
    rfl
  · exact standing_ceased (expiry_exec hrun ch ho.batch) hc (windowExpired_watching hmode ha hw) rfl (holds_active ha hw) (holds_none rfl hw)
  · exact standing_ceased (release_exec hrun ch ho.batch) hc (released_watching hmode ha hw) rfl (holds_active ha hw) (holds_none rfl hw)
  · exact standing_kept (expiry_exec hrun ch ho.batch) hc (windowExpired_departing hmode ha hw) rfl rfl
  · exact ⟨_, standing_ceased (release_exec hrun ch ho.batch) hc (released_departing hmode ha hw) rfl (holds_active ha hw) (holds_none rfl hw),
      crossingsGone_standing rfl _, rfl⟩
  · exact ⟨_, standing_ceased (release_exec hrun ch ho.batch) hc (released_zone hmode ha hw) rfl (holds_active ha hw) (holds_none rfl hw),
      crossingsGone_standing rfl _, rfl⟩
  · exact standing_ceased (expiry_exec hrun ch ho.batch) hc (windowExpired_waiting hw) rfl (holds_waiting ha hw) (holds_none ha rfl)
  · exact standing_ceased (release_exec hrun ch ho.batch) hc (released_waiting hw) rfl (holds_waiting ha hw) (holds_none ha rfl)
  · exact standing_kept (slotRecovered_exec hrun ch) hc (slotRecovered_off hmode) rfl rfl
  · have hoff : slotLost ch (standing ch c [] (s.take (.channelSlotLost ch))) = standing ch c [] (s.take (.channelSlotLost ch)) := by
      simp only [slotLost, standing_get, if_pos hmode]
    rw [standing_kept (slotLost_exec hrun ch) hc hoff rfl rfl, standing_self (s := s.take (.channelSlotLost ch)) hc]

end Sys2Proof.Proofs.Channels
end
